-- ==== Sys2Proof/Word.lean ====
section
/-! DEFINITION. The word types of the link and the plainest arithmetic on them. Numbers that the manual counts are `Nat`,
temperatures and the speed offset are `Int`; only what travels as bits is a bit vector. -/

namespace Sys2Proof

/-- One byte on the serial link (R190). -/
abbrev Byte := BitVec 8

/-- A CRC-16 register (R181). -/
abbrev Crc := BitVec 16

/-- A counter that stops at its ceiling (00_scope.md, "Counters"). -/
def bump (ceiling n : Nat) : Nat := if n < ceiling then n + 1 else n

/-- A value below a range becomes its lower end, one above it the upper end (00_scope.md, "Arithmetic"). -/
def clampInt (lo hi v : Int) : Int := if v < lo then lo else if hi < v then hi else v

end Sys2Proof
end

