-- ==== Sys2Proof/Config.lean ====
section
/-! DEFINITION. What the part fixes: the profile record with its factory defaults, the capacities of the queues, the fixed
timer lengths, the identity PROBE returns, and the one free value of the model. -/

namespace Sys2Proof

/-- The machine profile, its 40 fields in field-number order, each the number as carried on the link (R195).
The rotation policy is 1 FIXED or 2 ROTATE; the enables and the announce flag are 0 off and 1 on. -/
structure Profile where
  tachPulses : Nat
  windowStart : Nat
  windowLen : Nat
  contactThreshold : Nat
  minContacts : Nat
  sparseLimit : Nat
  filterExp : Nat
  current1 : Nat
  current2 : Nat
  current3 : Nat
  current4 : Nat
  baseLoad : Nat
  surge : Nat
  allowance : Nat
  grantTimeout : Nat
  minOn : Nat
  minOff : Nat
  stageStep : Nat
  inletHyst : Nat
  policy : Nat
  fireThreshold : Nat
  airflowMin : Nat
  airflowGrace : Nat
  late : Nat
  early : Nat
  maxAdjust : Nat
  accelTime : Nat
  stopDetectTime : Nat
  stallTime : Nat
  tangleMargin : Nat
  tangleRun : Nat
  silenceTimeout : Nat
  starveLimit : Nat
  runOnTemp : Nat
  runOnLimit : Nat
  excessMargin : Nat
  pinResetEnable : Nat
  linkResetEnable : Nat
  reportLevel : Nat
  announce : Nat
  deriving DecidableEq, Repr

/-- The factory defaults, the Default column of R195. -/
def factoryProfile : Profile where
  tachPulses := 24
  windowStart := 10
  windowLen := 8
  contactThreshold := 3900
  minContacts := 2
  sparseLimit := 64
  filterExp := 3
  current1 := 150
  current2 := 150
  current3 := 150
  current4 := 150
  baseLoad := 80
  surge := 60
  allowance := 600
  grantTimeout := 30
  minOn := 20
  minOff := 10
  stageStep := 40
  inletHyst := 50
  policy := 2
  fireThreshold := 1200
  airflowMin := 80
  airflowGrace := 8
  late := 20
  early := 20
  maxAdjust := 40
  accelTime := 30
  stopDetectTime := 40
  stallTime := 6
  tangleMargin := 40
  tangleRun := 6
  silenceTimeout := 30
  starveLimit := 120
  runOnTemp := 450
  runOnLimit := 5
  excessMargin := 50
  pinResetEnable := 1
  linkResetEnable := 0
  reportLevel := 2
  announce := 1

namespace Config

/-- Capacity of the inbound queue (R181). -/
def inboundCapacity : Nat := 4
/-- Capacity of the report queue (R185). -/
def reportCapacity : Nat := 8
/-- Capacity of the plan buffer (R130). -/
def planCapacity : Nat := 16
/-- Capacity of the history ring (R18). -/
def historyCapacity : Nat := 32
/-- Capacity of the trend ring (R66). -/
def trendCapacity : Nat := 16
/-- Gap timer, ms (R180). -/
def gapMs : Nat := 10
/-- Debounce timer, ms (R86). -/
def debounceMs : Nat := 50
/-- Part code returned by PROBE (R186). -/
def partCode : Nat := 0x0240
/-- Revision letter A (R186). -/
def revisionLetter : Nat := 0x41
/-- Protocol version (R186). -/
def protocolVersion : Nat := 1
/-- Store version (R198). -/
def storeVersion : Nat := 1

/-- FREE VALUE (log entry 9): what the nonvolatile store holds when a reset abandons a write. R200 says only that the copy is
"as far as the write had come"; nothing constrains it here. It is applied to the number of the draw, the bytes that stood in the
store before, and the bytes being written. -/
opaque partWritten : Nat → List Byte → List Byte → List Byte

end Config

end Sys2Proof
end

