-- ==== Sys2Proof/Syntax.lean ====
section
/-! DEFINITION. The commands of the block: one constructor of `Instr` per row of spec/opcode_table.json, with the operands the
row's event carries. -/

namespace Sys2Proof

/-- The four heater element banks (R91). -/
inductive Element where
  | e1 | e2 | e3 | e4
  deriving DecidableEq, Repr

/-- The eight trip causes, in cause-code order (R165). -/
inductive TripCause where
  | highLimit | exhaustFire | airflow | drumStall | sensor | tach | supplyExcess | hostSilent
  deriving DecidableEq, Repr

/-- The four channels ATU converts (R74). -/
inductive Channel where
  | exhaust | inlet | pressure | lineCurrent
  deriving DecidableEq, Repr

/-- The two debounced inputs (R86). -/
inductive InputPin where
  | door | highLimit
  deriving DecidableEq, Repr

/-- The level of a debounced input (R86). -/
inductive Level where
  | closed | opened
  deriving DecidableEq, Repr

/-- The commands. A request constructor is the delivery of the oldest inbound frame of its KIND, with the frame's TAG and payload
(R182); a message constructor is the moment its receiver takes it; an expiry constructor is the expiry of the timer it names. -/
inductive Instr where
  /-- RX_BYTE (R180): a byte on the receive line. -/
  | rxByte (b : Byte)
  /-- GAP_TIMER_EXPIRY (R180). -/
  | gapTimerExpiry
  /-- TX_FRAME_BOUNDARY (R184). -/
  | txFrameBoundary
  /-- SILENCE_TIMER_EXPIRY (R174). -/
  | silenceTimerExpiry
  /-- UNKNOWN_KIND_REQUEST (R182). -/
  | unknownKindRequest (kind tag : Byte) (payload : List Byte)
  /-- PROBE (R186). -/
  | probe (tag : Byte) (payload : List Byte)
  /-- PROFILE_SET (R196). -/
  | profileSet (tag : Byte) (payload : List Byte)
  /-- PROFILE_GET (R197). -/
  | profileGet (tag : Byte) (payload : List Byte)
  /-- PROFILE_STORE (R198). -/
  | profileStore (tag : Byte) (payload : List Byte)
  /-- ALLOWANCE_SET (R121). -/
  | allowanceSet (tag : Byte) (payload : List Byte)
  /-- REPORT_LEVEL_SET (R187). -/
  | reportLevelSet (tag : Byte) (payload : List Byte)
  /-- LINK_RESET (R200). -/
  | linkReset (tag : Byte) (payload : List Byte)
  /-- NOP (R187). -/
  | nop (tag : Byte) (payload : List Byte)
  /-- PATTERN_SET (R25). -/
  | patternSet (tag : Byte) (payload : List Byte)
  /-- PATTERN_GET (R27). -/
  | patternGet (tag : Byte) (payload : List Byte)
  /-- PLAN_APPEND (R131). -/
  | planAppend (tag : Byte) (payload : List Byte)
  /-- PLAN_CLEAR (R133). -/
  | planClear (tag : Byte) (payload : List Byte)
  /-- PLAN_GET (R133). -/
  | planGet (tag : Byte) (payload : List Byte)
  /-- START (R136). -/
  | start (tag : Byte) (payload : List Byte)
  /-- PAUSE (R152). -/
  | pause (tag : Byte) (payload : List Byte)
  /-- RESUME (R156). -/
  | resume (tag : Byte) (payload : List Byte)
  /-- ABORT (R146). -/
  | abort (tag : Byte) (payload : List Byte)
  /-- ADVANCE (R142). -/
  | advance (tag : Byte) (payload : List Byte)
  /-- CYCLE_CLOSE (R148). -/
  | cycleClose (tag : Byte) (payload : List Byte)
  /-- STATUS_GET (R188). -/
  | statusGet (tag : Byte) (payload : List Byte)
  /-- HISTORY_GET (R19). -/
  | historyGet (tag : Byte) (payload : List Byte)
  /-- TREND_GET (R68). -/
  | trendGet (tag : Byte) (payload : List Byte)
  /-- TRIP_GET (R176). -/
  | tripGet (tag : Byte) (payload : List Byte)
  /-- TRIP_CLEAR (R177). -/
  | tripClear (tag : Byte) (payload : List Byte)
  /-- CONTEXT_GET (R160). -/
  | contextGet (tag : Byte) (payload : List Byte)
  /-- CONTEXT_LOAD (R161). -/
  | contextLoad (tag : Byte) (payload : List Byte)
  /-- TACH_PULSE (R40): the motor-current sample in 0.01 A and the electrode pair's raw count at the pulse. -/
  | tachPulse (current : BitVec 16) (rawCount : BitVec 12)
  /-- INDEX_MARKER (R11): the time in ms since the opening marker, as DRUM has measured it. -/
  | indexMarker (elapsedMs : Nat)
  /-- STOP_DETECT_EXPIRY (R3). -/
  | stopDetectExpiry
  /-- ACCEL_TIMER_EXPIRY (R7). -/
  | accelTimerExpiry
  /-- DWELL_EXPIRY (R9). -/
  | dwellExpiry
  /-- STALL_TIMER_EXPIRY (R17). -/
  | stallTimerExpiry
  /-- SURGE_GRANT (R6): DRUM takes SAA's grant of this transaction number. -/
  | surgeGrant (txn : Byte)
  /-- CONVERSION_COMPLETE (R74): the channel and its raw result in the channel's unit. -/
  | conversionComplete (ch : Channel) (raw : Int)
  /-- INPUT_LEVEL_CHANGE (R86): the raw level the input now has. -/
  | inputLevelChange (pin : InputPin) (level : Level)
  /-- DEBOUNCE_EXPIRY (R86). -/
  | debounceExpiry (pin : InputPin)
  /-- GRACE_TIMER_EXPIRY (R80). -/
  | graceTimerExpiry
  /-- LOW_FLOW_EXPIRY (R81). -/
  | lowFlowExpiry
  /-- RUN_ON_TIMER_EXPIRY (R84). -/
  | runOnTimerExpiry
  /-- MIN_ON_EXPIRY (R102). -/
  | minOnExpiry (e : Element)
  /-- MIN_OFF_EXPIRY (R103). -/
  | minOffExpiry (e : Element)
  /-- ELEMENT_GRANT (R100): HSTG takes SAA's grant. -/
  | elementGrant (e : Element)
  /-- SHED (R106): HSTG takes SAA's shed. -/
  | shed (e : Element)
  /-- ELEMENT_REQUEST (R115): SAA takes HSTG's request for this current, 0.1 A. -/
  | elementRequest (e : Element) (current : Nat)
  /-- ELEMENT_WITHDRAWAL (R114). -/
  | elementWithdrawal (e : Element)
  /-- ELEMENT_RELEASE (R114). -/
  | elementRelease (e : Element)
  /-- ON_FREE_NOTICE (R114). -/
  | onFreeNotice (e : Element)
  /-- SURGE_REQUEST (R117): SAA takes DRUM's request of this transaction number. -/
  | surgeRequest (txn : Byte)
  /-- SURGE_RELEASE (R120). -/
  | surgeRelease (txn : Byte)
  /-- SURGE_WITHDRAWAL (R120). -/
  | surgeWithdrawal (txn : Byte)
  /-- GRANT_TIMER_EXPIRY (R119). -/
  | grantTimerExpiry
  /-- ONE_SECOND_COUNT (R128). -/
  | oneSecondCount
  /-- STARVE_TIMER_EXPIRY (R144). -/
  | starveTimerExpiry
  /-- DRY_REACHED_SIGNAL (R138): CPX takes MEST's signal with this stage ordinal. -/
  | dryReachedSignal (ordinal : Nat)
  /-- TRIP_CONDITION (R166): TRIP takes the condition of this cause. -/
  | tripCondition (cause : TripCause)
  /-- TRIP_CONDITION_END (R167): TRIP takes the end of the condition of this cause. -/
  | tripConditionEnd (cause : TripCause)
  /-- STORE_VERIFY (R198): the write ends and PROF reads these bytes back from the store. -/
  | storeVerify (readBack : List Byte)
  /-- POWER_ON (R200). -/
  | powerOn
  /-- BROWN_OUT (R200). -/
  | brownOut
  /-- PIN_RESET (R200). -/
  | pinReset
  /-- LINK_RESET_FOLLOWS (R182). -/
  | linkResetFollows
  deriving DecidableEq, Repr

end Sys2Proof
end

