-- ==== Sys2Proof/Decode.lean ====
section
/-! DEFINITION. The decoder over the opcode table's bits, which no row gives, and the request index of 11.3, which names the
request a frame's KIND stands for. -/

namespace Sys2Proof

/-- The command a word spells by the table's bits. No row of spec/opcode_table.json gives bits, so no word spells one. -/
def decodeTableWord (_nbits _w : Nat) : Option Instr := none

/-- The request index (11.3): the command that delivers a frame of this KIND, TAG and payload. A KIND outside the index is
delivered as an unknown KIND (R182). -/
def commandOfFrame (kind tag : Byte) (payload : List Byte) : Instr :=
  match kind.toNat with
  | 0x01 => .probe tag payload
  | 0x02 => .profileSet tag payload
  | 0x03 => .profileGet tag payload
  | 0x04 => .profileStore tag payload
  | 0x05 => .allowanceSet tag payload
  | 0x06 => .reportLevelSet tag payload
  | 0x07 => .linkReset tag payload
  | 0x0F => .nop tag payload
  | 0x10 => .patternSet tag payload
  | 0x11 => .patternGet tag payload
  | 0x20 => .planAppend tag payload
  | 0x21 => .planClear tag payload
  | 0x22 => .planGet tag payload
  | 0x30 => .start tag payload
  | 0x31 => .pause tag payload
  | 0x32 => .resume tag payload
  | 0x33 => .abort tag payload
  | 0x34 => .advance tag payload
  | 0x35 => .cycleClose tag payload
  | 0x40 => .statusGet tag payload
  | 0x41 => .historyGet tag payload
  | 0x42 => .trendGet tag payload
  | 0x43 => .tripGet tag payload
  | 0x44 => .tripClear tag payload
  | 0x50 => .contextGet tag payload
  | 0x51 => .contextLoad tag payload
  | _ => .unknownKindRequest kind tag payload

/-- The KINDs of the request index (11.3). -/
def knownKinds : List Byte :=
  [0x01, 0x02, 0x03, 0x04, 0x05, 0x06, 0x07, 0x0F, 0x10, 0x11, 0x20, 0x21, 0x22,
   0x30, 0x31, 0x32, 0x33, 0x34, 0x35, 0x40, 0x41, 0x42, 0x43, 0x44, 0x50, 0x51]

/-- The payload lengths LINK admits for a KIND (11.3); any other length is answered BAD_LENGTH. -/
def lengthAllowed (kind : Byte) (n : Nat) : Bool :=
  match kind.toNat with
  | 0x02 => n == 52
  | 0x05 => n == 2
  | 0x06 => n == 1
  | 0x10 => [9, 17, 25, 33, 41, 49, 57, 65].contains n
  | 0x11 => n == 2
  | 0x20 => [20, 40, 60, 80].contains n
  | 0x22 => n == 2
  | 0x41 => n == 1
  | 0x44 => n == 1
  | 0x51 => n == 32
  | _ => n == 0

end Sys2Proof
end

