-- ==== Sys2Proof/Machine/Blocks.lean ====
section
/-! DEFINITION. The state each of the ten blocks owns, the messages on the paths between them, and the value each takes after a
reset. -/

namespace Sys2Proof.Machine

/-- A timer: `none` while stopped, `some ms` while running with that length (log entry 3). -/
abbrev Timer := Option Nat

/-! ### Enumerations -/

/-- Report sources (R190). -/
inductive Source where
  | link | prof | drum | mest | hstg | saa | cpx | trip
  deriving DecidableEq, Repr

/-- Report severities (R190). -/
inductive Severity where
  | error | warning | info
  deriving DecidableEq, Repr

/-- The four reset causes (R200). -/
inductive ResetCause where
  | powerOn | brownOut | pin | link
  deriving DecidableEq, Repr

/-- The profile source (R199). -/
inductive ProfileSource where
  | stored | defaults
  deriving DecidableEq, Repr

/-- The last store result (R198). -/
inductive StoreResult where
  | none | ok | failed
  deriving DecidableEq, Repr

/-- The blower states (R78). -/
inductive Blower where
  | off | on | runOn
  deriving DecidableEq, Repr

/-- The element states (R91). -/
inductive ElementState where
  | absent | offReady | offHold | waitGrant | onHold | onFree
  deriving DecidableEq, Repr

/-- Why an element was last de-energized (R91). -/
inductive OffCause where
  | normal | shed | forced | stop
  deriving DecidableEq, Repr

/-- The surge states (R117). -/
inductive SurgeState where
  | idle | pending | granted
  deriving DecidableEq, Repr

/-- The drum states, DECEL with its purpose (R1). -/
inductive DrumState where
  | stopped | surgeWait | accel | run | decelStop | decelReverse | dwell
  deriving DecidableEq, Repr

/-- The drum's directions (R2). -/
inductive Direction where
  | fwd | rev
  deriving DecidableEq, Repr

/-- Revolution classes (R13). -/
inductive RevClass where
  | steady | ramp | malformed
  deriving DecidableEq, Repr

/-- Fold outcomes (R46). -/
inductive FoldOutcome where
  | folded | sparse | sparseAsDry | skipped
  deriving DecidableEq, Repr

/-- Stage kinds (R129). -/
inductive StageKind where
  | dry | timed | cool | guard
  deriving DecidableEq, Repr

/-- Exit reasons (8.5, R190). -/
inductive ExitReason where
  | none | dry | time | cooled | door | advance
  deriving DecidableEq, Repr

/-- Cycle states (R127). -/
inductive CycleState where
  | idle | ready | running | starved | paused | faulted | done
  deriving DecidableEq, Repr

/-- Pause causes (R151). -/
inductive PauseCause where
  | host | door | silent | restored
  deriving DecidableEq, Repr

/-- End reasons (R145). -/
inductive EndReason where
  | none | complete | starved | aborted
  deriving DecidableEq, Repr

/-- Trip entry states (R165). -/
inductive TripState where
  | clear | active | held
  deriving DecidableEq, Repr

/-- Trip classes (R165). -/
inductive TripClass where
  | halt | severe | pause
  deriving DecidableEq, Repr

/-! ### LINK (R180 to R189) -/

/-- The receiver's states with what each holds (R180). -/
inductive RxState where
  | hunt
  | length
  | body (len : Nat) (got : List Byte)
  | check (len : Nat) (body : List Byte) (crcHigh : Option Byte)
  deriving DecidableEq, Repr

/-- A CRC-good frame of the inbound queue (R181). `laterEnds` counts the ends of a host silence that LINK has handed TRIP since the
frame's own check: TRIP has every earlier end before an owner takes the frame (R174, R175, log entry 5). -/
structure InFrame where
  kind : Byte
  tag : Byte
  payload : List Byte
  laterEnds : Nat
  deriving DecidableEq, Repr

/-- A reply or a report as it goes on the line: KIND, TAG, payload (R190). -/
structure OutFrame where
  kind : Byte
  tag : Byte
  payload : List Byte
  deriving DecidableEq, Repr

/-- A queued report (R186): the cycle seconds are those of the hand-over. -/
structure Report where
  source : Source
  severity : Severity
  code : Byte
  seconds : Nat
  data : List Byte
  deriving DecidableEq, Repr

/-- The event flags (R189). -/
structure EventFlags where
  stageChanged : Bool
  dryReached : Bool
  tripRaised : Bool
  lockLost : Bool
  tangleReversal : Bool
  grantForced : Bool
  starved : Bool
  deriving DecidableEq, Repr

/-- Every event flag clear. -/
def EventFlags.clear : EventFlags := ⟨false, false, false, false, false, false, false⟩

/-- Whether LINK is closing for an accepted LINK_RESET (R182): not, accepted with the OK reply still in the slot, or with the OK
reply taken by the transmitter. -/
inductive Closing where
  | open | accepted | replyTaken
  deriving DecidableEq, Repr

/-- LINK's state. -/
structure Link where
  rx : RxState
  gapTimer : Timer
  inbound : List InFrame
  slot : Option OutFrame
  reports : List Report
  lost : Nat
  badFrames : Nat
  dropped : Nat
  level : Nat
  flags : EventFlags
  silence : Timer
  silentRaised : Bool
  line : Option (List Byte)
  closing : Closing
  deriving DecidableEq, Repr

/-! ### PROF (R195 to R201) -/

/-- PROF's state. `write` is `none` with the store state IDLE and holds the copy being written with it WRITING (R198). -/
structure Prof where
  active : Profile
  source : ProfileSource
  lastReset : ResetCause
  write : Option (List Byte)
  lastResult : StoreResult
  stored : List Byte
  deriving DecidableEq, Repr

/-! ### ATU (R74 to R90) -/

/-- A temperature channel (R75), value in 0.1 °C. -/
structure TempChannel where
  value : Int
  valid : Bool
  invalidRun : Nat
  deriving DecidableEq, Repr

/-- A debounced input (R86): its pin's raw level, its debounced state (`none` while UNSETTLED) and its debounce timer. -/
structure DebouncedInput where
  raw : Level
  settled : Option Level
  timer : Timer
  deriving DecidableEq, Repr

/-- ATU's state. -/
structure Atu where
  exhaust : TempChannel
  inlet : TempChannel
  pressure : Nat
  lineCurrent : Nat
  sensorRaised : Bool
  fireRaised : Bool
  blower : Blower
  airflowProven : Bool
  grace : Timer
  lowFlow : Timer
  airflowRaised : Bool
  runOn : Timer
  excessRaised : Bool
  aboveRun : Nat
  belowRun : Nat
  door : DebouncedInput
  highLimit : DebouncedInput
  deriving DecidableEq, Repr

/-! ### HSTG (R91 to R110) -/

/-- One element record (R91) with its hold timers (R102, R103). -/
structure ElementRec where
  state : ElementState
  requested : Bool
  onSince : Option Nat
  lastOff : OffCause
  onCount : Nat
  minOn : Timer
  minOff : Timer
  deriving DecidableEq, Repr

/-- The four element records. -/
structure Elements where
  r1 : ElementRec
  r2 : ElementRec
  r3 : ElementRec
  r4 : ElementRec
  deriving DecidableEq, Repr

/-- The record of one element. -/
def Elements.get (t : Elements) : Element → ElementRec
  | .e1 => t.r1
  | .e2 => t.r2
  | .e3 => t.r3
  | .e4 => t.r4

/-- The records with one element's replaced. -/
def Elements.set (t : Elements) (e : Element) (r : ElementRec) : Elements :=
  match e with
  | .e1 => { t with r1 := r }
  | .e2 => { t with r2 := r }
  | .e3 => { t with r3 := r }
  | .e4 => { t with r4 := r }

/-- What a DRY or TIMED stage asks of the heat, both in 0.1 °C (R94). -/
structure HeatTarget where
  exhaustTarget : Int
  inletLimit : Int
  deriving DecidableEq, Repr

/-- The stage settings HSTG holds (R94). -/
structure HeatSettings where
  kind : StageKind
  ordinal : Nat
  heat : Option HeatTarget
  deriving DecidableEq, Repr

/-- HSTG's state. -/
structure Hstg where
  elements : Elements
  onOrder : List Element
  pointer : Element
  settings : Option HeatSettings
  heatEnable : Bool
  demand : Nat
  inletCap : Bool
  deriving DecidableEq, Repr

/-! ### SAA (R111 to R126) -/

/-- A grant list entry (R112), current in 0.1 A. -/
structure GrantEntry where
  element : Element
  current : Nat
  free : Bool
  deriving DecidableEq, Repr

/-- A wait queue entry (R115). -/
structure WaitEntry where
  element : Element
  current : Nat
  deriving DecidableEq, Repr

/-- SAA's state. The allowance is the active profile's field (R111). -/
structure Saa where
  grants : List GrantEntry
  queue : List WaitEntry
  surge : SurgeState
  grantTimer : Timer
  txn : Option Byte
  deriving DecidableEq, Repr

/-! ### DRUM (R1 to R39) -/

/-- A pattern table entry (R22). -/
structure Pattern where
  rpm : Nat
  forward : Nat
  reverse : Nat
  dwell : Nat
  nominal : Nat
  deriving DecidableEq, Repr

/-- The open revolution (R10): tach pulses counted and motor-current samples summed so far. -/
structure OpenRev where
  tach : Nat
  currentSum : Nat
  deriving DecidableEq, Repr

/-- A Revolution record (R12). -/
structure RevRecord where
  number : Nat
  direction : Direction
  period : Nat
  tach : Nat
  state : DrumState
  lock : Bool
  cls : RevClass
  iRev : Nat
  m : Nat
  k : Nat
  mRev : Option Nat
  outcome : FoldOutcome
  deriving DecidableEq, Repr

/-- DRUM's state. -/
structure Drum where
  state : DrumState
  direction : Direction
  dirOut : Direction
  offset : Int
  lock : Bool
  runPending : Bool
  stopConfirmed : Bool
  stopDetect : Timer
  accelTimer : Timer
  dwellTimer : Timer
  stallTimer : Timer
  stallRaised : Bool
  openRev : Option OpenRev
  revNumber : Nat
  lastPeriod : Nat
  malformedRun : Nat
  history : List RevRecord
  txn : Byte
  table : Vector Pattern 8
  active : Pattern
  activeIdx : Nat
  guardStage : Bool
  burstRevs : Nat
  burst : Bool
  reversalRun : Nat
  baseSum : Nat
  baseCount : Nat
  iBase : Option Nat
  tangleRun : Nat
  stageTangles : Nat
  deriving DecidableEq, Repr

/-! ### EFE (R40 to R45) -/

/-- EFE's state. -/
structure Efe where
  phaseKnown : Bool
  position : Nat
  m : Nat
  k : Nat
  s : Nat
  deriving DecidableEq, Repr

/-! ### MEST (R46 to R73) -/

/-- What a DRY stage asks of the dry decision (R60), exhaust in 0.1 °C. -/
structure DryTarget where
  target : Nat
  confirm : Nat
  minExhaust : Int
  deriving DecidableEq, Repr

/-- The stage settings MEST holds (R60). -/
structure MestStage where
  kind : StageKind
  ordinal : Nat
  dry : Option DryTarget
  deriving DecidableEq, Repr

/-- MEST's state. `f` is `none` while the valid flag is clear (R56). -/
structure Mest where
  f : Option Nat
  foldCounter : Nat
  b : Nat
  drySignalled : Bool
  stage : Option MestStage
  trend : List Nat
  estimate : Option Nat
  sparse : Nat
  sparseWarned : Bool
  deriving DecidableEq, Repr

/-! ### CPX (R127 to R164) -/

/-- A stage record (R129), temperatures in 0.1 °C, durations in s. -/
structure StageRec where
  kind : StageKind
  final : Bool
  pattern : Nat
  exhaustTarget : Int
  inletLimit : Int
  dryTarget : Nat
  confirm : Nat
  dryMinExhaust : Int
  minDuration : Nat
  maxDuration : Nat
  coolTo : Int
  guardInterval : Nat
  burstRevs : Nat
  deriving DecidableEq, Repr

/-- A running starve timer (R144): its limit and the seconds counted since its start. -/
structure StarveTimer where
  limit : Nat
  count : Nat
  deriving DecidableEq, Repr

/-- CPX's state. -/
structure Cpx where
  cycle : CycleState
  stageActive : Bool
  plan : List StageRec
  digest : Crc
  ordinal : Nat
  stageElapsed : Nat
  cycleElapsed : Nat
  dryLatched : Bool
  pauseCause : Option PauseCause
  endReason : EndReason
  starve : Option StarveTimer
  lastExit : ExitReason
  deriving DecidableEq, Repr

/-! ### TRIP (R165) -/

/-- A trip entry (R165). -/
structure TripEntry where
  state : TripState
  count : Nat
  firstTime : Option Nat
  firstOrdinal : Nat
  deriving DecidableEq, Repr

/-- The eight trip entries. -/
structure TripTable where
  highLimit : TripEntry
  exhaustFire : TripEntry
  airflow : TripEntry
  drumStall : TripEntry
  sensor : TripEntry
  tach : TripEntry
  supplyExcess : TripEntry
  hostSilent : TripEntry
  deriving DecidableEq, Repr

/-- The entry of one cause. -/
def TripTable.get (t : TripTable) : TripCause → TripEntry
  | .highLimit => t.highLimit
  | .exhaustFire => t.exhaustFire
  | .airflow => t.airflow
  | .drumStall => t.drumStall
  | .sensor => t.sensor
  | .tach => t.tach
  | .supplyExcess => t.supplyExcess
  | .hostSilent => t.hostSilent

/-- The table with one cause's entry replaced. -/
def TripTable.set (t : TripTable) (c : TripCause) (e : TripEntry) : TripTable :=
  match c with
  | .highLimit => { t with highLimit := e }
  | .exhaustFire => { t with exhaustFire := e }
  | .airflow => { t with airflow := e }
  | .drumStall => { t with drumStall := e }
  | .sensor => { t with sensor := e }
  | .tach => { t with tach := e }
  | .supplyExcess => { t with supplyExcess := e }
  | .hostSilent => { t with hostSilent := e }

/-! ### Messages between blocks -/

/-- HSTG to SAA (R114). -/
inductive HstgMsg where
  | request (e : Element) (current : Nat)
  | withdrawal (e : Element)
  | release (e : Element)
  | onFree (e : Element)
  deriving DecidableEq, Repr

/-- SAA to HSTG (R107, R113). -/
inductive SaaMsg where
  | grant (e : Element)
  | shed (e : Element)
  deriving DecidableEq, Repr

/-- DRUM to SAA, each with its transaction number (R6). -/
inductive DrumMsg where
  | request (txn : Byte)
  | withdrawal (txn : Byte)
  | release (txn : Byte)
  deriving DecidableEq, Repr

/-- A detecting block to TRIP: the condition of a cause arises, or ends (R166, R167). -/
structure TripMsg where
  cause : TripCause
  ends : Bool
  deriving DecidableEq, Repr

/-- The messages handed and not yet taken, oldest first on each path. -/
structure Paths where
  hstgToSaa : List HstgMsg
  saaToHstg : List SaaMsg
  drumToSaa : List DrumMsg
  saaToDrum : List Byte
  dry : List Nat
  trip : List TripMsg
  deriving DecidableEq, Repr

/-! ### Values after reset -/

/-- The current of one element in the profile, 0 if it is not fitted (R91). -/
def Profile.current (p : Profile) : Element → Nat
  | .e1 => p.current1
  | .e2 => p.current2
  | .e3 => p.current3
  | .e4 => p.current4

/-- Codes of the reset causes (R190). -/
def ResetCause.code : ResetCause → Nat
  | .powerOn => 1 | .brownOut => 2 | .pin => 3 | .link => 4

/-- Codes of the profile source (R190). -/
def ProfileSource.code : ProfileSource → Nat
  | .stored => 1 | .defaults => 2

/-- The UP report (R193, R194); its cycle elapsed is 0. -/
def upReport (cause : ResetCause) (source : ProfileSource) : Report :=
  ⟨.link, .info, 0x04, 0, [BitVec.ofNat 8 cause.code, BitVec.ofNat 8 source.code]⟩

/-- The PROFILE_DEFAULTED warning with its reason (R193, R199), handed over at cycle elapsed 0. -/
def profileDefaultedReport (reason : Nat) : Report :=
  ⟨.prof, .warning, 0x10, 0, [BitVec.ofNat 8 reason]⟩

/-- The reports queued by a reset, in order (R194, R201): UP when announce is set, whatever the level, then the load's warning
when the startup level passes warnings. -/
def resetReports (p : Profile) (cause : ResetCause) (source : ProfileSource) (defaulted : Option Nat) : List Report :=
  (if p.announce = 1 then [upReport cause source] else []) ++
    match defaulted with
    | some reason => if 2 ≤ p.reportLevel then [profileDefaultedReport reason] else []
    | none => []

/-- LINK after reset (R194). -/
def Link.afterReset (p : Profile) (cause : ResetCause) (source : ProfileSource) (defaulted : Option Nat) : Link where
  rx := .hunt
  gapTimer := none
  inbound := []
  slot := none
  reports := resetReports p cause source defaulted
  lost := 0
  badFrames := 0
  dropped := 0
  level := p.reportLevel
  flags := .clear
  silence := none
  silentRaised := false
  line := none
  closing := .open

/-- A temperature channel after reset (R90). -/
def TempChannel.afterReset : TempChannel := ⟨0, false, 0⟩

/-- A debounced input after reset: UNSETTLED with its timer running; its pin keeps its level (R86, R90). -/
def DebouncedInput.afterReset (raw : Level) : DebouncedInput := ⟨raw, none, some Config.debounceMs⟩

/-- ATU after reset (R90). -/
def Atu.afterReset (doorRaw highLimitRaw : Level) : Atu where
  exhaust := .afterReset
  inlet := .afterReset
  pressure := 0
  lineCurrent := 0
  sensorRaised := false
  fireRaised := false
  blower := .off
  airflowProven := false
  grace := none
  lowFlow := none
  airflowRaised := false
  runOn := none
  excessRaised := false
  aboveRun := 0
  belowRun := 0
  door := .afterReset doorRaw
  highLimit := .afterReset highLimitRaw

/-- An element record after reset (R110): a fitted element rests its full min-off. -/
def ElementRec.afterReset (p : Profile) (e : Element) : ElementRec where
  state := if Profile.current p e = 0 then .absent else .offHold
  requested := false
  onSince := none
  lastOff := .stop
  onCount := 0
  minOn := none
  minOff := if Profile.current p e = 0 then none else some (p.minOff * 1000)

/-- HSTG after reset (R110). -/
def Hstg.afterReset (p : Profile) : Hstg where
  elements := ⟨.afterReset p .e1, .afterReset p .e2, .afterReset p .e3, .afterReset p .e4⟩
  onOrder := []
  pointer := .e1
  settings := none
  heatEnable := false
  demand := 0
  inletCap := false

/-- SAA after reset (R126). -/
def Saa.afterReset : Saa := ⟨[], [], .idle, none, none⟩

/-- Every pattern table entry after reset (R22). -/
def Pattern.afterReset : Pattern := ⟨40, 12, 12, 20, 512⟩

/-- DRUM after reset (R21, R39). -/
def Drum.afterReset (p : Profile) : Drum where
  state := .stopped
  direction := .fwd
  dirOut := .fwd
  offset := 0
  lock := false
  runPending := false
  stopConfirmed := false
  stopDetect := some (p.stopDetectTime * 10)
  accelTimer := none
  dwellTimer := none
  stallTimer := none
  stallRaised := false
  openRev := none
  revNumber := 0
  lastPeriod := 0
  malformedRun := 0
  history := []
  txn := 0
  table := Vector.replicate 8 .afterReset
  active := .afterReset
  activeIdx := 0
  guardStage := false
  burstRevs := 0
  burst := false
  reversalRun := 0
  baseSum := 0
  baseCount := 0
  iBase := none
  tangleRun := 0
  stageTangles := 0

/-- EFE after reset (R55). -/
def Efe.afterReset : Efe := ⟨false, 0, 0, 0, 0⟩

/-- MEST after reset (R55, R73). -/
def Mest.afterReset : Mest := ⟨none, 0, 0, false, none, [], none, 0, false⟩

/-- CPX after reset (R150). -/
def Cpx.afterReset : Cpx := ⟨.idle, false, [], 0xFFFF, 0, 0, 0, false, none, .none, none, .none⟩

/-- A trip entry after reset (R179). -/
def TripEntry.afterReset : TripEntry := ⟨.clear, 0, none, 0⟩

/-- The Trip Table after reset (R179). -/
def TripTable.afterReset : TripTable :=
  ⟨.afterReset, .afterReset, .afterReset, .afterReset, .afterReset, .afterReset, .afterReset, .afterReset⟩

/-- No message in flight. -/
def Paths.empty : Paths := ⟨[], [], [], [], [], []⟩

end Sys2Proof.Machine
end

