-- ==== Sys2Proof/Machine/State.lean ====
section
/-! DEFINITION. The state of the part with its queue of commands, the reasons a step can stop, and the state after reset. -/

namespace Sys2Proof.Machine

/-- The whole state: the ten blocks, the messages in flight between them, the commands waiting, and the number of free values
drawn. -/
structure State where
  link : Link
  prof : Prof
  atu : Atu
  hstg : Hstg
  saa : Saa
  drum : Drum
  efe : Efe
  mest : Mest
  cpx : Cpx
  trip : TripTable
  paths : Paths
  pending : List Instr
  freeCount : Nat
  deriving DecidableEq, Repr

/-- No command stops the part with a fault: the spec gives each an effect, or none, in every state. Nothing raises one (safe). -/
inductive Fault where
  deriving DecidableEq, Repr

/-- The reasons a step has no meaning. -/
inductive Refusal where
  /-- Raised by an arm of exec for a command without a meaning; no arm raises it here (safe). -/
  | notModelled (mnemonic : String)
  deriving DecidableEq, Repr

/-- What a command answers. -/
abbrev Result := Host.Outcome State Fault Refusal

/-- The state every reset leaves (R21, R39, R55, R73, R90, R110, R126, R150, R179, R194, R201), from the cause, the profile in force
after the reset with its source, the reason of a defaulted load, the store, the levels on the two input pins, the waiting commands
and the free values drawn. -/
def State.fresh (cause : ResetCause) (p : Profile) (source : ProfileSource) (defaulted : Option Nat) (stored : List Byte)
    (doorRaw highLimitRaw : Level) (pending : List Instr) (freeCount : Nat) : State where
  link := .afterReset p cause source defaulted
  prof := ⟨p, source, cause, none, .none, stored⟩
  atu := .afterReset doorRaw highLimitRaw
  hstg := .afterReset p
  saa := .afterReset
  drum := .afterReset p
  efe := .afterReset
  mest := .afterReset
  cpx := .afterReset
  trip := .afterReset
  paths := .empty
  pending := pending
  freeCount := freeCount

/-- The machine right after its first POWER_ON, with a store that was never written (log entry 7) and both inputs closed
(log entry 8): the load takes the factory defaults and warns with reason 1 (R199). -/
def State.reset : State :=
  .fresh .powerOn factoryProfile .defaults (some 1) [] .closed .closed [] 0

end Sys2Proof.Machine
end

