-- ==== Sys2Proof/Machine/Operands.lean ====
section
/-! DEFINITION. Everything that crosses the link as bytes: numbers, enumerations, the CRC, frames, and the stage, pattern,
revolution, context and profile records, each in both directions where the link carries it in both (R181, R190 to R193, R195). -/

namespace Sys2Proof.Machine

/-! ### Numbers (R190) -/

/-- A number of one byte. -/
def u8 (n : Nat) : List Byte := [BitVec.ofNat 8 n]

/-- A number of two bytes, high byte first. -/
def u16 (n : Nat) : List Byte := [BitVec.ofNat 8 (n / 256), BitVec.ofNat 8 n]

/-- Cycle seconds, four bytes, high byte first. -/
def u32 (n : Nat) : List Byte := u16 (n / 65536) ++ u16 n

/-- A signed number of two bytes. -/
def s16 (v : Int) : List Byte := u16 (v % 65536).toNat

/-- A signed number of one byte. -/
def s8 (v : Int) : List Byte := u8 (v % 256).toNat

/-- A flag: 0x00 clear, 0x01 set. -/
def flag (b : Bool) : List Byte := u8 (if b then 1 else 0)

/-- An optional field: a presence byte, then the value bytes, sent as 0 when the field is absent. -/
def optField (width : Nat) (enc : Nat → List Byte) (v : Option Nat) : List Byte :=
  match v with
  | some n => flag true ++ enc n
  | none => flag false ++ List.replicate width 0

/-- The byte at a position of a payload, as a number; 0 past its end. -/
def byteAt (bs : List Byte) (i : Nat) : Nat := (bs.getD i 0).toNat

/-- The two-byte number at a position. -/
def wordAt (bs : List Byte) (i : Nat) : Nat := byteAt bs i * 256 + byteAt bs (i + 1)

/-- The signed two-byte number at a position. -/
def signedWordAt (bs : List Byte) (i : Nat) : Int :=
  if wordAt bs i < 32768 then wordAt bs i else (wordAt bs i : Int) - 65536

/-- The signed byte at a position. -/
def signedByteAt (bs : List Byte) (i : Nat) : Int :=
  if byteAt bs i < 128 then byteAt bs i else (byteAt bs i : Int) - 256

/-- The four-byte number at a position. -/
def longAt (bs : List Byte) (i : Nat) : Nat := wordAt bs i * 65536 + wordAt bs (i + 2)

/-! ### CRC-16 (R181) -/

/-- One bit of the CRC: polynomial 0x1021, most significant bit first. -/
def crcBit (c : Crc) : Crc := if c.msb then (c <<< 1) ^^^ 0x1021 else c <<< 1

/-- One byte into the CRC. -/
def crcByte (c : Crc) (b : Byte) : Crc :=
  crcBit (crcBit (crcBit (crcBit (crcBit (crcBit (crcBit (crcBit (c ^^^ (b.setWidth 16 <<< 8)))))))))

/-- CRC-16 with initial value 0xFFFF, nothing reflected, no final XOR. -/
def crc16 (bs : List Byte) : Crc := bs.foldl crcByte 0xFFFF

/-- A CRC as it travels, high byte first. -/
def crcBytes (c : Crc) : List Byte := u16 c.toNat

/-! ### Enumeration codes (R190) -/

/-- Cycle state codes. -/
def CycleState.code : CycleState → Nat
  | .idle => 1 | .ready => 2 | .running => 3 | .starved => 4 | .paused => 5 | .faulted => 6 | .done => 7

/-- Stage kind codes. -/
def StageKind.code : StageKind → Nat
  | .dry => 1 | .timed => 2 | .cool => 3 | .guard => 4

/-- The stage kind of a code, if it is in the list. -/
def stageKindOf (n : Nat) : Option StageKind :=
  match n with
  | 1 => some .dry | 2 => some .timed | 3 => some .cool | 4 => some .guard | _ => none

/-- Exit reason codes. -/
def ExitReason.code : ExitReason → Nat
  | .none => 0 | .dry => 1 | .time => 2 | .cooled => 3 | .door => 4 | .advance => 5

/-- Pause cause codes. -/
def PauseCause.code : PauseCause → Nat
  | .host => 1 | .door => 2 | .silent => 3 | .restored => 4

/-- End reason codes. -/
def EndReason.code : EndReason → Nat
  | .none => 0 | .complete => 1 | .starved => 2 | .aborted => 3

/-- Drum state codes, DECEL with its purpose. -/
def DrumState.code : DrumState → Nat
  | .stopped => 1 | .surgeWait => 2 | .accel => 3 | .run => 4 | .decelStop => 5 | .decelReverse => 6 | .dwell => 7

/-- Direction codes. -/
def Direction.code : Direction → Nat
  | .fwd => 1 | .rev => 2

/-- Revolution class codes. -/
def RevClass.code : RevClass → Nat
  | .steady => 1 | .ramp => 2 | .malformed => 3

/-- Fold outcome codes. -/
def FoldOutcome.code : FoldOutcome → Nat
  | .folded => 1 | .sparse => 2 | .sparseAsDry => 3 | .skipped => 4

/-- Blower state codes. -/
def Blower.code : Blower → Nat
  | .off => 0 | .on => 1 | .runOn => 2

/-- Element state codes. -/
def ElementState.code : ElementState → Nat
  | .absent => 0 | .offReady => 1 | .offHold => 2 | .waitGrant => 3 | .onHold => 4 | .onFree => 5

/-- Last-off cause codes. -/
def OffCause.code : OffCause → Nat
  | .normal => 1 | .shed => 2 | .forced => 3 | .stop => 4

/-- Surge state codes. -/
def SurgeState.code : SurgeState → Nat
  | .idle => 0 | .pending => 1 | .granted => 2

/-- Trip state codes. -/
def TripState.code : TripState → Nat
  | .clear => 0 | .active => 1 | .held => 2

/-- Trip class codes. -/
def TripClass.code : TripClass → Nat
  | .halt => 1 | .severe => 2 | .pause => 3

/-- Trip cause codes (R165). -/
def causeCode : TripCause → Nat
  | .highLimit => 1 | .exhaustFire => 2 | .airflow => 3 | .drumStall => 4
  | .sensor => 5 | .tach => 6 | .supplyExcess => 7 | .hostSilent => 8

/-- The trip cause of a code (R177). -/
def causeOf (n : Nat) : Option TripCause :=
  match n with
  | 1 => some .highLimit | 2 => some .exhaustFire | 3 => some .airflow | 4 => some .drumStall
  | 5 => some .sensor | 6 => some .tach | 7 => some .supplyExcess | 8 => some .hostSilent | _ => none

/-- Source block codes. -/
def Source.code : Source → Nat
  | .link => 1 | .prof => 2 | .drum => 3 | .mest => 4 | .hstg => 5 | .saa => 6 | .cpx => 7 | .trip => 8

/-- Severity codes; a report passes the level at or above its code (R185). -/
def Severity.code : Severity → Nat
  | .error => 1 | .warning => 2 | .info => 3

/-- Last store result codes (R198). -/
def StoreResult.code : StoreResult → Nat
  | .none => 0 | .ok => 1 | .failed => 2

/-- Rotation pointer codes (R93). -/
def pointerCode : Element → Nat
  | .e1 => 0 | .e2 => 1 | .e3 => 2 | .e4 => 3

/-- The rotation pointer of a code. -/
def pointerOf (n : Nat) : Option Element :=
  match n with
  | 0 => some .e1 | 1 => some .e2 | 2 => some .e3 | 3 => some .e4 | _ => none

/-- The direction of a code. -/
def directionOf (n : Nat) : Option Direction :=
  match n with
  | 1 => some .fwd | 2 => some .rev | _ => none

/-! ### Result codes (R183) -/

/-- The codes of a reply, with the bytes that follow a refusal. -/
inductive ReplyCode where
  | ok (fields : List Byte)
  | clamped (fields : List Byte)
  | busy
  | badState
  | badField (field record : Nat)
  | badLength
  | unknownKind
  | inUse
  | full
  | finalSeen
  | doorOpen
  | tripped
  | stillActive
  | denied
  | badContext (reason : Nat)
  deriving DecidableEq, Repr

/-- A reply's payload (R183). -/
def ReplyCode.payload : ReplyCode → List Byte
  | .ok fields => 0x00 :: fields
  | .clamped fields => 0x01 :: fields
  | .busy => [0x10]
  | .badState => [0x11]
  | .badField f r => 0x12 :: (u8 f ++ u8 r)
  | .badLength => [0x13]
  | .unknownKind => [0x14]
  | .inUse => [0x15]
  | .full => [0x16]
  | .finalSeen => [0x17]
  | .doorOpen => [0x18]
  | .tripped => [0x19]
  | .stillActive => [0x1A]
  | .denied => [0x1B]
  | .badContext r => 0x1C :: u8 r

/-! ### Frames (R190) -/

/-- A frame on the line: start byte, LEN, KIND, TAG, payload, CRC over all but the start byte. -/
def frameBytes (f : OutFrame) : List Byte :=
  let body := BitVec.ofNat 8 (f.payload.length + 2) :: f.kind :: f.tag :: f.payload
  0x7E :: (body ++ crcBytes (crc16 body))

/-- A report's payload (R193): source, severity, code, cycle elapsed, data. -/
def reportFrame (r : Report) : OutFrame :=
  ⟨0x70, 0, u8 r.source.code ++ u8 r.severity.code ++ [r.code] ++ u32 r.seconds ++ r.data⟩

/-! ### The stage record (R191) -/

/-- A stage record's 20 bytes. -/
def stageBytes (r : StageRec) : List Byte :=
  u8 ((if r.final then 128 else 0) + r.kind.code) ++ u8 r.pattern ++ s16 r.exhaustTarget ++ s16 r.inletLimit ++
    u16 r.dryTarget ++ u8 r.confirm ++ s16 r.dryMinExhaust ++ u16 r.minDuration ++ u16 r.maxDuration ++ s16 r.coolTo ++
    u16 r.guardInterval ++ u8 r.burstRevs

/-- A stage record from its 20 bytes; none when the kind code is not in the list (field 1). -/
def stageOf (bs : List Byte) : Option StageRec :=
  (stageKindOf (byteAt bs 0 % 128)).map fun kind =>
    { kind := kind
      final := decide (128 ≤ byteAt bs 0)
      pattern := byteAt bs 1
      exhaustTarget := signedWordAt bs 2
      inletLimit := signedWordAt bs 4
      dryTarget := wordAt bs 6
      confirm := byteAt bs 8
      dryMinExhaust := signedWordAt bs 9
      minDuration := wordAt bs 11
      maxDuration := wordAt bs 13
      coolTo := signedWordAt bs 15
      guardInterval := wordAt bs 17
      burstRevs := byteAt bs 19 }

/-- The valid temperature span, -40.0..+300.0 °C in 0.1 °C (R75, R129). -/
def tempInSpan (v : Int) : Bool := decide (-400 ≤ v ∧ v ≤ 3000)

/-- The number of the first used field out of range, in field-number order (R129, R131 step 4); `last` says the record is the last
of its request. -/
def stageFault (r : StageRec) (last : Bool) : Option Nat :=
  let heated := r.kind = .dry ∨ r.kind = .timed
  let floored := r.kind = .dry ∨ r.kind = .cool
  if r.final ∧ ¬ last then some 2
  else if 7 < r.pattern then some 3
  else if heated ∧ ¬ tempInSpan r.exhaustTarget then some 4
  else if heated ∧ ¬ tempInSpan r.inletLimit then some 5
  else if r.kind = .dry ∧ r.confirm = 0 then some 7
  else if r.kind = .dry ∧ ¬ tempInSpan r.dryMinExhaust then some 8
  else if r.maxDuration = 0 ∨ (floored ∧ r.maxDuration < r.minDuration) then some 10
  else if r.kind = .cool ∧ ¬ tempInSpan r.coolTo then some 11
  else if r.kind = .guard ∧ (r.guardInterval < 10 ∨ 3600 < r.guardInterval) then some 12
  else if r.kind = .guard ∧ r.burstRevs = 0 then some 13
  else none

/-- A payload cut into records of a fixed width. -/
def chunks (width : Nat) : Nat → List Byte → List (List Byte)
  | 0, _ => []
  | n + 1, bs => bs.take width :: chunks width n (bs.drop width)

/-- The records of a PLAN_APPEND with the first failure of R131 step 4, if any, as (field number, record index from 1). -/
def checkStages (idx : Nat) : List (List Byte) → Except (Nat × Nat) (List StageRec)
  | [] => .ok []
  | bs :: rest =>
    match stageOf bs with
    | none => .error (1, idx)
    | some r =>
      match stageFault r rest.isEmpty with
      | some field => .error (field, idx)
      | none =>
        match checkStages (idx + 1) rest with
        | .error e => .error e
        | .ok rs => .ok (r :: rs)

/-! ### The pattern entry (R191) -/

/-- A pattern entry's 8 bytes. -/
def patternBytes (p : Pattern) : List Byte :=
  u16 p.rpm ++ u8 p.forward ++ u8 p.reverse ++ u16 p.dwell ++ u16 p.nominal

/-- A pattern entry as received. -/
def patternOf (bs : List Byte) : Pattern :=
  ⟨wordAt bs 0, byteAt bs 2, byteAt bs 3, wordAt bs 4, wordAt bs 6⟩

/-- A pattern entry as stored (R26). -/
def clampPattern (p : Pattern) : Pattern :=
  { p with
    rpm := max 10 (min 60 p.rpm)
    reverse := max 1 p.reverse
    dwell := min 255 p.dwell
    nominal := min 1023 p.nominal }

/-! ### The Revolution record (R192) -/

/-- A Revolution record's 16 bytes. -/
def revBytes (r : RevRecord) : List Byte :=
  u16 r.number ++ u8 r.direction.code ++ u16 r.period ++ u8 r.tach ++ u8 r.state.code ++ flag r.lock ++ u8 r.cls.code ++
    u16 r.iRev ++ u8 r.m ++ u8 r.k ++ u8 r.outcome.code ++ u16 (r.mRev.getD 0)

/-! ### The context record (R159, R192) -/

/-- What a context record carries; the presence flag, direction, pointer and dry-latched stand as their codes until checked. -/
structure ContextRec where
  version : Nat
  held : Nat
  digest : Nat
  ordinal : Nat
  stageElapsed : Nat
  cycleElapsed : Nat
  fPresent : Nat
  fValue : Nat
  sparse : Nat
  offset : Int
  direction : Nat
  pointer : Nat
  stageTangles : Nat
  dryLatched : Nat
  deriving DecidableEq, Repr

/-- The 30 bytes the check value covers; the fill is 0. -/
def contextBody (c : ContextRec) : List Byte :=
  u8 c.version ++ u8 c.held ++ u16 c.digest ++ u16 c.ordinal ++ u16 c.stageElapsed ++ u32 c.cycleElapsed ++ u8 c.fPresent ++
    u16 c.fValue ++ u8 c.sparse ++ s8 c.offset ++ u8 c.direction ++ u8 c.pointer ++ u8 c.stageTangles ++ u8 c.dryLatched ++
    List.replicate 9 0

/-- A context record's 32 bytes. -/
def contextBytes (c : ContextRec) : List Byte :=
  contextBody c ++ crcBytes (crc16 (contextBody c))

/-- A context record from its 32 bytes. -/
def contextOf (bs : List Byte) : ContextRec where
  version := byteAt bs 0
  held := byteAt bs 1
  digest := wordAt bs 2
  ordinal := wordAt bs 4
  stageElapsed := wordAt bs 6
  cycleElapsed := longAt bs 8
  fPresent := byteAt bs 12
  fValue := wordAt bs 13
  sparse := byteAt bs 15
  offset := signedByteAt bs 16
  direction := byteAt bs 17
  pointer := byteAt bs 18
  stageTangles := byteAt bs 19
  dryLatched := byteAt bs 20

/-- Whether the check value of a received context record matches the bytes before it (R161 step 3). -/
def contextChecks (bs : List Byte) : Bool := decide ((crc16 (bs.take 30)).toNat = wordAt bs 30)

/-! ### The profile record (R195) -/

/-- The fields of a profile in field-number order. -/
def profileFields (p : Profile) : List Nat :=
  [p.tachPulses, p.windowStart, p.windowLen, p.contactThreshold, p.minContacts, p.sparseLimit, p.filterExp, p.current1,
   p.current2, p.current3] ++
  [p.current4, p.baseLoad, p.surge, p.allowance, p.grantTimeout, p.minOn, p.minOff, p.stageStep, p.inletHyst, p.policy] ++
  [p.fireThreshold, p.airflowMin, p.airflowGrace, p.late, p.early, p.maxAdjust, p.accelTime, p.stopDetectTime, p.stallTime,
   p.tangleMargin] ++
  [p.tangleRun, p.silenceTimeout, p.starveLimit, p.runOnTemp, p.runOnLimit, p.excessMargin, p.pinResetEnable,
   p.linkResetEnable, p.reportLevel, p.announce]

/-- A profile from its fields. -/
def profileOfFields (l : List Nat) : Profile where
  tachPulses := l.getD 0 0
  windowStart := l.getD 1 0
  windowLen := l.getD 2 0
  contactThreshold := l.getD 3 0
  minContacts := l.getD 4 0
  sparseLimit := l.getD 5 0
  filterExp := l.getD 6 0
  current1 := l.getD 7 0
  current2 := l.getD 8 0
  current3 := l.getD 9 0
  current4 := l.getD 10 0
  baseLoad := l.getD 11 0
  surge := l.getD 12 0
  allowance := l.getD 13 0
  grantTimeout := l.getD 14 0
  minOn := l.getD 15 0
  minOff := l.getD 16 0
  stageStep := l.getD 17 0
  inletHyst := l.getD 18 0
  policy := l.getD 19 0
  fireThreshold := l.getD 20 0
  airflowMin := l.getD 21 0
  airflowGrace := l.getD 22 0
  late := l.getD 23 0
  early := l.getD 24 0
  maxAdjust := l.getD 25 0
  accelTime := l.getD 26 0
  stopDetectTime := l.getD 27 0
  stallTime := l.getD 28 0
  tangleMargin := l.getD 29 0
  tangleRun := l.getD 30 0
  silenceTimeout := l.getD 31 0
  starveLimit := l.getD 32 0
  runOnTemp := l.getD 33 0
  runOnLimit := l.getD 34 0
  excessMargin := l.getD 35 0
  pinResetEnable := l.getD 36 0
  linkResetEnable := l.getD 37 0
  reportLevel := l.getD 38 0
  announce := l.getD 39 0

/-- Which fields take two bytes, in field-number order: field 4, fields 8 to 14, fields 21, 22, 34 and 36. -/
def profileWide : List Bool :=
  [false, false, false, true, false, false, false, true, true, true] ++
  [true, true, true, true, false, false, false, false, false, false] ++
  [true, true, false, false, false, false, false, false, false, false] ++
  [false, false, false, true, false, true, false, false, false, false]

/-- Fields to bytes by the list of widths. -/
def encodeFields : List Bool → List Nat → List Byte
  | wide :: ws, v :: vs => (if wide then u16 v else u8 v) ++ encodeFields ws vs
  | _, _ => []

/-- Bytes to fields by the list of widths. -/
def decodeFields : List Bool → List Byte → List Nat
  | [], _ => []
  | true :: ws, bs => wordAt bs 0 :: decodeFields ws (bs.drop 2)
  | false :: ws, bs => byteAt bs 0 :: decodeFields ws (bs.drop 1)

/-- The profile record's 52 bytes. -/
def profileBytes (p : Profile) : List Byte := encodeFields profileWide (profileFields p)

/-- The profile a record of 52 bytes carries. -/
def profileOf (bs : List Byte) : Profile := profileOfFields (decodeFields profileWide bs)

/-- A profile as it is applied: the filter exponent modulo 8, so that k is 0..7 at every fold (R57, R195, R197). -/
def Profile.masked (p : Profile) : Profile := { p with filterExp := p.filterExp % 8 }

/-- The range of each field in field-number order (R195); field 7 is not checked (R196). -/
def profileRanges : List (Nat × Nat) :=
  [(1, 64), (0, 63), (1, 64), (1, 4094), (1, 64), (1, 255), (0, 255), (0, 1000), (0, 1000), (0, 1000)] ++
  [(0, 1000), (1, 1000), (1, 1000), (1, 65535), (1, 255), (1, 255), (1, 255), (1, 255), (10, 255), (1, 2)] ++
  [(600, 2000), (10, 500), (1, 60), (0, 255), (0, 255), (0, 127), (5, 255), (10, 255), (1, 25), (1, 255)] ++
  [(1, 32), (0, 255), (10, 255), (300, 800), (1, 30), (5, 500), (0, 1), (0, 1), (0, 3), (0, 1)]

/-- The number of the first field out of its range (R196 step 2). -/
def rangeFault (idx : Nat) : List (Nat × Nat) → List Nat → Option Nat
  | (lo, hi) :: rs, v :: vs => if v < lo ∨ hi < v then some idx else rangeFault (idx + 1) rs vs
  | _, _ => none

/-- The field a profile record is refused on (R196 steps 2 to 6), if any. -/
def profileFault (p : Profile) : Option Nat :=
  match rangeFault 1 profileRanges (profileFields p) with
  | some f => some f
  | none =>
    if p.tachPulses < p.windowStart + p.windowLen then some 3
    else if p.windowLen < p.minContacts then some 5
    else if p.allowance < p.baseLoad + p.surge then some 14
    else if p.allowance < p.baseLoad + p.current1 ∧ p.current1 ≠ 0 then some 8
    else if p.allowance < p.baseLoad + p.current2 ∧ p.current2 ≠ 0 then some 9
    else if p.allowance < p.baseLoad + p.current3 ∧ p.current3 ≠ 0 then some 10
    else if p.allowance < p.baseLoad + p.current4 ∧ p.current4 ≠ 0 then some 11
    else none

/-- The stored copy of a profile (R198): store version, the 52 bytes, and the CRC-16 over both, its high byte
first: DESIGN CHOICE (log entry 37), since R198 says how the check value is computed and not how the store holds it. -/
def storedCopy (p : Profile) : List Byte :=
  let body := u8 Config.storeVersion ++ profileBytes p
  body ++ crcBytes (crc16 body)

/-- Whether a stored copy's check value fails (R199); an empty or never-written store fails it. The check value
is read high byte first: DESIGN CHOICE (log entry 37). -/
def storeCheckFails (st : List Byte) : Bool :=
  !(decide (st.length = 55) && decide ((crc16 (st.take 53)).toNat = wordAt st 53))

end Sys2Proof.Machine
end

