-- ==== Sys2Proof/Machine/Flags.lean ====
section
/-! DEFINITION. The event flags, and every judgement the blocks compute from state: lock and class of a revolution, the drum's
outputs, headroom, the energize gate, the classes of the trips, the granted total. -/

namespace Sys2Proof.Machine

/-! ### Event flags (R189) -/

/-- The members of the event flag set. -/
inductive EventFlag where
  | stageChanged | dryReached | tripRaised | lockLost | tangleReversal | grantForced | starved
  deriving DecidableEq, Repr

/-- The set with one member set. -/
def EventFlags.put (f : EventFlags) : EventFlag → EventFlags
  | .stageChanged => { f with stageChanged := true }
  | .dryReached => { f with dryReached := true }
  | .tripRaised => { f with tripRaised := true }
  | .lockLost => { f with lockLost := true }
  | .tangleReversal => { f with tangleReversal := true }
  | .grantForced => { f with grantForced := true }
  | .starved => { f with starved := true }

/-- The flags as one byte, STAGE_CHANGED at bit 0, STARVED at bit 6 (R190). -/
def EventFlags.number (f : EventFlags) : Nat :=
  f.stageChanged.toNat + 2 * f.dryReached.toNat + 4 * f.tripRaised.toNat + 8 * f.lockLost.toNat +
    16 * f.tangleReversal.toNat + 32 * f.grantForced.toNat + 64 * f.starved.toNat

/-! ### The drum (R1, R13) -/

/-- Whether the drum is driven: ACCEL or RUN (R1). -/
def DrumState.driven : DrumState → Bool
  | .accel | .run => true
  | _ => false

/-- Whether revolutions are timed: ACCEL, RUN and DECEL (R10). -/
def DrumState.timesRevs : DrumState → Bool
  | .accel | .run | .decelStop | .decelReverse => true
  | _ => false

/-- The inverter's run enable (R1). -/
def runEnable (d : Drum) : Bool := d.state.timesRevs

/-- The inverter's speed demand (R1): clamp(nominal + offset, 0, 1023) in ACCEL and RUN, 0 elsewhere. -/
def speedDemand (d : Drum) : Int :=
  if d.state.driven then clampInt 0 1023 ((d.active.nominal : Int) + d.offset) else 0

/-- The other direction. -/
def Direction.opposite : Direction → Direction
  | .fwd => .rev
  | .rev => .fwd

/-- The target period of a pattern, floor(60000 / rpm) ms (R13). -/
def targetPeriod (p : Pattern) : Nat := 60000 / p.rpm

/-- The lock flag after a well-formed RUN revolution (R13): set in -E..L, clear beyond 2L or -2E, otherwise unchanged. -/
def lockAfter (late early : Nat) (delta : Int) (lock : Bool) : Bool :=
  if -(early : Int) ≤ delta ∧ delta ≤ late then true
  else if 2 * (late : Int) < delta ∨ delta < -2 * (early : Int) then false
  else lock

/-- The class of a closed revolution (R13) from whether its tach count is T, its state at close, and the lock after evaluation. -/
def revClass (wellFormed : Bool) (st : DrumState) (lock : Bool) : RevClass :=
  if !wellFormed then .malformed
  else if st = .run ∧ lock then .steady
  else .ramp

/-- The offset after regulation of a well-formed RUN revolution (R15). -/
def regulated (p : Profile) (delta offset : Int) : Int :=
  if (p.late : Int) < delta then (if offset = p.maxAdjust then offset else offset + 1)
  else if delta < -(p.early : Int) then (if offset = -(p.maxAdjust : Int) then offset else offset - 1)
  else offset

/-- The tangle threshold over an established baseline (R36). -/
def tangleThreshold (p : Profile) (iBase : Nat) : Nat := iBase + iBase * p.tangleMargin / 256

/-! ### Electrodes (R42) -/

/-- The wetness of a contact: min(65535, floor((4095 - C) * 256 / (C + 1))). -/
def wetness (c : Nat) : Nat := min 65535 ((4095 - c) * 256 / (c + 1))

/-! ### Air, heat, current -/

/-- The blower contactor drive (R78). -/
def blowerContactor (a : Atu) : Bool := decide (a.blower ≠ .off)

/-- The element contactor drive (R91). -/
def ElementState.energized : ElementState → Bool
  | .onHold | .onFree => true
  | _ => false

/-- Whether an element counts as active (R97). -/
def ElementState.counted : ElementState → Bool
  | .onHold | .onFree | .waitGrant => true
  | _ => false

/-- Whether a debounced input reads CLOSED; UNSETTLED is taken as OPEN (R86). -/
def DebouncedInput.isClosed (i : DebouncedInput) : Bool := decide (i.settled = some .closed)

/-- The energize gate (R100): blower ON with airflow proven, high-limit CLOSED, door CLOSED. -/
def energizeGate (a : Atu) : Bool :=
  decide (a.blower = .on) && a.airflowProven && a.highLimit.isClosed && a.door.isClosed

/-- The four elements in ascending number. -/
def allElements : List Element := [.e1, .e2, .e3, .e4]

/-- The fitted count (R91). -/
def fittedCount (p : Profile) : Nat := (allElements.filter fun e => Profile.current p e ≠ 0).length

/-- The active count (R97). -/
def activeCount (h : Hstg) : Nat := (allElements.filter fun e => (h.elements.get e).state.counted).length

/-- The demand D at an exhaust value (R95). -/
def demandFor (p : Profile) (h : Hstg) (exhaust : Int) : Nat :=
  if !h.heatEnable then 0
  else if h.inletCap then 0
  else
    match h.settings.bind (·.heat) with
    | none => 0
    | some t =>
      if t.exhaustTarget - exhaust ≤ 0 then 0
      else min (fittedCount p) (1 + ((t.exhaustTarget - exhaust) / p.stageStep).toNat)

/-- The sum of the currents of the grant list (R111). -/
def grantSum (l : List GrantEntry) : Nat := (l.map (·.current)).sum

/-- The granted total (R111): the grant list, plus the surge while GRANTED. -/
def grantedTotal (p : Profile) (a : Saa) : Nat :=
  grantSum a.grants + if a.surge = .granted then p.surge else 0

/-- Headroom (R111): allowance less base load, less the granted total. -/
def headroom (p : Profile) (a : Saa) : Int := (p.allowance : Int) - p.baseLoad - grantedTotal p a

/-! ### Trips (R165, R171) -/

/-- The class of a cause. -/
def tripClass : TripCause → TripClass
  | .exhaustFire => .severe
  | .hostSilent => .pause
  | .highLimit | .airflow | .drumStall | .sensor | .tach | .supplyExcess => .halt

/-- The causes in cause-code order. -/
def allCauses : List TripCause :=
  [.highLimit, .exhaustFire, .airflow, .drumStall, .sensor, .tach, .supplyExcess, .hostSilent]

/-- Whether any HALT- or SEVERE-class entry is ACTIVE or HELD (R171). -/
def tripBars (t : TripTable) : Bool :=
  allCauses.any fun c => decide (tripClass c ≠ .pause) && decide ((t.get c).state ≠ .clear)

/-- Whether a PAUSE-class entry is ACTIVE (R156 step 4). -/
def pauseTripActive (t : TripTable) : Bool :=
  allCauses.any fun c => decide (tripClass c = .pause) && decide ((t.get c).state = .active)

end Sys2Proof.Machine
end

