-- ==== Sys2Proof/Machine/Ops.lean ====
section
/-! DEFINITION. The operations every block shares: replacing one block's state, handing LINK a report or an event flag, handing
a message to another block's path, and delivering a request with its reply. -/

namespace Sys2Proof.Machine

/-! ### Updating one block -/

/-- LINK's state updated. -/
def State.updLink (s : State) (f : Link → Link) : State := { s with link := f s.link }
/-- PROF's state updated. -/
def State.updProf (s : State) (f : Prof → Prof) : State := { s with prof := f s.prof }
/-- ATU's state updated. -/
def State.updAtu (s : State) (f : Atu → Atu) : State := { s with atu := f s.atu }
/-- HSTG's state updated. -/
def State.updHstg (s : State) (f : Hstg → Hstg) : State := { s with hstg := f s.hstg }
/-- SAA's state updated. -/
def State.updSaa (s : State) (f : Saa → Saa) : State := { s with saa := f s.saa }
/-- DRUM's state updated. -/
def State.updDrum (s : State) (f : Drum → Drum) : State := { s with drum := f s.drum }
/-- EFE's state updated. -/
def State.updEfe (s : State) (f : Efe → Efe) : State := { s with efe := f s.efe }
/-- MEST's state updated. -/
def State.updMest (s : State) (f : Mest → Mest) : State := { s with mest := f s.mest }
/-- CPX's state updated. -/
def State.updCpx (s : State) (f : Cpx → Cpx) : State := { s with cpx := f s.cpx }
/-- The Trip Table updated. -/
def State.updTrip (s : State) (f : TripTable → TripTable) : State := { s with trip := f s.trip }
/-- The messages in flight updated. -/
def State.updPaths (s : State) (f : Paths → Paths) : State := { s with paths := f s.paths }

/-- The active profile. -/
def State.profile (s : State) : Profile := s.prof.active

/-! ### Reports and event flags (R185, R189) -/

/-- A report joins the tail of the report queue, or is lost when 8 are queued (R185). -/
def queueReport (r : Report) (s : State) : State :=
  s.updLink fun l =>
    if l.reports.length < Config.reportCapacity then { l with reports := l.reports ++ [r] }
    else { l with lost := bump 255 l.lost }

/-- A block hands LINK a report: the level decides whether it is queued, and its cycle elapsed is CPX's now (R185, R186). -/
def report (source : Source) (severity : Severity) (code : Byte) (data : List Byte) (s : State) : State :=
  if severity.code ≤ s.link.level then queueReport ⟨source, severity, code, s.cpx.cycleElapsed, data⟩ s else s

/-- An event flag is set (R189). -/
def raiseFlag (f : EventFlag) (s : State) : State := s.updLink fun l => { l with flags := l.flags.put f }

/-! ### Messages (R6, R63, R113, R166) -/

/-- HSTG hands SAA a message. -/
def sendToSaa (m : HstgMsg) (s : State) : State := s.updPaths fun p => { p with hstgToSaa := p.hstgToSaa ++ [m] }
/-- SAA hands HSTG a message. -/
def sendToHstg (m : SaaMsg) (s : State) : State := s.updPaths fun p => { p with saaToHstg := p.saaToHstg ++ [m] }
/-- DRUM hands SAA a message. -/
def sendDrumToSaa (m : DrumMsg) (s : State) : State := s.updPaths fun p => { p with drumToSaa := p.drumToSaa ++ [m] }
/-- SAA hands DRUM a surge grant. -/
def sendToDrum (txn : Byte) (s : State) : State := s.updPaths fun p => { p with saaToDrum := p.saaToDrum ++ [txn] }
/-- MEST hands CPX a dry-reached signal. -/
def sendDry (ordinal : Nat) (s : State) : State := s.updPaths fun p => { p with dry := p.dry ++ [ordinal] }
/-- A detecting block hands TRIP a condition. -/
def handCondition (c : TripCause) (s : State) : State := s.updPaths fun p => { p with trip := p.trip ++ [⟨c, false⟩] }
/-- A detecting block hands TRIP the end of a condition. -/
def handConditionEnd (c : TripCause) (s : State) : State := s.updPaths fun p => { p with trip := p.trip ++ [⟨c, true⟩] }

/-- SAA takes HSTG's oldest message if it is this one; otherwise nothing is there to take (log entry 1). -/
def takeHstgMsg (m : HstgMsg) (act : State → State) (s : State) : State :=
  match s.paths.hstgToSaa with
  | m' :: rest => if m' = m then act (s.updPaths fun p => { p with hstgToSaa := rest }) else s
  | [] => s

/-- HSTG takes SAA's oldest message if it is this one. -/
def takeSaaMsg (m : SaaMsg) (act : State → State) (s : State) : State :=
  match s.paths.saaToHstg with
  | m' :: rest => if m' = m then act (s.updPaths fun p => { p with saaToHstg := rest }) else s
  | [] => s

/-- SAA takes DRUM's oldest message if it is this one. -/
def takeDrumMsg (m : DrumMsg) (act : State → State) (s : State) : State :=
  match s.paths.drumToSaa with
  | m' :: rest => if m' = m then act (s.updPaths fun p => { p with drumToSaa := rest }) else s
  | [] => s

/-- DRUM takes SAA's oldest surge grant if it carries this number. -/
def takeSurgeGrant (txn : Byte) (act : State → State) (s : State) : State :=
  match s.paths.saaToDrum with
  | t :: rest => if t = txn then act (s.updPaths fun p => { p with saaToDrum := rest }) else s
  | [] => s

/-- CPX takes MEST's oldest signal if it carries this ordinal. -/
def takeDry (ordinal : Nat) (act : State → State) (s : State) : State :=
  match s.paths.dry with
  | o :: rest => if o = ordinal then act (s.updPaths fun p => { p with dry := rest }) else s
  | [] => s

/-- TRIP takes the oldest message of a cause if it is this one; messages of other causes may be overtaken (R167, log entry 4). -/
def takeTripMsg (m : TripMsg) (act : State → State) (s : State) : State :=
  if s.paths.trip.find? (fun x => decide (x.cause = m.cause)) = some m then
    act (s.updPaths fun p => { p with trip := p.trip.erase m })
  else s

/-! ### Requests (R182, R183) -/

/-- A reply enters the slot: its KIND is the request's plus 0x80 modulo 256, its TAG the request's (R183). -/
def putReply (kind tag : Byte) (code : ReplyCode) (s : State) : State :=
  s.updLink fun l => { l with slot := some ⟨kind + 0x80, tag, code.payload⟩ }

/-- The frame a request command delivers, when it is due: the reply slot is empty and the frame is the oldest of the inbound queue
(R182). -/
def dueFrame (kind tag : Byte) (payload : List Byte) (l : Link) : Option (InFrame × List InFrame) :=
  match l.slot, l.inbound with
  | none, f :: rest => if f.kind = kind ∧ f.tag = tag ∧ f.payload = payload then some (f, rest) else none
  | _, _ => none

end Sys2Proof.Machine
end

