-- ==== Sys2Proof/Machine/Hstg.lean ====
section
/-! DEFINITION. HSTG (chapter 6): demand, the choice of elements, holds, stops and sheds, and the commands that reach HSTG. -/

namespace Sys2Proof.Machine

/-! ### Element records -/

/-- One element's record. -/
def State.elem (s : State) (e : Element) : ElementRec := s.hstg.elements.get e

/-- One element's record updated. -/
def State.updElem (s : State) (e : Element) (f : ElementRec → ElementRec) : State :=
  s.updHstg fun h => { h with elements := h.elements.set e (f (h.elements.get e)) }

/-- The next position of the rotation, E1 after E4 (R93). -/
def nextElement : Element → Element
  | .e1 => .e2 | .e2 => .e3 | .e3 => .e4 | .e4 => .e1

/-- The scan of a ROTATE choice, from an element on, E1 after E4 (R93). -/
def scanFrom (e : Element) : List Element := [e, nextElement e, nextElement (nextElement e), nextElement (nextElement (nextElement e))]

/-- Whether the rotation policy is ROTATE (R93, R195). -/
def rotates (p : Profile) : Bool := decide (p.policy = 2)

/-- Heat-enable takes a value; a change of it clears the inlet cap (R94, R96). -/
def setHeatEnable (b : Bool) (s : State) : State :=
  s.updHstg fun h => if h.heatEnable = b then h else { h with heatEnable := b, inletCap := false }

/-- An element is de-energized: OFF_HOLD, its cause, out of the on-order list, min-on cancelled, min-off started (R98, R104, R106). -/
def deenergize (cause : OffCause) (e : Element) (s : State) : State :=
  (s.updElem e fun r =>
      { r with state := .offHold, requested := false, lastOff := cause, minOn := none, minOff := some (s.profile.minOff * 1000) }).updHstg
    fun h => { h with onOrder := h.onOrder.erase e }

/-- An element is de-energized and its grant released to SAA (R98 pass 2, R104). -/
def switchOff (cause : OffCause) (e : Element) (s : State) : State :=
  sendToSaa (.release e) (deenergize cause e s)

/-- A WAIT_GRANT element enters OFF_READY; a requested one is withdrawn from SAA (R98 pass 1, R104). -/
def dropWaiting (e : Element) (s : State) : State :=
  let s' := s.updElem e fun r => { r with state := .offReady, requested := false }
  if (s.elem e).requested then sendToSaa (.withdrawal e) s' else s'

/-- A request for an element's profile current is handed to SAA (R99, R101). -/
def requestElement (e : Element) (s : State) : State :=
  sendToSaa (.request e (Profile.current s.profile e)) (s.updElem e fun r => { r with requested := true })

/-- An OFF_READY element is chosen: WAIT_GRANT, requested; under ROTATE the pointer moves past it (R93, R99). -/
def choose (e : Element) (s : State) : State :=
  let s := s.updElem e fun r => { r with state := .waitGrant }
  let s := if rotates s.profile then s.updHstg fun h => { h with pointer := nextElement e } else s
  requestElement e s

/-! ### Applying demand (R97 to R99) -/

/-- The WAIT_GRANT elements, highest number first (R98 pass 1). -/
def waitingDown (h : Hstg) : List Element :=
  allElements.reverse.filter fun e => (h.elements.get e).state = .waitGrant

/-- The ON_FREE elements in the switch-off order of the policy (R93, R98 pass 2). -/
def switchOffOrder (p : Profile) (h : Hstg) : List Element :=
  (if rotates p then h.onOrder else allElements.reverse).filter fun e => (h.elements.get e).state = .onFree

/-- The OFF_READY elements in the choosing order of the policy (R93, R99). -/
def choosingOrder (p : Profile) (h : Hstg) : List Element :=
  (if rotates p then scanFrom h.pointer else allElements).filter fun e => (h.elements.get e).state = .offReady

/-- An excess of x elements is removed in two passes (R98). -/
def removeExcess (x : Nat) (s : State) : State :=
  let waiting := (waitingDown s.hstg).take x
  let s := waiting.foldl (fun s e => dropWaiting e s) s
  ((switchOffOrder s.profile s.hstg).take (x - waiting.length)).foldl (fun s e => switchOff .normal e s) s

/-- Up to y elements are chosen (R99). -/
def chooseMore (y : Nat) (s : State) : State :=
  ((choosingOrder s.profile s.hstg).take y).foldl (fun s e => choose e s) s

/-- D is applied against the active count (R97). -/
def applyDemand (s : State) : State :=
  let n := activeCount s.hstg
  if s.hstg.demand < n then removeExcess (n - s.hstg.demand) s
  else if n < s.hstg.demand then chooseMore (s.hstg.demand - n) s
  else s

/-- D takes a value and is applied (R95, R96). -/
def setDemand (d : Nat) (s : State) : State := applyDemand (s.updHstg fun h => { h with demand := d })

/-! ### Stops (R104) -/

/-- A stop acts on one element (R104). -/
def stopElement (e : Element) (s : State) : State :=
  match (s.elem e).state with
  | .onHold | .onFree => switchOff .stop e s
  | .waitGrant => dropWaiting e s
  | .offHold | .offReady | .absent => s

/-- A stop: D 0, heat-enable clear when the source is CPX or TRIP, every element off, in ascending number (R104). -/
def hstgStop (fromCycle : Bool) (s : State) : State :=
  let s := if fromCycle then setHeatEnable false s else s
  allElements.foldl (fun s e => stopElement e s) (s.updHstg fun h => { h with demand := 0 })

/-! ### What CPX, ATU and PROF hand HSTG -/

/-- A stage start (R94, R134 step 2): the settings, with heat-enable set for DRY and TIMED; for COOL and GUARD heat-enable clears and
D is 0, applied at once. -/
def hstgStageStart (settings : HeatSettings) (s : State) : State :=
  let s := s.updHstg fun h => { h with settings := some settings }
  match settings.kind with
  | .dry | .timed => setHeatEnable true s
  | .cool | .guard => setDemand 0 (setHeatEnable false s)

/-- The entry to STARVED (R94, R105): heat-enable clears and D is 0, applied at once. -/
def hstgStarved (s : State) : State := setDemand 0 (setHeatEnable false s)

/-- RESUME (R94): heat-enable set on a return to RUNNING in a DRY or TIMED stage, clear with D 0 otherwise. -/
def hstgResume (heat : Bool) (s : State) : State :=
  if heat then setHeatEnable true s else setDemand 0 (setHeatEnable false s)

/-- A context load (R94, R109): the head stage's settings with heat-enable clear and D 0, and the carried pointer. -/
def hstgLoad (settings : HeatSettings) (pointer : Element) (s : State) : State :=
  (setHeatEnable false s).updHstg fun h => { h with settings := some settings, pointer := pointer, demand := 0 }

/-- CYCLE_CLOSE (R94): no settings held, heat-enable clear, D 0. -/
def hstgClose (s : State) : State :=
  (setHeatEnable false s).updHstg fun h => { h with settings := none, demand := 0 }

/-- An exhaust conversion (R95): with heat-enable set, D is computed and applied. -/
def hstgExhaust (value : Int) (s : State) : State :=
  if s.hstg.heatEnable then setDemand (demandFor s.profile s.hstg value) s else s

/-- An inlet conversion (R96): a valid one, with heat-enable set, sets or clears the inlet cap; setting it puts D at 0 and gives the
INLET_CAP report. -/
def hstgInlet (value : Int) (valid : Bool) (s : State) : State :=
  if valid && s.hstg.heatEnable then
    match s.hstg.settings with
    | none => s
    | some st =>
      match st.heat with
      | none => s
      | some t =>
        if s.hstg.inletCap then
          if value ≤ t.inletLimit - s.profile.inletHyst then s.updHstg fun h => { h with inletCap := false } else s
        else if t.inletLimit ≤ value then
          report .hstg .info 0x40 (s16 value ++ s16 t.inletLimit ++ u16 st.ordinal)
            (setDemand 0 (s.updHstg fun h => { h with inletCap := true }))
        else s
  else s

/-- When the gate holds, every held-back element requests again, in ascending number (R101). -/
def rerequest (s : State) : State :=
  if energizeGate s.atu then
    (allElements.filter fun e => decide ((s.elem e).state = .waitGrant) && !(s.elem e).requested).foldl
      (fun s e => requestElement e s) s
  else s

/-- One element record brought into line with a new profile (R109). -/
def alignElement (p : Profile) (e : Element) (r : ElementRec) : ElementRec :=
  if Profile.current p e = 0 then
    match r.state with
    | .offReady | .offHold => { r with state := .absent, minOff := none }
    | .absent | .waitGrant | .onHold | .onFree => r
  else if r.state = .absent then { r with state := .offHold, minOff := some (p.minOff * 1000) }
  else r

/-- HSTG brings its records into line with the active profile's element currents (R109). -/
def hstgProfile (s : State) : State :=
  allElements.foldl (fun s e => s.updElem e (alignElement s.profile e)) s

/-! ### Grants and sheds -/

/-- An element is energized (R100). -/
def energize (e : Element) (s : State) : State :=
  (s.updElem e fun r =>
      { r with state := .onHold, requested := false, onSince := some s.cpx.cycleElapsed, onCount := bump 65535 r.onCount,
               minOn := some (s.profile.minOn * 1000) }).updHstg
    fun h => { h with onOrder := h.onOrder ++ [e] }

/-- HSTG takes a grant (R100): a requested WAIT_GRANT element is energized if the gate holds and held back with its grant released if
not; in any other state the grant is handed back as a release. -/
def takeGrant (e : Element) (s : State) : State :=
  if (s.elem e).state = .waitGrant ∧ (s.elem e).requested then
    if energizeGate s.atu then energize e s
    else sendToSaa (.release e) (s.updElem e fun r => { r with requested := false })
  else sendToSaa (.release e) s

/-- HSTG takes a shed (R106), then applies D. -/
def takeShed (e : Element) (s : State) : State :=
  match (s.elem e).state with
  | .onFree => applyDemand (deenergize .shed e s)
  | .onHold => applyDemand (deenergize .forced e s)
  | .absent | .offReady | .offHold | .waitGrant => s

/-! ### The commands -/

/-- MIN_ON_EXPIRY (R102): ON_FREE, then D applied, then the notice to SAA if the element is still ON_FREE. -/
def minOnExpires (e : Element) (s : State) : State :=
  if (s.elem e).minOn.isSome ∧ (s.elem e).state = .onHold then
    let s := applyDemand (s.updElem e fun r => { r with state := .onFree, minOn := none })
    if (s.elem e).state = .onFree then sendToSaa (.onFree e) s else s
  else s

/-- MIN_OFF_EXPIRY (R103): OFF_READY, then D applied. -/
def minOffExpires (e : Element) (s : State) : State :=
  if (s.elem e).minOff.isSome ∧ (s.elem e).state = .offHold then
    applyDemand (s.updElem e fun r => { r with state := .offReady, minOff := none })
  else s

/-- MIN_ON_EXPIRY (R102). -/
def execMinOnExpiry (e : Element) (s : State) : Result := .next (minOnExpires e s)

/-- MIN_OFF_EXPIRY (R103). -/
def execMinOffExpiry (e : Element) (s : State) : Result := .next (minOffExpires e s)

/-- ELEMENT_GRANT (R100). -/
def execElementGrant (e : Element) (s : State) : Result := .next (takeSaaMsg (.grant e) (takeGrant e) s)

/-- SHED (R106). -/
def execShed (e : Element) (s : State) : Result := .next (takeSaaMsg (.shed e) (takeShed e) s)

end Sys2Proof.Machine
end

