-- ==== Sys2Proof/Machine/Atu.lean ====
section
/-! DEFINITION. ATU (chapter 5): the temperature channels, the blower, airflow proof, run-on and supply excess. The conversions and
the door, which reach CPX as well, stand in Air.lean. -/

namespace Sys2Proof.Machine

/-! ### The blower (R78 to R84) -/

/-- The requests ATU takes for the blower (R78). -/
inductive BlowerRequest where
  | on | runOn | off
  deriving DecidableEq, Repr

/-- A standing AIRFLOW condition ends (R82). -/
def endAirflow (s : State) : State :=
  if s.atu.airflowRaised then handConditionEnd .airflow (s.updAtu fun a => { a with airflowRaised := false }) else s

/-- The blower enters OFF from ON or RUN_ON (R79, R82); leaving ON is a stop at HSTG (R104). -/
def enterOff (s : State) : State :=
  let s' := endAirflow (s.updAtu fun a =>
    { a with blower := .off, airflowProven := false, grace := none, lowFlow := none, runOn := none })
  if s.atu.blower = .on then hstgStop false s' else s'

/-- The blower enters ON from OFF or RUN_ON (R80). -/
def enterOn (s : State) : State :=
  s.updAtu fun a =>
    { a with blower := .on, airflowProven := false, grace := some (s.profile.airflowGrace * 1000), lowFlow := none, runOn := none }

/-- The blower enters RUN_ON from ON (R83); leaving ON is a stop at HSTG (R104). -/
def enterRunOn (s : State) : State :=
  hstgStop false (s.updAtu fun a =>
    { a with blower := .runOn, airflowProven := false, grace := none, lowFlow := none,
             runOn := some (s.profile.runOnLimit * 60000) })

/-- ATU acts on a blower request by the blower and door states (R79). -/
def blowerRequest (q : BlowerRequest) (s : State) : State :=
  match q, s.atu.blower with
  | .on, .off => if s.atu.door.isClosed then enterOn s else s
  | .on, .on => s
  | .on, .runOn => if s.atu.door.isClosed then enterOn s else enterOff s
  | .runOn, .off => s
  | .runOn, .on => if s.atu.door.isClosed then enterRunOn s else enterOff s
  | .runOn, .runOn => if s.atu.door.isClosed then s else enterOff s
  | .off, .off => s
  | .off, .on => enterOff s
  | .off, .runOn => enterOff s

/-! ### Airflow proof (R80 to R82) -/

/-- AIRFLOW is raised unless it stands (R82). -/
def raiseAirflow (s : State) : State :=
  if s.atu.airflowRaised then s else handCondition .airflow (s.updAtu fun a => { a with airflowRaised := true })

/-- A pressure conversion (R74, R80, R81): carried within 0..2000; with the blower ON it proves airflow or watches for its loss. -/
def pressureConverted (raw : Int) (s : State) : State :=
  let v := (clampInt 0 2000 raw).toNat
  let s := s.updAtu fun a => { a with pressure := v }
  if s.atu.blower ≠ .on then s
  else if !s.atu.airflowProven then
    if s.profile.airflowMin ≤ v then
      rerequest (s.updAtu fun a => { a with airflowProven := true, grace := none })
    else s
  else if v < s.profile.airflowMin then
    if s.atu.lowFlow.isSome then s
    else s.updAtu fun a => { a with lowFlow := some (s.profile.airflowGrace * 1000) }
  else s.updAtu fun a => { a with lowFlow := none }

/-! ### Temperature channels (R75 to R77) -/

/-- A channel after a conversion (R75). -/
def channelAfter (raw : Int) (c : TempChannel) : TempChannel :=
  if tempInSpan raw then ⟨raw, true, 0⟩ else { c with valid := false, invalidRun := bump 255 c.invalidRun }

/-- The SENSOR condition after a temperature conversion, `run` being its channel's invalid run before it and `valid` its result
(R76): raised when the run is brought to 2, ended when both channels stand valid. -/
def judgeSensor (run : Nat) (valid : Bool) (s : State) : State :=
  if s.atu.sensorRaised then
    if s.atu.exhaust.valid && s.atu.inlet.valid then
      handConditionEnd .sensor (s.updAtu fun a => { a with sensorRaised := false })
    else s
  else if !valid ∧ run + 1 = 2 then handCondition .sensor (s.updAtu fun a => { a with sensorRaised := true })
  else s

/-- The EXHAUST_FIRE condition at a valid exhaust conversion (R77). -/
def judgeFire (s : State) : State :=
  let v := s.atu.exhaust.value
  if s.atu.fireRaised then
    if v < (s.profile.fireThreshold : Int) - 100 then
      handConditionEnd .exhaustFire (s.updAtu fun a => { a with fireRaised := false })
    else s
  else if (s.profile.fireThreshold : Int) ≤ v then
    handCondition .exhaustFire (s.updAtu fun a => { a with fireRaised := true })
  else s

/-- The run-on end test at a valid exhaust conversion (R84). -/
def judgeRunOn (s : State) : State :=
  if s.atu.blower = .runOn ∧ s.atu.exhaust.value < s.profile.runOnTemp then enterOff s else s

/-! ### Supply excess (R85) -/

/-- A line-current conversion (R85). -/
def lineConverted (raw : Int) (s : State) : State :=
  let v := raw.toNat
  let limit := s.profile.baseLoad + grantedTotal s.profile s.saa + s.profile.excessMargin
  let s := s.updAtu fun a => { a with lineCurrent := v }
  if s.atu.excessRaised then
    if v ≤ limit then
      if s.atu.belowRun + 1 = 3 then
        handConditionEnd .supplyExcess (s.updAtu fun a => { a with excessRaised := false, belowRun := 0 })
      else s.updAtu fun a => { a with belowRun := a.belowRun + 1 }
    else s.updAtu fun a => { a with belowRun := 0 }
  else if limit < v then
    if s.atu.aboveRun + 1 = 3 then
      handCondition .supplyExcess (s.updAtu fun a => { a with excessRaised := true, aboveRun := 0 })
    else s.updAtu fun a => { a with aboveRun := a.aboveRun + 1 }
  else s.updAtu fun a => { a with aboveRun := 0 }

/-! ### The commands that stay within ATU -/

/-- A raw level change of an input restarts its debounce timer (R86). -/
def levelChange (level : Level) (i : DebouncedInput) : DebouncedInput :=
  if i.raw = level then i else { i with raw := level, timer := some Config.debounceMs }

/-- INPUT_LEVEL_CHANGE (R86). -/
def execInputLevelChange (pin : InputPin) (level : Level) (s : State) : Result :=
  .next (s.updAtu fun a =>
    match pin with
    | .door => { a with door := levelChange level a.door }
    | .highLimit => { a with highLimit := levelChange level a.highLimit })

/-- GRACE_TIMER_EXPIRY (R80). -/
def execGraceTimerExpiry (s : State) : Result :=
  .next (if s.atu.grace.isNone then s else raiseAirflow (s.updAtu fun a => { a with grace := none }))

/-- LOW_FLOW_EXPIRY (R81). -/
def execLowFlowExpiry (s : State) : Result :=
  .next (if s.atu.lowFlow.isNone then s else raiseAirflow (s.updAtu fun a => { a with lowFlow := none }))

/-- RUN_ON_TIMER_EXPIRY (R84). -/
def execRunOnTimerExpiry (s : State) : Result :=
  .next (if s.atu.runOn.isSome ∧ s.atu.blower = .runOn then enterOff s else s)

end Sys2Proof.Machine
end

