-- ==== Sys2Proof/Machine/Mest.lean ====
section
/-! DEFINITION. MEST (chapters 3 and 4): the fold decision, the filter, the dry decision, the trend and the estimate. -/

namespace Sys2Proof.Machine

/-! ### The remaining estimate (R69, R70) -/

/-- The estimate from the stage held, the trend ring and the target period (R70), the cases in order. -/
def estimateFor (m : Mest) (pt : Nat) : Option Nat :=
  match m.stage.bind (·.dry) with
  | none => none
  | some d =>
    let n := m.trend.length
    let oldest := m.trend.headD 0
    let newest := m.trend.getLastD 0
    if n < 2 then none
    else if oldest ≤ newest then none
    else if newest ≤ d.target then some 0
    else some (min 65535 ((newest - d.target) * 8 * (n - 1) / (oldest - newest) * pt / 1000))

/-- MEST recomputes its estimate (R69). -/
def reestimate (s : State) : State :=
  s.updMest fun m => { m with estimate := estimateFor m (targetPeriod s.drum.active) }

/-! ### What CPX and DRUM hand MEST -/

/-- A stage start (R60, R64, R69): the settings, B 0, the dry-signalled flag clear, the estimate recomputed. -/
def mestStageStart (st : MestStage) (s : State) : State :=
  reestimate (s.updMest fun m => { m with stage := some st, b := 0, drySignalled := false })

/-- The settings are withdrawn and the estimate recomputed (R60, R69): STARVED, DONE and CYCLE_CLOSE. -/
def mestWithdraw (s : State) : State := reestimate (s.updMest fun m => { m with stage := none })

/-- START (R136 step 3). -/
def mestStart (s : State) : State :=
  s.updMest fun m =>
    { m with f := none, foldCounter := 0, sparse := 0, sparseWarned := false, trend := [], estimate := none, stage := none }

/-- RESUME sets B to 0 (R64). -/
def mestResume (s : State) : State := s.updMest fun m => { m with b := 0 }

/-- A context load (R72). -/
def mestLoad (st : MestStage) (f : Option Nat) (sparse : Nat) (dryLatched : Bool) (s : State) : State :=
  s.updMest fun m =>
    { m with stage := some st, f := f, sparse := sparse, sparseWarned := false, b := 0, drySignalled := dryLatched,
             foldCounter := 0, trend := [], estimate := none }

/-- The tangle notification (R51, R64). -/
def mestTangle (s : State) : State := s.updMest fun m => { m with b := 0, sparse := 0, sparseWarned := false }

/-! ### The fold (R46 to R52) -/

/-- The filter update (R57): a first load, or F + ((m_rev - F) >> k). -/
def filterStep (k : Nat) (f : Option Nat) (mRev : Nat) : Nat :=
  match f with
  | none => mRev
  | some v => ((v : Int) + ((mRev : Int) - v) / (2 ^ k : Nat)).toNat

/-- The filter update with the fold counter, which wraps after 255 (R57, R59). -/
def filterUpdate (mRev : Nat) (s : State) : State :=
  s.updMest fun m =>
    { m with f := some (filterStep s.profile.filterExp m.f mRev), foldCounter := (m.foldCounter + 1) % 256 }

/-- B after a fold in a DRY stage (R61). -/
def dryCountAfter (d : DryTarget) (f : Nat) (exhaust : TempChannel) (b : Nat) : Nat :=
  if d.target < f then 0
  else if exhaust.valid ∧ d.minExhaust ≤ exhaust.value then min d.confirm (b + 1)
  else b

/-- The dry-reached signal (R63): to CPX, then the report and event flag; the dry-signalled flag sets. -/
def signalDry (d : DryTarget) (ordinal f : Nat) (s : State) : State :=
  raiseFlag .dryReached
    (report .mest .info 0x30 (u16 f ++ u8 d.confirm ++ u16 ordinal)
      (sendDry ordinal (s.updMest fun m => { m with drySignalled := true })))

/-- The dry decision after the filter update (R61, R63). -/
def judgeDry (s : State) : State :=
  match s.mest.stage with
  | none => s
  | some st =>
    match st.dry with
    | none => s
    | some d =>
      let f := s.mest.f.getD 0
      let b := dryCountAfter d f s.atu.exhaust s.mest.b
      let s' := s.updMest fun m => { m with b := b }
      if s.mest.b + 1 = d.confirm ∧ b = d.confirm ∧ ¬ s.mest.drySignalled then signalDry d st.ordinal f s' else s'

/-- The trend append and re-estimate at every eighth fold (R66). -/
def trendStep (s : State) : State :=
  if s.mest.foldCounter % 8 = 0 then
    reestimate (s.updMest fun m =>
      let kept := if m.trend.length < Config.trendCapacity then m.trend else m.trend.drop 1
      { m with trend := kept ++ [m.f.getD 0] })
  else s

/-- A value is folded (R52 step 4): filter, dry decision, trend. -/
def foldValue (mRev : Nat) (s : State) : State := trendStep (judgeDry (filterUpdate mRev s))

/-- The fold decision on a closed revolution (R46 to R50), with the outcome and m_rev returned to DRUM (R52). -/
def fold (number : Nat) (cls : RevClass) (k sum : Nat) (s : State) : State × FoldOutcome × Option Nat :=
  match cls with
  | .ramp | .malformed => (s, .skipped, none)
  | .steady =>
    if s.profile.minContacts ≤ k then
      let mRev := sum / k
      (foldValue mRev (s.updMest fun m => { m with sparse := 0, sparseWarned := false }), .folded, some mRev)
    else
      let count := bump 255 s.mest.sparse
      let s' := s.updMest fun m => { m with sparse := count }
      if count < s.profile.sparseLimit then (s', .sparse, none)
      else
        let s' :=
          if s.mest.sparseWarned then s'
          else report .mest .warning 0x31 (u16 number ++ u8 count ++ u8 k) (s'.updMest fun m => { m with sparseWarned := true })
        (foldValue 0 s', .sparseAsDry, some 0)

end Sys2Proof.Machine
end

