-- ==== Sys2Proof/Machine/Drum.lean ====
section
/-! DEFINITION. DRUM and EFE (chapters 1 to 3): motion, revolution timing, reversals, tangle detection and electrode sampling, and
the commands that reach them. -/

namespace Sys2Proof.Machine

/-! ### Motion (R2 to R9) -/

/-- Lock goes from set to clear: the LOCK_LOST report and event flag (R14). -/
def loseLock (s : State) : State :=
  if s.drum.lock then
    raiseFlag .lockLost (report .drum .info 0x22 (u16 s.drum.revNumber) (s.updDrum fun d => { d with lock := false }))
  else s

/-- The malformed run count returns to 0; a standing TACH condition ends (R16). -/
def endMalformedRun (s : State) : State :=
  let s' := s.updDrum fun d => { d with malformedRun := 0 }
  if 4 ≤ s.drum.malformedRun then handConditionEnd .tach s' else s'

/-- A standing DRUM_STALL condition ends (R17). -/
def endStall (s : State) : State :=
  if s.drum.stallRaised then handConditionEnd .drumStall (s.updDrum fun d => { d with stallRaised := false }) else s

/-- The drum enters STOPPED (R1, R5, R8, R16, R17, R34). -/
def enterStopped (s : State) : State :=
  endStall (endMalformedRun (s.updDrum fun d =>
    { d with state := .stopped, openRev := none, accelTimer := none, dwellTimer := none, stallTimer := none, burst := false }))

/-- The drum enters SURGE_WAIT and asks SAA for the surge under the next transaction number (R6, log entry 10). -/
def enterSurgeWait (s : State) : State :=
  let s := s.updDrum fun d => { d with state := .surgeWait, txn := d.txn + 1 }
  sendDrumToSaa (.request s.drum.txn) s

/-- The drum leaves STOPPED for SURGE_WAIT: the direction output takes the direction field (R2). -/
def startFromRest (s : State) : State :=
  enterSurgeWait (s.updDrum fun d => { d with dirOut := d.direction, runPending := false })

/-- The drum enters DECEL (R3, R8); a reversal sets both run counts to 0 (R28, R36). -/
def enterDecel (reverse : Bool) (s : State) : State :=
  let s := if s.drum.state = .run then loseLock s else s
  s.updDrum fun d =>
    { d with
      state := if reverse then .decelReverse else .decelStop
      accelTimer := none
      stallTimer := none
      stopConfirmed := false
      stopDetect := some (s.profile.stopDetectTime * 10)
      reversalRun := if reverse then 0 else d.reversalRun
      tangleRun := if reverse then 0 else d.tangleRun }

/-- The dwell ends: the direction field and output take the opposite of the output, and the drum enters SURGE_WAIT (R2, R9). -/
def endDwell (s : State) : State :=
  enterSurgeWait (s.updDrum fun d => { d with direction := d.dirOut.opposite, dirOut := d.dirOut.opposite, dwellTimer := none })

/-- The drum enters DWELL; a dwell of 0 ends at once (R9). -/
def enterDwell (s : State) : State :=
  let s' := s.updDrum fun d => { d with state := .dwell, openRev := none, dwellTimer := some (d.active.dwell * 100) }
  if s.drum.active.dwell = 0 then endDwell s' else s'

/-- A run request (R4). -/
def runRequest (s : State) : State :=
  match s.drum.state with
  | .stopped => if s.drum.stopConfirmed then startFromRest s else s.updDrum fun d => { d with runPending := true }
  | .decelStop => s.updDrum fun d => { d with runPending := true }
  | .surgeWait | .accel | .run | .decelReverse | .dwell => s

/-- A stop request (R5); it ends a burst waiting at rest (R34). -/
def drumStop (s : State) : State :=
  match s.drum.state with
  | .stopped => s.updDrum fun d => { d with runPending := false, burst := false }
  | .surgeWait => enterStopped (sendDrumToSaa (.withdrawal s.drum.txn) s)
  | .accel => enterDecel false (sendDrumToSaa (.release s.drum.txn) s)
  | .run => enterDecel false s
  | .decelStop => s.updDrum fun d => { d with runPending := false }
  | .decelReverse => s.updDrum fun d => { d with state := .decelStop, runPending := false }
  | .dwell => enterStopped s

/-- A burst request (R33): run if the drum is STOPPED in a GUARD stage with no burst in progress, otherwise skipped. -/
def burstRequest (s : State) : State :=
  if s.drum.state = .stopped ∧ ¬ s.drum.burst ∧ s.drum.guardStage then
    runRequest (s.updDrum fun d => { d with burst := true, direction := .fwd, reversalRun := 0 })
  else s

/-- DRUM takes a surge grant (R6, R7): in SURGE_WAIT under its latest number it enters ACCEL; otherwise the grant is handed back. -/
def takeSurge (txn : Byte) (s : State) : State :=
  if s.drum.state = .surgeWait ∧ txn = s.drum.txn then
    s.updDrum fun d =>
      { d with state := .accel, openRev := none, accelTimer := some (s.profile.accelTime * 100),
               stallTimer := some (s.profile.stallTime * 1000) }
  else sendDrumToSaa (.release txn) s

/-- The stop-detect timer expires (R3). -/
def stopDetected (s : State) : State :=
  if s.drum.stopDetect.isNone then s
  else
    let s := s.updDrum fun d => { d with stopDetect := none, stopConfirmed := true }
    match s.drum.state with
    | .decelStop =>
      let s := enterStopped s
      if s.drum.runPending then startFromRest s else s
    | .decelReverse => enterDwell s
    | .stopped => if s.drum.runPending then startFromRest s else s
    | .surgeWait | .accel | .run | .dwell => s

/-! ### Stage installation (R23, R24) -/

/-- The table entry at an index (R22). -/
def tableEntry (d : Drum) (i : Nat) : Pattern := (d.table[i]?).getD .afterReset

/-- The tangle baseline is emptied and not established, and the tangle run count is 0 (R35, R36). -/
def emptyBaseline (d : Drum) : Drum := { d with baseSum := 0, baseCount := 0, iBase := none, tangleRun := 0 }

/-- A stage's pattern, kind and burst revolutions are installed, with the given offset and stage tangle count (R23 steps 2 to 4). -/
def installPattern (kind : StageKind) (idx burstRevs : Nat) (offset : Int) (tangles : Nat) (d : Drum) : Drum :=
  let d := emptyBaseline d
  { d with
    offset := offset
    active := tableEntry d idx
    activeIdx := idx
    reversalRun := 0
    stageTangles := tangles
    guardStage := decide (kind = .guard)
    burstRevs := burstRevs
    burst := d.burst && decide (kind = .guard) }

/-- A stage start installs the stage (R23): a new pattern index sets the offset to 0. -/
def drumStageStart (kind : StageKind) (idx burstRevs : Nat) (s : State) : State :=
  s.updDrum fun d => installPattern kind idx burstRevs (if idx = d.activeIdx then d.offset else 0) 0 d

/-- A context load installs the head stage with the carried offset, stage tangle count and direction field (R24). -/
def drumLoad (kind : StageKind) (idx burstRevs : Nat) (offset : Int) (tangles : Nat) (dir : Direction) (s : State) : State :=
  s.updDrum fun d => { installPattern kind idx burstRevs offset tangles d with direction := dir }

/-- RESUME empties the baseline and the tangle run count (R35, R36, R157). -/
def drumResume (s : State) : State := s.updDrum emptyBaseline

/-! ### Revolution close (R11 to R18, R28 to R38) -/

/-- What a close measures before any state changes (R11 steps 1 to 3). -/
structure Measured where
  number : Nat
  period : Nat
  delta : Int
  iRev : Nat
  tach : Nat
  wellFormed : Bool
  lock : Bool
  cls : RevClass
  deriving DecidableEq, Repr

/-- Period, mean current, lock and class of the revolution being closed (R10, R12, R13). -/
def measure (p : Profile) (d : Drum) (o : OpenRev) (elapsed : Nat) : Measured :=
  let period := min 65535 elapsed
  let wellFormed := decide (o.tach = p.tachPulses)
  let delta := (period : Int) - targetPeriod d.active
  let lock :=
    if !wellFormed then false
    else if d.state = .run then lockAfter p.late p.early delta d.lock
    else d.lock
  { number := (d.revNumber + 1) % 65536
    period := period
    delta := delta
    iRev := if o.tach = 0 then 0 else min 65535 (o.currentSum / o.tach)
    tach := o.tach
    wellFormed := wellFormed
    lock := lock
    cls := revClass wellFormed d.state lock }

/-- Steps 2 and 3: the revolution number advances and lock takes its new value, with LOCK_LOST if it is lost (R13, R14). -/
def closeLock (q : Measured) (s : State) : State :=
  let s := s.updDrum fun d => { d with revNumber := q.number }
  if q.lock then s.updDrum fun d => { d with lock := true } else loseLock s

/-- Step 4, regulation: well-formed RUN revolutions only (R15). -/
def closeRegulate (q : Measured) (s : State) : State :=
  if q.wellFormed ∧ s.drum.state = .run then
    s.updDrum fun d => { d with offset := regulated s.profile q.delta d.offset }
  else s

/-- Step 4, malformed accounting (R16): a warning and the run count, TACH at 4; a well-formed close ends the run. -/
def closeMalformed (q : Measured) (s : State) : State :=
  if q.wellFormed then endMalformedRun s
  else
    let s' := report .drum .warning 0x20 (u16 q.number ++ u8 q.tach)
      (s.updDrum fun d => { d with malformedRun := bump 255 d.malformedRun })
    if s.drum.malformedRun + 1 = 4 then handCondition .tach s' else s'

/-- Step 6: the completed record joins the history ring, the oldest leaving a full one; P_m is the last period (R18, R20). -/
def closeHistory (r : RevRecord) (s : State) : State :=
  s.updDrum fun d =>
    let kept := if d.history.length < Config.historyCapacity then d.history else d.history.drop 1
    { d with history := kept ++ [r], lastPeriod := r.period }

/-- Step 7, the reversal run count: every RUN close counts (R28). -/
def closeCount (s : State) : State :=
  if s.drum.state = .run then s.updDrum fun d => { d with reversalRun := bump 255 d.reversalRun } else s

/-- The forced reversal's effects at step 7 (R37 steps 1 to 4). -/
def forceReversal (q : Measured) (iBase : Nat) (s : State) : State :=
  let old := s.drum.stageTangles
  let tangles := bump 255 old
  let s := mestTangle (s.updDrum fun d => { d with stageTangles := tangles })
  let s := raiseFlag .tangleReversal (report .drum .info 0x23
    (u16 q.number ++ u16 q.iRev ++ u16 (tangleThreshold s.profile iBase) ++ u8 tangles) s)
  if old = 8 then report .drum .warning 0x21 (u16 q.number ++ u8 tangles ++ u16 iBase) s else s

/-- Step 7, tangle detection (R35, R36): the baseline, then the test; the flag returned says a reversal is forced. -/
def closeTangle (q : Measured) (s : State) : State × Bool :=
  if s.drum.guardStage ∨ q.cls ≠ .steady then (s, false)
  else
    match s.drum.iBase with
    | none =>
      (s.updDrum fun d =>
        { d with
          baseSum := d.baseSum + q.iRev
          baseCount := d.baseCount + 1
          iBase := if d.baseCount + 1 = 16 then some ((d.baseSum + q.iRev) / 16) else none }, false)
    | some base =>
      if tangleThreshold s.profile base < q.iRev then
        let s' := s.updDrum fun d => { d with tangleRun := bump 32 d.tangleRun }
        if s.drum.tangleRun + 1 = s.profile.tangleRun then (forceReversal q base s', true) else (s', false)
      else (s.updDrum fun d => { d with tangleRun := 0 }, false)

/-- Whether a scheduled reversal is due (R29, R30). -/
def scheduledDue (d : Drum) : Bool :=
  match d.dirOut with
  | .fwd => decide (d.active.forward ≠ 0 ∧ d.active.forward ≤ d.reversalRun)
  | .rev => decide (d.active.reverse ≤ d.reversalRun)

/-- Step 8 for a revolution closed in RUN: a forced or scheduled reversal, or the end of a burst (R29, R34, R37). -/
def closeTurn (forced : Bool) (s : State) : State :=
  if s.drum.state ≠ .run then s
  else if forced then enterDecel true s
  else if s.drum.guardStage then
    if s.drum.burst ∧ s.drum.burstRevs ≤ s.drum.reversalRun then drumStop s else s
  else if scheduledDue s.drum then enterDecel true s
  else s

/-- The close of a revolution, steps 1 to 8 (R11). -/
def closeRevolution (elapsed : Nat) (o : OpenRev) (m k sum : Nat) (s : State) : State :=
  let q := measure s.profile s.drum o elapsed
  let closedIn := s.drum.state
  let dir := s.drum.dirOut
  let s := closeMalformed q (closeRegulate q (closeLock q s))
  let (s, outcome, mRev) := fold q.number q.cls k sum s
  let s := closeHistory
    { number := q.number, direction := dir, period := q.period, tach := q.tach, state := closedIn, lock := q.lock,
      cls := q.cls, iRev := q.iRev, m := m, k := k, mRev := mRev, outcome := outcome } s
  let (s, forced) := closeTangle q (closeCount s)
  closeTurn forced s

/-- ACCEL ends at the first marker after the accel timer expired with stall-raised clear: RUN, and the surge is released (R7, R17). -/
def endAccel (s : State) : State :=
  if s.drum.state = .accel ∧ s.drum.accelTimer.isNone ∧ ¬ s.drum.stallRaised then
    sendDrumToSaa (.release s.drum.txn) (s.updDrum fun d => { d with state := .run })
  else s

/-- DRUM's part of an index marker (R10, R11, R17) with EFE's marker sums. -/
def drumMarker (elapsed m k sum : Nat) (s : State) : State :=
  if s.drum.state.timesRevs then
    let s := if s.drum.state.driven then s.updDrum fun d => { d with stallTimer := some (s.profile.stallTime * 1000) } else s
    let s :=
      match s.drum.openRev with
      | some o => closeRevolution elapsed o m k sum s
      | none => s
    (endAccel s).updDrum fun d => { d with openRev := some ⟨0, 0⟩ }
  else s

/-! ### EFE (R40 to R44) -/

/-- One electrode sample into the sums (R42, R43). -/
def sample (p : Profile) (c : Nat) (e : Efe) : Efe :=
  if c ≤ p.contactThreshold then { e with m := e.m + 1, k := e.k + 1, s := e.s + wetness c } else { e with m := e.m + 1 }

/-- EFE's part of a tach pulse: the position advances with phase-known set, and a position inside the window is sampled (R40, R41). -/
def efePulse (p : Profile) (c : Nat) (e : Efe) : Efe :=
  if e.phaseKnown then
    let e := { e with position := bump 255 e.position }
    if p.windowStart < e.position ∧ e.position ≤ p.windowStart + p.windowLen then sample p c e else e
  else e

/-- EFE's part of an index marker: phase-known sets, the position and the sums return to 0 (R40, R43). -/
def efeMarker (_ : Efe) : Efe := ⟨true, 0, 0, 0, 0⟩

/-! ### The commands -/

/-- DRUM's part of a tach pulse: stop-confirmed clears and stop-detect restarts (R3); a running dwell timer restarts with its own
length (R9, R23); an open revolution counts the pulse and adds the current sample (R10). -/
def drumPulse (p : Profile) (current : Nat) (d : Drum) : Drum :=
  { d with
    stopConfirmed := false
    stopDetect := some (p.stopDetectTime * 10)
    openRev := d.openRev.map fun o => ⟨bump 255 o.tach, o.currentSum + current⟩ }

/-- TACH_PULSE (R40). -/
def execTachPulse (current : BitVec 16) (rawCount : BitVec 12) (s : State) : Result :=
  .next ((s.updDrum (drumPulse s.profile current.toNat)).updEfe (efePulse s.profile rawCount.toNat))

/-- INDEX_MARKER (R11): EFE offers its sums and clears them, and DRUM takes the marker. -/
def execIndexMarker (elapsedMs : Nat) (s : State) : Result :=
  .next (drumMarker elapsedMs s.efe.m s.efe.k s.efe.s (s.updEfe efeMarker))

/-- STOP_DETECT_EXPIRY (R3). -/
def execStopDetectExpiry (s : State) : Result := .next (stopDetected s)

/-- ACCEL_TIMER_EXPIRY (R7): in ACCEL a stopped accel timer is an expired one. -/
def execAccelTimerExpiry (s : State) : Result := .next (s.updDrum fun d => { d with accelTimer := none })

/-- DWELL_EXPIRY (R9). -/
def execDwellExpiry (s : State) : Result :=
  .next (if s.drum.dwellTimer.isSome ∧ s.drum.state = .dwell then endDwell s else s)

/-- The stall timer expires (R17): DRUM_STALL is handed to TRIP once until the drum has stopped. -/
def stallExpires (s : State) : State :=
  if s.drum.stallTimer.isNone then s
  else
    let s' := s.updDrum fun d => { d with stallTimer := none, stallRaised := true }
    if s.drum.stallRaised then s' else handCondition .drumStall s'

/-- STALL_TIMER_EXPIRY (R17). -/
def execStallTimerExpiry (s : State) : Result := .next (stallExpires s)

/-- SURGE_GRANT (R6). -/
def execSurgeGrant (txn : Byte) (s : State) : Result := .next (takeSurgeGrant txn (takeSurge txn) s)

end Sys2Proof.Machine
end

