-- ==== Sys2Proof/Machine/Saa.lean ====
section
/-! DEFINITION. SAA (chapter 7): the grant list, the wait queue, the surge and the allowance, and the commands that reach SAA. -/

namespace Sys2Proof.Machine

/-- Headroom now (R111). -/
def State.headroom (s : State) : Int := Machine.headroom s.profile s.saa

/-- Whether an element is in the grant list. -/
def granted (e : Element) (a : Saa) : Bool := a.grants.any fun g => g.element = e

/-- Whether an element is in the wait queue. -/
def queued (e : Element) (a : Saa) : Bool := a.queue.any fun w => w.element = e

/-- An element grant is issued: the entry joins the tail of the grant list with its free flag clear, and the grant is handed to HSTG
(R112, R115). -/
def grantElement (e : Element) (current : Nat) (s : State) : State :=
  sendToHstg (.grant e) (s.updSaa fun a => { a with grants := a.grants ++ [⟨e, current, false⟩] })

/-- The head of the queue is granted while it fits, at most `n` heads (R116). -/
def serveHeads : Nat → State → State
  | 0, s => s
  | n + 1, s =>
    match s.saa.queue with
    | [] => s
    | w :: rest =>
      if (w.current : Int) ≤ s.headroom then
        serveHeads n (grantElement w.element w.current (s.updSaa fun a => { a with queue := rest }))
      else s

/-- The wait queue is served, unless the surge is PENDING (R116). -/
def serveQueue (s : State) : State :=
  if s.saa.surge = .pending then s else serveHeads s.saa.queue.length s

/-- A grant list entry is shed: it leaves the list and the shed is handed to HSTG (R118). -/
def shedEntry (e : Element) (s : State) : State :=
  sendToHstg (.shed e) (s.updSaa fun a => { a with grants := a.grants.filter fun g => g.element ≠ e })

/-- Entries are shed one at a time, in the order given, until headroom reaches `need` (R118, R119, R122). -/
def shedUntil (need : Int) : List Element → State → State
  | [], s => s
  | e :: es, s => if need ≤ s.headroom then s else shedUntil need es (shedEntry e s)

/-- The surge is GRANTED, the grant timer cancelled, the grant handed to DRUM under the request's number (R117, R119). -/
def grantSurge (s : State) : State :=
  let s' := s.updSaa fun a => { a with surge := .granted, grantTimer := none }
  match s.saa.txn with
  | some t => sendToDrum t s'
  | none => s'

/-- Whether the reversal surge fits. -/
def surgeFits (s : State) : Bool := decide ((s.profile.surge : Int) ≤ s.headroom)

/-- A PENDING surge is re-checked: if it fits it is granted and the queue served (R119). -/
def recheckSurge (s : State) : State :=
  if s.saa.surge = .pending ∧ surgeFits s then serveQueue (grantSurge s) else s

/-- The free entries, newest first (R118). -/
def freeNewest (a : Saa) : List Element := ((a.grants.filter (·.free)).map (·.element)).reverse

/-- All entries, newest first (R119, R122). -/
def allNewest (a : Saa) : List Element := (a.grants.map (·.element)).reverse

/-- A surge request (R117): granted if it fits; otherwise PENDING, free entries are shed until it fits, and if it still does not the
grant timer starts (R118). A request in PENDING or GRANTED is ignored (log entry 17). -/
def surgeAsked (txn : Byte) (s : State) : State :=
  match s.saa.surge with
  | .pending | .granted => s
  | .idle =>
    let s := s.updSaa fun a => { a with txn := some txn }
    if surgeFits s then grantSurge s
    else
      let s := shedUntil s.profile.surge (freeNewest s.saa) (s.updSaa fun a => { a with surge := .pending })
      if surgeFits s then serveQueue (grantSurge s)
      else s.updSaa fun a => { a with grantTimer := some (s.profile.grantTimeout * 100) }

/-- The surge returns to IDLE and the queue is served (R120). -/
def endSurge (s : State) : State :=
  serveQueue (s.updSaa fun a => { a with surge := .idle, grantTimer := none })

/-- A surge release (R120). -/
def surgeReleased (txn : Byte) (s : State) : State :=
  if s.saa.txn = some txn ∧ s.saa.surge = .granted then endSurge s else s

/-- A surge withdrawal (R120). -/
def surgeWithdrawn (txn : Byte) (s : State) : State :=
  if s.saa.txn = some txn ∧ s.saa.surge ≠ .idle then endSurge s else s

/-- An element request (R114, R115). -/
def elementAsked (e : Element) (current : Nat) (s : State) : State :=
  if granted e s.saa || queued e s.saa then s
  else if s.saa.surge ≠ .pending ∧ (current : Int) ≤ s.headroom then grantElement e current s
  else s.updSaa fun a => { a with queue := a.queue ++ [⟨e, current⟩] }

/-- An element withdrawal (R114): the element leaves the queue; if it was the head, the queue is served. -/
def elementWithdrawn (e : Element) (s : State) : State :=
  if granted e s.saa then s
  else if queued e s.saa then
    let s' := s.updSaa fun a => { a with queue := a.queue.filter fun w => w.element ≠ e }
    if (s.saa.queue.head?.map (·.element)) = some e then serveQueue s' else s'
  else s

/-- An element release (R114): the entry leaves the grant list; then a PENDING surge is re-checked, or the queue served. -/
def elementReleased (e : Element) (s : State) : State :=
  if granted e s.saa then
    let s := s.updSaa fun a => { a with grants := a.grants.filter fun g => g.element ≠ e }
    if s.saa.surge = .pending then recheckSurge s else serveQueue s
  else s

/-- An ON_FREE notice (R114, R118): the free flag sets; while the surge is PENDING the entry is shed and the fit re-checked. -/
def elementFreed (e : Element) (s : State) : State :=
  if granted e s.saa then
    let s := s.updSaa fun a =>
      { a with grants := a.grants.map fun g => if g.element = e then { g with free := true } else g }
    if s.saa.surge = .pending then recheckSurge (shedEntry e s) else s
  else s

/-- The grant timer's expiry with the surge PENDING (R119): entries are force-shed newest first until the surge fits; it is granted,
GRANT_FORCED is reported with its event flag, and the queue is served. -/
def grantTimerExpires (s : State) : State :=
  if s.saa.grantTimer.isSome ∧ s.saa.surge = .pending then
    let before := s.saa.grants.length
    let s := shedUntil s.profile.surge (allNewest s.saa) (s.updSaa fun a => { a with grantTimer := none })
    let s := if surgeFits s then grantSurge s else s
    serveQueue (raiseFlag .grantForced
      (report .saa .warning 0x48 (u8 (before - s.saa.grants.length) ++ u16 s.headroom.toNat) s))
  else s

/-- A decreased allowance, already in the active profile (R122): entries are force-shed newest first until headroom is at least 0,
with an ALLOWANCE_SHED warning if any was; a PENDING surge is re-checked; the queue is served if the surge is not PENDING. -/
def allowanceLowered (s : State) : State :=
  let before := s.saa.grants.length
  let s := shedUntil 0 (allNewest s.saa) s
  let s :=
    if s.saa.grants.length < before then
      report .saa .warning 0x49
        (u16 s.profile.allowance ++ u8 (before - s.saa.grants.length) ++ u16 (grantedTotal s.profile s.saa)) s
    else s
  if s.saa.surge = .pending then recheckSurge s else serveQueue s

/-- An increased allowance (R123): a PENDING surge is re-checked; otherwise the queue is served. -/
def allowanceRaised (s : State) : State :=
  if s.saa.surge = .pending then recheckSurge s else serveQueue s

/-- ALLOWANCE_SET (R121): its two checks against the active profile, then the decrease, increase or service. -/
def ownAllowanceSet (payload : List Byte) (s : State) : State × ReplyCode :=
  let v := wordAt payload 0
  let p := s.profile
  let largest := (allElements.map (Profile.current p)).foldl max 0
  if v < p.baseLoad + p.surge ∨ v < p.baseLoad + largest then (s, .badField 1 0)
  else
    let s' := s.updProf fun f => { f with active := { f.active with allowance := v } }
    (if v < p.allowance then allowanceLowered s'
      else if p.allowance < v then allowanceRaised s'
      else serveQueue s', .ok [])

/-! ### The account at a new profile -/

/-- The number of the latest surge request SAA has taken once it has taken these messages (R120). -/
def latestRequest : List DrumMsg → Option Byte → Option Byte
  | [], t => t
  | .request t :: ms, _ => latestRequest ms (some t)
  | .withdrawal _ :: ms, t | .release _ :: ms, t => latestRequest ms t

/-- What the account comes to when SAA, HSTG and DRUM have taken the messages still in flight between them in IDLE, READY or DONE
(R124): every element is off and the drum is not accelerating, so each grant is released or handed back, each request withdrawn, the
surge withdrawn or released, and each shed ignored (R100, R106, R107, R114, R120). The grant list and the wait queue are empty, the
surge is IDLE, and nothing changes at HSTG or DRUM (log entry 18). -/
def settleAccount (s : State) : State :=
  (s.updSaa fun a =>
      { a with grants := [], queue := [], surge := .idle, grantTimer := none, txn := latestRequest s.paths.drumToSaa a.txn }).updPaths
    fun p => { p with hstgToSaa := [], saaToHstg := [], drumToSaa := [], saaToDrum := [] }

/-! ### The commands -/

/-- ELEMENT_REQUEST (R115). -/
def execElementRequest (e : Element) (current : Nat) (s : State) : Result :=
  .next (takeHstgMsg (.request e current) (elementAsked e current) s)

/-- ELEMENT_WITHDRAWAL (R114). -/
def execElementWithdrawal (e : Element) (s : State) : Result :=
  .next (takeHstgMsg (.withdrawal e) (elementWithdrawn e) s)

/-- ELEMENT_RELEASE (R114). -/
def execElementRelease (e : Element) (s : State) : Result :=
  .next (takeHstgMsg (.release e) (elementReleased e) s)

/-- ON_FREE_NOTICE (R114). -/
def execOnFreeNotice (e : Element) (s : State) : Result :=
  .next (takeHstgMsg (.onFree e) (elementFreed e) s)

/-- SURGE_REQUEST (R117). -/
def execSurgeRequest (txn : Byte) (s : State) : Result :=
  .next (takeDrumMsg (.request txn) (surgeAsked txn) s)

/-- SURGE_RELEASE (R120). -/
def execSurgeRelease (txn : Byte) (s : State) : Result :=
  .next (takeDrumMsg (.release txn) (surgeReleased txn) s)

/-- SURGE_WITHDRAWAL (R120). -/
def execSurgeWithdrawal (txn : Byte) (s : State) : Result :=
  .next (takeDrumMsg (.withdrawal txn) (surgeWithdrawn txn) s)

/-- GRANT_TIMER_EXPIRY (R119). -/
def execGrantTimerExpiry (s : State) : Result := .next (grantTimerExpires s)

end Sys2Proof.Machine
end

