-- ==== Sys2Proof/Machine/Cpx.lean ====
section
/-! DEFINITION. CPX (chapters 8 and 9): the cycle state, the plan buffer, stage start, exits and retirement, pause, resume and the
cycle context, with the owner's part of each cycle request. -/

namespace Sys2Proof.Machine

/-! ### State changes (R127) -/

/-- The third data byte of STATE_CHANGE: the end reason on entry to DONE, the pause cause on entry to PAUSED, 0 otherwise (R193). -/
def changeDetail (new : CycleState) (c : Cpx) : Nat :=
  match new with
  | .done => c.endReason.code
  | .paused => (c.pauseCause.map PauseCause.code).getD 0
  | .idle | .ready | .running | .starved | .faulted => 0

/-- The STATE_CHANGE report from an old state to the present one (R127). -/
def reportChange (old : CycleState) (s : State) : State :=
  report .cpx .info 0x50 (u8 old.code ++ u8 s.cpx.cycle.code ++ u8 (changeDetail s.cpx.cycle s.cpx)) s

/-- The cycle enters a state, with its report (R127). -/
def enterCycle (new : CycleState) (s : State) : State :=
  reportChange s.cpx.cycle (s.updCpx fun c => { c with cycle := new })

/-! ### The plan buffer (R130) -/

/-- The plan digest: CRC-16 over the held records, head first (R130). -/
def planDigest (plan : List StageRec) : Crc := crc16 (plan.flatMap stageBytes)

/-- The buffer takes a content, and the digest is recomputed (R130). -/
def setPlan (plan : List StageRec) (s : State) : State :=
  s.updCpx fun c => { c with plan := plan, digest := planDigest plan }

/-- The current stage: the head while stage-active is set (R127). -/
def currentStage (c : Cpx) : Option StageRec := if c.stageActive then c.plan.head? else none

/-- The level exhaust targets are clamped to: the fire threshold less 10.0 °C (R132, R134). -/
def clampTarget (p : Profile) (r : StageRec) : Int := min r.exhaustTarget ((p.fireThreshold : Int) - 100)

/-- Whether a stage heats: DRY or TIMED. -/
def StageKind.heats : StageKind → Bool
  | .dry | .timed => true
  | .cool | .guard => false

/-- The settings HSTG takes of a stage (R94). -/
def heatSettings (r : StageRec) (ordinal : Nat) (target : Int) : HeatSettings :=
  ⟨r.kind, ordinal, if r.kind.heats then some ⟨target, r.inletLimit⟩ else none⟩

/-- The settings MEST takes of a stage (R60). -/
def mestStage (r : StageRec) (ordinal : Nat) : MestStage :=
  ⟨r.kind, ordinal, if r.kind = .dry then some ⟨r.dryTarget, r.confirm, r.dryMinExhaust⟩ else none⟩

/-! ### Pause, DONE and STARVED -/

/-- The cycle enters PAUSED for HOST, DOOR or SILENT (R151). -/
def enterPaused (cause : PauseCause) (s : State) : State :=
  let old := s.cpx.cycle
  let s := s.updCpx fun c => { c with starve := none, cycle := .paused, pauseCause := some cause }
  let s := drumStop (hstgStop true s)
  let s := if cause = .door then s else blowerRequest .runOn s
  reportChange old s

/-- The cycle enters DONE (R145). -/
def enterDone (reason : EndReason) (s : State) : State :=
  let s := enterCycle .done (s.updCpx fun c => { c with endReason := reason, pauseCause := none })
  let s := s.updCpx fun c => { c with stageActive := false, starve := none }
  mestWithdraw (blowerRequest .runOn (drumStop (hstgStop true s)))

/-- The cycle enters STARVED (R144), with the door test of R135. -/
def enterStarved (s : State) : State :=
  let s := enterCycle .starved s
  let s := raiseFlag .starved (report .cpx .warning 0x53
    (u16 s.cpx.ordinal ++ u8 s.cpx.lastExit.code ++ u8 s.profile.starveLimit) s)
  let s := mestWithdraw (hstgStarved s)
  let s := s.updCpx fun c => { c with starve := some ⟨s.profile.starveLimit, 0⟩ }
  if s.atu.door.isClosed then s else enterPaused .door s

/-! ### Stage start and retirement (R134, R135, R143) -/

/-- Steps 1 to 6 of a stage start (R134) for the head record. -/
def stageStarted (r : StageRec) (s : State) : State :=
  let s := s.updCpx fun c =>
    { c with stageActive := true, ordinal := bump 65535 c.ordinal, stageElapsed := 0, dryLatched := false }
  let ord := s.cpx.ordinal
  let s := hstgStageStart (heatSettings r ord (clampTarget s.profile r)) s
  let s := drumStageStart r.kind r.pattern r.burstRevs s
  let s := if r.kind = .guard then drumStop s else runRequest s
  let s := mestStageStart (mestStage r ord) s
  let s := blowerRequest (if r.kind = .guard then .off else .on) s
  raiseFlag .stageChanged (report .cpx .info 0x51
    (u16 ord ++ u8 r.kind.code ++ u8 r.pattern ++ u8 s.cpx.plan.length ++ u8 s.cpx.lastExit.code) s)

/-- Steps 2 and 3 of a retirement (R143): stage-active clears, the exit reason is kept, the head leaves the buffer. -/
def dropHead (reason : ExitReason) (rest : List StageRec) (s : State) : State :=
  setPlan rest (s.updCpx fun c => { c with stageActive := false, lastExit := reason })

/-- The head of the plan starts (R134) with the door test of R135; a GUARD stage behind an open door exits DOOR at once, so a run of
them starts and exits in turn. The argument is the plan buffer. -/
def startStages : List StageRec → State → State
  | [], s => s
  | r :: rest, s =>
    let s := stageStarted r s
    if s.atu.door.isClosed then s
    else if r.kind = .guard then
      let s := dropHead .door rest (drumStop s)
      if r.final then enterDone .complete s
      else
        match rest with
        | [] => enterStarved s
        | _ :: _ => startStages rest s
    else enterPaused .door s

/-- The head stage starts. -/
def startHead (s : State) : State := startStages s.cpx.plan s

/-- The current stage is retired (R143). -/
def retire (reason : ExitReason) (s : State) : State :=
  match s.cpx.plan with
  | [] => s
  | r :: rest =>
    let s :=
      if r.kind = .dry ∧ reason = .time then
        report .cpx .info 0x52 (u16 s.cpx.ordinal ++ optField 2 u16 s.mest.f ++ u8 s.mest.b) s
      else s
    let s := dropHead reason rest s
    if r.final then enterDone .complete s
    else
      match rest with
      | [] => enterStarved s
      | _ :: _ => startHead s

/-! ### What ATU, MEST and TRIP hand CPX -/

/-- A COOL stage's judgement at an exhaust conversion (R140). -/
def judgeCooled (value : Int) (valid : Bool) (s : State) : State :=
  match s.cpx.cycle, currentStage s.cpx with
  | .running, some r =>
    if r.kind = .cool ∧ valid ∧ value ≤ r.coolTo ∧ r.minDuration ≤ s.cpx.stageElapsed then retire .cooled s else s
  | _, _ => s

/-- A door opening (R153). -/
def cpxDoorOpened (s : State) : State :=
  match s.cpx.cycle with
  | .running =>
    match currentStage s.cpx with
    | some r => if r.kind = .guard then retire .door (drumStop s) else enterPaused .door s
    | none => enterPaused .door s
  | .starved => enterPaused .door s
  | .idle | .ready | .paused | .faulted | .done => s

/-- A dry-reached signal (R138). One whose ordinal equals that of a current stage whose kind is not DRY, which the ordinal's ceiling
makes possible, has no row in R138's table: DESIGN CHOICE, it is discarded (log entry 38). -/
def dryReached (ordinal : Nat) (s : State) : State :=
  match currentStage s.cpx with
  | none => s
  | some r =>
    if r.kind = .dry ∧ ordinal = s.cpx.ordinal then
      match s.cpx.cycle with
      | .running =>
        if r.minDuration ≤ s.cpx.stageElapsed then retire .dry s
        else s.updCpx fun c => { c with dryLatched := true }
      | .paused | .faulted => s.updCpx fun c => { c with dryLatched := true }
      | .idle | .ready | .starved | .done => s
    else s

/-- A fault (R147). -/
def cpxFault (s : State) : State :=
  match s.cpx.cycle with
  | .running | .starved | .paused =>
    enterCycle .faulted (s.updCpx fun c => { c with starve := none, pauseCause := none })
  | .faulted | .idle | .ready | .done => s

/-- A silence pause (R154). -/
def cpxSilence (s : State) : State :=
  match s.cpx.cycle with
  | .running | .starved => enterPaused .silent s
  | .idle | .ready | .paused | .faulted | .done => s

/-! ### The 1 s count (R128, R137, R141) -/

/-- The duration judgement of the current stage at a count (R137), with the guard burst (R141). -/
def judgeCount (s : State) : State :=
  match currentStage s.cpx with
  | none => s
  | some r =>
    let t := s.cpx.stageElapsed
    let dried := decide (r.kind = .dry) && s.cpx.dryLatched
    if r.maxDuration ≤ t then retire (if dried then .dry else .time) s
    else if dried ∧ r.minDuration ≤ t then retire .dry s
    else if r.kind = .guard ∧ 0 < t ∧ t % r.guardInterval = 0 then burstRequest s
    else s

/-- The 1 s count by the cycle state (R128). -/
def countSecond (s : State) : State :=
  match s.cpx.cycle with
  | .running =>
    judgeCount (s.updCpx fun c =>
      { c with cycleElapsed := bump 4294967295 c.cycleElapsed, stageElapsed := bump 65535 c.stageElapsed })
  | .starved =>
    s.updCpx fun c =>
      { c with cycleElapsed := bump 4294967295 c.cycleElapsed,
               starve := c.starve.map fun t => { t with count := bump t.limit t.count } }
  | .idle | .ready | .paused | .faulted | .done => s

/-- The starve timer's expiry, due once its count has reached its limit (R144). -/
def starveExpires (s : State) : State :=
  match s.cpx.cycle, s.cpx.starve with
  | .starved, some t => if t.limit ≤ t.count then enterDone .starved s else s
  | _, _ => s

/-! ### The requests CPX owns -/

/-- PLAN_APPEND (R131, R132). -/
def ownPlanAppend (payload : List Byte) (s : State) : State × ReplyCode :=
  let c := s.cpx
  let n := payload.length / 20
  if c.cycle = .faulted ∨ c.cycle = .done then (s, .badState)
  else if Config.planCapacity < c.plan.length + n then (s, .full)
  else if c.plan.any (·.final) then (s, .finalSeen)
  else
    match checkStages 1 (chunks 20 n payload) with
    | .error e => (s, .badField e.1 e.2)
    | .ok rs =>
      let stored := rs.map fun r => if r.kind.heats then { r with exhaustTarget := clampTarget s.profile r } else r
      let s' := setPlan (c.plan ++ stored) s
      let s' :=
        match c.cycle with
        | .idle => enterCycle .ready s'
        | .starved => startHead (enterCycle .running (s'.updCpx fun c => { c with starve := none }))
        | .ready | .running | .paused | .faulted | .done => s'
      (s', if stored = rs then .ok [] else .clamped [])

/-- PLAN_CLEAR (R133). -/
def ownPlanClear (s : State) : State × ReplyCode :=
  match s.cpx.cycle with
  | .idle => ((setPlan [] s).updCpx fun c => { c with stageActive := false }, .ok [])
  | .ready => (enterCycle .idle ((setPlan [] s).updCpx fun c => { c with stageActive := false }), .ok [])
  | .running | .starved | .paused | .faulted | .done => (s, .badState)

/-- PLAN_GET (R133). -/
def ownPlanGet (payload : List Byte) (s : State) : State × ReplyCode :=
  let start := byteAt payload 0
  let count := byteAt payload 1
  if 15 < start then (s, .badField 1 0)
  else if count = 0 ∨ 8 < count then (s, .badField 2 0)
  else
    let rs := (s.cpx.plan.drop start).take count
    (s, .ok (u8 s.cpx.plan.length ++ crcBytes s.cpx.digest ++ u8 start ++ u8 rs.length ++ rs.flatMap stageBytes))

/-- START (R136). -/
def ownStart (s : State) : State × ReplyCode :=
  if s.cpx.cycle ≠ .ready then (s, .badState)
  else if !s.atu.door.isClosed then (s, .doorOpen)
  else if tripBars s.trip then (s, .tripped)
  else
    let s := s.updCpx fun c =>
      { c with cycleElapsed := 0, ordinal := 0, endReason := .none, pauseCause := none, lastExit := .none }
    let s := mestStart (s.updDrum fun d => { d with history := [] })
    (startHead (enterCycle .running (blowerRequest .on s)), .ok [])

/-- PAUSE (R152). -/
def ownPause (s : State) : State × ReplyCode :=
  match s.cpx.cycle with
  | .running | .starved => (enterPaused .host s, .ok [])
  | .idle | .ready | .paused | .faulted | .done => (s, .badState)

/-- The first case of RESUME (R157): a stage is current and continues. -/
def resumeStage (r : StageRec) (s : State) : State :=
  let s := drumResume (mestResume (s.updCpx fun c => { c with cycle := .running }))
  let s := if r.kind = .guard then s else runRequest s
  let s := hstgResume r.kind.heats s
  reportChange .paused (blowerRequest (if r.kind = .guard then .off else .on) s)

/-- The second case of RESUME (R157): the cycle returns to STARVED. -/
def resumeStarved (s : State) : State :=
  let s := drumResume (mestResume (s.updCpx fun c => { c with cycle := .starved }))
  let s := if s.drum.guardStage then s else runRequest s
  let s := blowerRequest .on (hstgResume false s)
  reportChange .paused (s.updCpx fun c => { c with starve := some ⟨s.profile.starveLimit, 0⟩ })

/-- The third case of RESUME (R157): the head appended during a pause from STARVED starts. -/
def resumeHead (s : State) : State := startHead (blowerRequest .on (enterCycle .running s))

/-- RESUME (R156, R157). -/
def ownResume (s : State) : State × ReplyCode :=
  if s.cpx.cycle ≠ .paused then (s, .badState)
  else if !s.atu.door.isClosed then (s, .doorOpen)
  else if s.drum.state ≠ .stopped then (s, .busy)
  else if pauseTripActive s.trip then (s, .tripped)
  else
    let s := s.updTrip fun t =>
      if t.hostSilent.state = .held then { t with hostSilent := { t.hostSilent with state := .clear } } else t
    let s := s.updCpx fun c => { c with pauseCause := none }
    (match currentStage s.cpx with
      | some r => resumeStage r s
      | none => if s.cpx.plan.isEmpty then resumeStarved s else resumeHead s, .ok [])

/-- ABORT (R146). -/
def ownAbort (s : State) : State × ReplyCode :=
  match s.cpx.cycle with
  | .running | .starved | .paused => (enterDone .aborted s, .ok [])
  | .idle | .ready | .faulted | .done => (s, .badState)

/-- ADVANCE (R142). -/
def ownAdvance (s : State) : State × ReplyCode :=
  match s.cpx.cycle with
  | .running => (retire .advance s, .ok [])
  | .idle | .ready | .starved | .paused | .faulted | .done => (s, .badState)

/-- What an accepted CYCLE_CLOSE does (R148). -/
def closeCycle (s : State) : State :=
  let s := setPlan [] (s.updCpx fun c =>
    { c with ordinal := 0, stageElapsed := 0, cycleElapsed := 0, endReason := .none, stageActive := false, dryLatched := false })
  enterCycle .idle (hstgClose (mestWithdraw s))

/-- CYCLE_CLOSE (R148). -/
def ownCycleClose (s : State) : State × ReplyCode :=
  match s.cpx.cycle with
  | .done => (closeCycle s, .ok [])
  | .faulted => if tripBars s.trip then (s, .tripped) else (closeCycle s, .ok [])
  | .idle | .ready | .running | .starved | .paused => (s, .badState)

/-! ### The cycle context (R159 to R162) -/

/-- The context record as the blocks hold it (R159): with no current stage, the head as a stage about to begin. -/
def contextNow (s : State) : ContextRec where
  version := 1
  held := s.cpx.plan.length
  digest := s.cpx.digest.toNat
  ordinal := if s.cpx.stageActive then s.cpx.ordinal else bump 65535 s.cpx.ordinal
  stageElapsed := if s.cpx.stageActive then s.cpx.stageElapsed else 0
  cycleElapsed := s.cpx.cycleElapsed
  fPresent := if s.mest.f.isSome then 1 else 0
  fValue := s.mest.f.getD 0
  sparse := s.mest.sparse
  offset := s.drum.offset
  direction := s.drum.direction.code
  pointer := pointerCode s.hstg.pointer
  stageTangles := if s.cpx.stageActive then s.drum.stageTangles else 0
  dryLatched := if s.cpx.stageActive ∧ s.cpx.dryLatched then 1 else 0

/-- CONTEXT_GET (R160). -/
def ownContextGet (s : State) : State × ReplyCode :=
  match s.cpx.cycle with
  | .paused | .faulted => (s, .ok (contextBytes (contextNow s)))
  | .idle | .ready | .running | .starved | .done => (s, .badState)

/-- What a context record gives when its RANGE check passes (R161 step 7). -/
structure LoadedContext where
  offset : Int
  direction : Direction
  pointer : Element
  f : Option Nat
  dryLatched : Bool
  deriving DecidableEq, Repr

/-- The RANGE check against the active profile and the head record (R161 step 7). -/
def rangeContext (p : Profile) (head : StageRec) (c : ContextRec) : Option LoadedContext :=
  match directionOf c.direction, pointerOf c.pointer with
  | some d, some e =>
    if -(p.maxAdjust : Int) ≤ c.offset ∧ c.offset ≤ p.maxAdjust ∧ c.fPresent ≤ 1 ∧ c.dryLatched ≤ 1 ∧
        (c.dryLatched = 1 → head.kind = .dry) then
      some ⟨c.offset, d, e, if c.fPresent = 1 then some c.fValue else none, decide (c.dryLatched = 1)⟩
    else none
  | _, _ => none

/-- A context record that passes is carried out (R162). -/
def loadContext (c : ContextRec) (l : LoadedContext) (head : StageRec) (s : State) : State :=
  let s := s.updCpx fun x =>
    { x with stageActive := true, ordinal := c.ordinal, stageElapsed := c.stageElapsed, cycleElapsed := c.cycleElapsed,
             dryLatched := l.dryLatched, endReason := .none }
  let s := mestLoad (mestStage head c.ordinal) l.f c.sparse l.dryLatched s
  let s := drumLoad head.kind head.pattern head.burstRevs l.offset c.stageTangles l.direction s
  let s := hstgLoad (heatSettings head c.ordinal head.exhaustTarget) l.pointer s
  enterCycle .paused (s.updCpx fun x => { x with pauseCause := some .restored })

/-- CONTEXT_LOAD (R161, R162). -/
def ownContextLoad (payload : List Byte) (s : State) : State × ReplyCode :=
  let c := contextOf payload
  if s.cpx.cycle ≠ .ready then (s, .badState)
  else if tripBars s.trip then (s, .tripped)
  else if !contextChecks payload then (s, .badContext 0x01)
  else if c.version ≠ 1 then (s, .badContext 0x02)
  else
    match s.cpx.plan with
    | [] => (s, .badContext 0x03)
    | head :: _ =>
      if c.held ≠ s.cpx.plan.length ∨ c.digest ≠ s.cpx.digest.toNat then (s, .badContext 0x03)
      else if head.maxDuration < c.stageElapsed then (s, .badContext 0x04)
      else
        match rangeContext s.profile head c with
        | none => (s, .badContext 0x05)
        | some l => (loadContext c l head s, .ok [])

/-! ### The commands that reach CPX without a request -/

/-- ONE_SECOND_COUNT (R128). -/
def execOneSecondCount (s : State) : Result := .next (countSecond s)

/-- STARVE_TIMER_EXPIRY (R144). -/
def execStarveTimerExpiry (s : State) : Result := .next (starveExpires s)

/-- DRY_REACHED_SIGNAL (R138). -/
def execDryReachedSignal (ordinal : Nat) (s : State) : Result := .next (takeDry ordinal (dryReached ordinal) s)

end Sys2Proof.Machine
end

