-- ==== Sys2Proof/Machine/Air.lean ====
section
/-! DEFINITION. The air path's commands that reach CPX as well: the conversions (R74) and the debounced inputs (R86 to R88). -/

namespace Sys2Proof.Machine

/-- An exhaust conversion (R74): the channel, then ATU's own judgements SENSOR, EXHAUST_FIRE and run-on end, then HSTG and CPX
(log entry 12). -/
def exhaustConverted (raw : Int) (s : State) : State :=
  let run := s.atu.exhaust.invalidRun
  let valid := tempInSpan raw
  let s := s.updAtu fun a => { a with exhaust := channelAfter raw a.exhaust }
  let value := s.atu.exhaust.value
  let s := judgeSensor run valid s
  let s := if valid then judgeRunOn (judgeFire s) else s
  judgeCooled value valid (hstgExhaust value s)

/-- An inlet conversion (R74): the channel, SENSOR, then HSTG's inlet cap. -/
def inletConverted (raw : Int) (s : State) : State :=
  let run := s.atu.inlet.invalidRun
  let valid := tempInSpan raw
  let s := s.updAtu fun a => { a with inlet := channelAfter raw a.inlet }
  let value := s.atu.inlet.value
  hstgInlet value valid (judgeSensor run valid s)

/-- CONVERSION_COMPLETE (R74). -/
def execConversionComplete (ch : Channel) (raw : Int) (s : State) : Result :=
  .next (match ch with
    | .exhaust => exhaustConverted raw s
    | .inlet => inletConverted raw s
    | .pressure => pressureConverted raw s
    | .lineCurrent => lineConverted raw s)

/-- The debounced door opens (R87): the blower goes OFF, then CPX and HSTG take the opening. -/
def doorOpened (s : State) : State :=
  let s := if s.atu.blower = .off then s else enterOff s
  hstgStop false (cpxDoorOpened s)

/-- The door's debounce timer expires (R86, R87): a first settling gives no event; a closing reaches HSTG (R101). -/
def doorDebounced (s : State) : State :=
  let d := s.atu.door
  if d.timer.isNone then s
  else
    let s := s.updAtu fun a => { a with door := { a.door with timer := none, settled := some a.door.raw } }
    match d.settled, d.raw with
    | some .closed, .opened => doorOpened s
    | some .opened, .closed => rerequest s
    | some .closed, .closed | some .opened, .opened | none, .closed | none, .opened => s

/-- The high-limit input's debounce timer expires (R86, R88): an opening goes to TRIP and HSTG, a first settling OPEN to TRIP, a
closing to TRIP and HSTG. -/
def highLimitDebounced (s : State) : State :=
  let d := s.atu.highLimit
  if d.timer.isNone then s
  else
    let s := s.updAtu fun a => { a with highLimit := { a.highLimit with timer := none, settled := some a.highLimit.raw } }
    match d.settled, d.raw with
    | some .closed, .opened => hstgStop false (handCondition .highLimit s)
    | none, .opened => handCondition .highLimit s
    | some .opened, .closed => rerequest (handConditionEnd .highLimit s)
    | some .closed, .closed | some .opened, .opened | none, .closed => s

/-- DEBOUNCE_EXPIRY (R86). -/
def execDebounceExpiry (pin : InputPin) (s : State) : Result :=
  .next (match pin with
    | .door => doorDebounced s
    | .highLimit => highLimitDebounced s)

end Sys2Proof.Machine
end

