-- ==== Sys2Proof/Machine/Trip.lean ====
section
/-! DEFINITION. TRIP (chapter 10): occurrences, ends, class effects, and clearing. -/

namespace Sys2Proof.Machine

/-! ### Occurrence and end (R166 to R170) -/

/-- The entry of a new occurrence (R166 steps 1 and 2). -/
def occurred (cycleElapsed ordinal : Nat) (e : TripEntry) : TripEntry :=
  { e with
    state := .active
    count := bump 255 e.count
    firstTime := some (e.firstTime.getD cycleElapsed)
    firstOrdinal := if e.firstTime.isSome then e.firstOrdinal else ordinal }

/-- The effects of a HALT or SEVERE cause by the cycle state read (R168). -/
def stopEffects (severe : Bool) (s : State) : State :=
  match s.cpx.cycle with
  | .running | .starved | .paused =>
    blowerRequest (if severe then .off else .runOn) (drumStop (hstgStop true (cpxFault s)))
  | .faulted | .idle | .ready | .done => if severe then blowerRequest .off (cpxFault s) else cpxFault s

/-- The class effects of a cause (R168, R170). -/
def classEffects (c : TripCause) (s : State) : State :=
  match tripClass c with
  | .halt => stopEffects false s
  | .severe => stopEffects true s
  | .pause => cpxSilence s

/-- TRIP takes a condition (R166). -/
def takeCondition (c : TripCause) (s : State) : State :=
  if (s.trip.get c).state = .active then s
  else
    let s := s.updTrip fun t => t.set c (occurred s.cpx.cycleElapsed s.cpx.ordinal (t.get c))
    let s := raiseFlag .tripRaised (report .trip .error 0x60
      (u8 (causeCode c) ++ u8 (tripClass c).code ++ u8 (s.trip.get c).count ++ u8 s.cpx.cycle.code) s)
    classEffects c s

/-- TRIP takes the end of a condition (R167). -/
def takeConditionEnd (c : TripCause) (s : State) : State :=
  if (s.trip.get c).state = .active then
    let s := s.updTrip fun t => t.set c { t.get c with state := .held }
    report .trip .info 0x61 (u8 (causeCode c) ++ u8 (s.trip.get c).count) s
  else s

/-- TRIP takes one message. -/
def tripTakes (m : TripMsg) : State → State :=
  if m.ends then takeConditionEnd m.cause else takeCondition m.cause

/-- TRIP takes the HOST_SILENT messages of a list, oldest first, up to and including its `n`-th end; newer ones stay in flight. -/
def settleSilence : Nat → List TripMsg → State → State
  | 0, _, s => s
  | _ + 1, [], s => s
  | n + 1, m :: ms, s =>
    if m.cause = .hostSilent then settleSilence (if m.ends then n else n + 1) ms (takeTripMsg m (tripTakes m) s)
    else settleSilence (n + 1) ms s

/-- How many HOST_SILENT ends in flight were handed to TRIP at or before a frame's own check. -/
def endsDue (f : InFrame) (s : State) : Nat := (s.paths.trip.filter (· = ⟨.hostSilent, true⟩)).length - f.laterEnds

/-- Before an owner takes a frame, TRIP takes every HOST_SILENT message up to the last end handed at or before that frame's check: the
frame that ends a silence, and every frame after it, finds the entry HELD unless the silence timer has expired again (R156, R174,
R175). A condition or an end handed since then stays in flight, and TRIP takes it before or after the frame (R178, log entry 5). -/
def settleFor (f : InFrame) (s : State) : State := settleSilence (endsDue f s) s.paths.trip s

/-! ### Reading and clearing (R176, R177) -/

/-- TRIP_GET (R176). -/
def ownTripGet (s : State) : State × ReplyCode :=
  (s, .ok (allCauses.flatMap fun c =>
    let e := s.trip.get c
    u8 (causeCode c) ++ u8 e.state.code ++ u8 e.count ++ optField 4 u32 e.firstTime ++ u16 e.firstOrdinal))

/-- A HELD entry goes to CLEAR, its history kept (R177). -/
def clearHeld (e : TripEntry) : TripEntry := if e.state = .held then { e with state := .clear } else e

/-- TRIP_CLEAR (R177). -/
def ownTripClear (payload : List Byte) (s : State) : State × ReplyCode :=
  let n := byteAt payload 0
  if n = 255 then
    let s' := s.updTrip fun t => allCauses.foldl (fun t c => t.set c (clearHeld (t.get c))) t
    (s', if allCauses.any fun c => decide ((s'.trip.get c).state = .active) then .stillActive else .ok [])
  else
    match causeOf n with
    | none => (s, .badField 1 0)
    | some c =>
      if (s.trip.get c).state = .active then (s, .stillActive)
      else (s.updTrip fun t => t.set c (clearHeld (t.get c)), .ok [])

/-! ### The commands -/

/-- TRIP_CONDITION (R166). -/
def execTripCondition (c : TripCause) (s : State) : Result :=
  .next (takeTripMsg ⟨c, false⟩ (takeCondition c) s)

/-- TRIP_CONDITION_END (R167). -/
def execTripConditionEnd (c : TripCause) (s : State) : Result :=
  .next (takeTripMsg ⟨c, true⟩ (takeConditionEnd c) s)

end Sys2Proof.Machine
end

