-- ==== Sys2Proof/Machine/Link.lean ====
section
/-! DEFINITION. LINK (chapter 11): the receive framer, the inbound queue, the delivery of requests, the transmitter and the silence
timer, with the requests LINK answers itself. -/

namespace Sys2Proof.Machine

/-! ### Receiving (R180, R181) -/

/-- Reasons of a bad frame (R180, R190). -/
inductive BadReason where
  | crc | gap | length
  deriving DecidableEq, Repr

/-- Codes of the reasons (R190). -/
def BadReason.code : BadReason → Nat
  | .crc => 1 | .gap => 2 | .length => 3

/-- A bad frame: the count, the BAD_FRAME warning, and the receiver back in HUNT (R180). -/
def badFrame (reason : BadReason) (s : State) : State :=
  let s := s.updLink fun l => { l with rx := .hunt, gapTimer := none, badFrames := bump 65535 l.badFrames }
  report .link .warning 0x01 (u8 reason.code ++ u16 s.link.badFrames) s

/-- The silence timer starts with a timeout in s, or stays stopped for 0 (R174). -/
def silenceFor (timeout : Nat) : Timer := if timeout = 0 then none else some (timeout * 1000)

/-- A frame that waits while a later frame ends a host silence (log entry 5). -/
def InFrame.passedByEnd (f : InFrame) : InFrame := { f with laterEnds := f.laterEnds + 1 }

/-- A CRC-good frame is heard (R174): a standing silence ends, which the frames still waiting count (log entry 5), and the silence
timer restarts. -/
def hearHost (s : State) : State :=
  let s' := s.updLink fun l => { l with silence := silenceFor s.profile.silenceTimeout, silentRaised := false }
  if s.link.silentRaised then
    handConditionEnd .hostSilent (s'.updLink fun l => { l with inbound := l.inbound.map InFrame.passedByEnd })
  else s'

/-- A CRC-good frame (R181): heard, then dropped by a full queue, or joined to its tail; after the transmitter has taken the OK
reply of an accepted LINK_RESET it is not admitted (R182). -/
def admitFrame (body : List Byte) (s : State) : State :=
  let kind := body.getD 0 0
  let tag := body.getD 1 0
  let s := (hearHost s).updLink fun l => { l with rx := .hunt, gapTimer := none }
  if s.link.closing = .replyTaken then s
  else if Config.inboundCapacity ≤ s.link.inbound.length then
    let s := s.updLink fun l => { l with dropped := bump 65535 l.dropped }
    report .link .warning 0x02 ([kind, tag] ++ u16 s.link.dropped) s
  else s.updLink fun l => { l with inbound := l.inbound ++ [⟨kind, tag, body.drop 2, 0⟩] }

/-- The receiver takes a byte (R180). -/
def receive (b : Byte) (s : State) : State :=
  let gap : Timer := some Config.gapMs
  match s.link.rx with
  | .hunt => if b = 0x7E then s.updLink fun l => { l with rx := .length, gapTimer := gap } else s
  | .length =>
    if 2 ≤ b.toNat ∧ b.toNat ≤ 200 then s.updLink fun l => { l with rx := .body b.toNat [], gapTimer := gap }
    else badFrame .length s
  | .body len got =>
    let got := got ++ [b]
    s.updLink fun l =>
      { l with rx := if len ≤ got.length then .check len got none else .body len got, gapTimer := gap }
  | .check len body none => s.updLink fun l => { l with rx := .check len body (some b), gapTimer := gap }
  | .check len body (some high) =>
    if crcBytes (crc16 (BitVec.ofNat 8 len :: body)) = [high, b] then admitFrame body s else badFrame .crc s

/-- RX_BYTE (R180). -/
def execRxByte (b : Byte) (s : State) : Result := .next (receive b s)

/-- GAP_TIMER_EXPIRY (R180). -/
def execGapTimerExpiry (s : State) : Result :=
  .next (if s.link.gapTimer.isSome ∧ s.link.rx ≠ .hunt then badFrame .gap s else s)

/-- SILENCE_TIMER_EXPIRY (R174). -/
def execSilenceTimerExpiry (s : State) : Result :=
  .next (if s.link.silence.isNone then s
    else handCondition .hostSilent (s.updLink fun l => { l with silence := none, silentRaised := true }))

/-! ### Delivery (R182, R183) -/

/-- LINK delivers the oldest frame if it is this one and the slot is empty (R182): while closing for a reset it answers BUSY; a length
not admitted is BAD_LENGTH; otherwise the owner acts, with every host silence that had ended by the frame's check ended at TRIP
(R174, R175), and its reply enters the slot. A frame that is not due changes nothing (log entry 1). -/
def serve (kind tag : Byte) (payload : List Byte) (owner : State → State × ReplyCode) (s : State) : State :=
  match dueFrame kind tag payload s.link with
  | none => s
  | some (f, rest) =>
    let s := s.updLink fun l => { l with inbound := rest }
    if s.link.closing ≠ .open then putReply kind tag .busy s
    else if lengthAllowed kind payload.length then
      let r := owner (settleFor f s)
      putReply kind tag r.2 r.1
    else putReply kind tag .badLength s

/-- A frame whose KIND is no request is answered UNKNOWN_KIND (R182). -/
def serveUnknown (kind tag : Byte) (payload : List Byte) (s : State) : State :=
  match dueFrame kind tag payload s.link with
  | none => s
  | some (_, rest) =>
    if knownKinds.contains kind then s
    else
      let s := s.updLink fun l => { l with inbound := rest }
      putReply kind tag (if s.link.closing ≠ .open then .busy else .unknownKind) s

/-- UNKNOWN_KIND_REQUEST (R182). -/
def execUnknownKindRequest (kind tag : Byte) (payload : List Byte) (s : State) : Result :=
  .next (serveUnknown kind tag payload s)

/-! ### The transmitter (R184, R185) -/

/-- While LINK closes for a reset, the next held frame is answered BUSY as the slot empties (R182). -/
def answerBusy (s : State) : State :=
  match s.link.closing, s.link.inbound with
  | .accepted, f :: rest | .replyTaken, f :: rest =>
    putReply f.kind f.tag .busy (s.updLink fun l => { l with inbound := rest })
  | .open, _ | .accepted, [] | .replyTaken, [] => s

/-- The transmitter takes the reply out of the slot (R184); the first reply taken after an acceptance is its OK (R182). -/
def sendReply (r : OutFrame) (s : State) : State :=
  answerBusy (s.updLink fun l =>
    { l with slot := none, line := some (frameBytes r), closing := if l.closing = .accepted then .replyTaken else l.closing })

/-- The transmitter takes the oldest report; a non-zero lost count becomes a REPORTS_LOST warning in the freed place (R185). -/
def sendReport (r : Report) (rest : List Report) (s : State) : State :=
  s.updLink fun l =>
    { l with
      line := some (frameBytes (reportFrame r))
      reports := if l.lost = 0 then rest
        else rest ++ [⟨.link, .warning, 0x03, s.cpx.cycleElapsed, u8 l.lost⟩]
      lost := 0 }

/-- A frame boundary (R184): the waiting reply, or else the oldest report, or else idle. While closing only replies are sent (R182);
while a delivery is due the transmitter waits for its reply (log entry 6). -/
def frameBoundary (s : State) : State :=
  let s := s.updLink fun l => { l with line := none }
  match s.link.slot with
  | some r => sendReply r s
  | none =>
    if s.link.closing ≠ .open ∨ s.link.inbound ≠ [] then s
    else
      match s.link.reports with
      | [] => s
      | r :: rest => sendReport r rest s

/-- TX_FRAME_BOUNDARY (R184). -/
def execTxFrameBoundary (s : State) : Result := .next (frameBoundary s)

/-! ### The requests LINK owns -/

/-- PROBE (R186). -/
def ownProbe (s : State) : State × ReplyCode :=
  (s, .ok (u16 Config.partCode ++ u8 Config.revisionLetter ++ u8 Config.protocolVersion ++ u8 s.prof.source.code ++
    u8 s.prof.lastReset.code))

/-- NOP (R187). -/
def ownNop (s : State) : State × ReplyCode := (s, .ok [])

/-- REPORT_LEVEL_SET (R187). -/
def ownReportLevelSet (payload : List Byte) (s : State) : State × ReplyCode :=
  let v := byteAt payload 0
  if 3 < v then (s, .badField 1 0) else (s.updLink fun l => { l with level := v }, .ok [])

/-- The 93 bytes of a STATUS_GET reply less its result code, in the order of R188. -/
def statusBytes (s : State) : List Byte :=
  let c := s.cpx
  let a := s.atu
  let d := s.drum
  let m := s.mest
  let h := s.hstg
  u8 c.cycle.code ++ u16 c.ordinal ++ optField 1 u8 ((currentStage c).map (·.kind.code)) ++ u16 c.stageElapsed ++
    u32 c.cycleElapsed ++ optField 1 u8 (c.pauseCause.map PauseCause.code) ++ u8 c.endReason.code ++
    s16 a.exhaust.value ++ flag a.exhaust.valid ++ s16 a.inlet.value ++ flag a.inlet.valid ++ u16 a.pressure ++
    flag a.airflowProven ++ u8 a.blower.code ++ flag (!a.door.isClosed) ++
    u8 d.state.code ++ u8 d.direction.code ++ flag d.lock ++ u16 d.lastPeriod ++ s8 d.offset ++
    optField 2 u16 m.f ++ u8 m.b ++ optField 2 u16 m.estimate ++
    (allElements.flatMap fun e =>
      let r := h.elements.get e
      u8 r.state.code ++ u8 r.lastOff.code ++ u16 r.onCount ++ optField 4 u32 r.onSince) ++
    u8 h.demand ++ flag h.inletCap ++
    u16 s.profile.allowance ++ u16 (grantedTotal s.profile s.saa) ++ u8 s.saa.surge.code ++
    (allCauses.flatMap fun t => u8 (s.trip.get t).state.code) ++
    flag s.prof.write.isSome ++ u8 s.prof.lastResult.code ++ u8 s.link.flags.number

/-- STATUS_GET (R188, R189): the snapshot with the event flags, which are then cleared. -/
def ownStatusGet (s : State) : State × ReplyCode :=
  (s.updLink fun l => { l with flags := .clear }, .ok (statusBytes s))

end Sys2Proof.Machine
end

