-- ==== Sys2Proof/Machine/Prof.lean ====
section
/-! DEFINITION. PROF (chapter 12): setting, reading and storing the profile, and the resets. -/

namespace Sys2Proof.Machine

/-! ### The active profile (R196, R197) -/

/-- LINK takes a new profile (R174): a running silence timer restarts with the new timeout; one that the old timeout of 0 kept
stopped starts; a new timeout of 0 stops it. -/
def silenceAfter (old new : Nat) (t : Timer) : Timer :=
  if new = 0 then none else if t.isSome ∨ old = 0 then silenceFor new else t

/-- A profile is applied (R197): DRUM clamps its offset, HSTG aligns its records, LINK its silence timer. -/
def applyProfile (p : Profile) (s : State) : State :=
  let old := s.profile.silenceTimeout
  let s := s.updProf fun f => { f with active := p }
  let s := s.updDrum fun d => { d with offset := clampInt (-(p.maxAdjust : Int)) p.maxAdjust d.offset }
  (hstgProfile s).updLink fun l => { l with silence := silenceAfter old p.silenceTimeout l.silence }

/-- Whether the cycle state takes PROFILE_SET and PROFILE_STORE: IDLE, READY or DONE (R196, R198). -/
def CycleState.quiet : CycleState → Bool
  | .idle | .ready | .done => true
  | .running | .starved | .paused | .faulted => false

/-- PROFILE_SET (R196, R197). A profile that is taken finds the grant list and the wait queue empty and the surge IDLE (R124). -/
def ownProfileSet (payload : List Byte) (s : State) : State × ReplyCode :=
  if !s.cpx.cycle.quiet then (s, .badState)
  else
    match profileFault (profileOf payload) with
    | some field => (s, .badField field 0)
    | none => (applyProfile (Profile.masked (profileOf payload)) (settleAccount s), .ok [])

/-- PROFILE_GET (R197). -/
def ownProfileGet (s : State) : State × ReplyCode := (s, .ok (profileBytes s.profile))

/-! ### The store (R198) -/

/-- PROFILE_STORE (R198): the snapshot is taken and its write starts. -/
def ownProfileStore (s : State) : State × ReplyCode :=
  if !s.cpx.cycle.quiet then (s, .badState)
  else if s.prof.write.isSome then (s, .busy)
  else (s.updProf fun f => { f with write := some (storedCopy f.active) }, .ok [])

/-- The verify that ends a write (R198): the store holds what is read back, compared with what was written. -/
def verifyStore (readBack : List Byte) (s : State) : State :=
  match s.prof.write with
  | none => s
  | some copy =>
    if readBack = copy then
      report .prof .info 0x11 [] (s.updProf fun f => { f with write := none, lastResult := .ok, stored := readBack })
    else
      report .prof .error 0x12 [] (s.updProf fun f => { f with write := none, lastResult := .failed, stored := readBack })

/-- STORE_VERIFY (R198). -/
def execStoreVerify (readBack : List Byte) (s : State) : Result := .next (verifyStore readBack s)

/-! ### Resets (R199 to R201) -/

/-- The load of the profile from the store (R199): the profile, masked as it is applied (R57), its source, and the reason of a
PROFILE_DEFAULTED warning. -/
def loadStore (stored : List Byte) : Profile × ProfileSource × Option Nat :=
  if storeCheckFails stored then (factoryProfile, .defaults, some 1)
  else if byteAt stored 0 ≠ Config.storeVersion then (factoryProfile, .defaults, some 2)
  else (Profile.masked (profileOf ((stored.drop 1).take 52)), .stored, none)

/-- The store after a reset: an abandoned write leaves what it had reached, a free value (R200, log entry 9). -/
def storeAfterReset (s : State) : List Byte :=
  match s.prof.write with
  | none => s.prof.stored
  | some copy => Config.partWritten s.freeCount s.prof.stored copy

/-- A reset (R200): POWER_ON and BROWN_OUT load the profile, PIN and LINK keep it. The store, the levels on the input pins and the
waiting commands stay (log entry 30). -/
def resetPart (cause : ResetCause) (s : State) : State :=
  let stored := storeAfterReset s
  let free := if s.prof.write.isSome then s.freeCount + 1 else s.freeCount
  let l : Profile × ProfileSource × Option Nat :=
    match cause with
    | .powerOn | .brownOut => loadStore stored
    | .pin | .link => (s.profile, s.prof.source, none)
  .fresh cause l.1 l.2.1 l.2.2 stored s.atu.door.raw s.atu.highLimit.raw s.pending free

/-- POWER_ON (R200). -/
def execPowerOn (s : State) : Result := .next (resetPart .powerOn s)

/-- BROWN_OUT (R200). -/
def execBrownOut (s : State) : Result := .next (resetPart .brownOut s)

/-- PIN_RESET (R200): ignored with the pin reset enable off. -/
def execPinReset (s : State) : Result :=
  .next (if s.profile.pinResetEnable = 1 then resetPart .pin s else s)

/-- Whether every reply LINK owes has been sent to its last byte (R182): the OK reply taken, no reply in the slot, no frame held,
and no frame on the line. -/
def repliesSent (l : Link) : Bool :=
  decide (l.closing = .replyTaken) && l.slot.isNone && l.inbound.isEmpty && l.line.isNone

/-- LINK_RESET_FOLLOWS (R182, R200): due at the end of the last byte of the last reply owed (log entry 22). -/
def execLinkResetFollows (s : State) : Result :=
  .next (if repliesSent s.link then resetPart .link s else s)

/-- LINK_RESET (R200): DENIED, BUSY, or accepted with LINK closing for the reset. -/
def ownLinkReset (s : State) : State × ReplyCode :=
  if s.profile.linkResetEnable ≠ 1 then (s, .denied)
  else if s.prof.write.isSome then (s, .busy)
  else (s.updLink fun l => { l with closing := .accepted }, .ok [])

end Sys2Proof.Machine
end

