-- ==== Sys2Proof/Machine/Requests.lean ====
section
/-! DEFINITION. The request commands: each is the delivery of the oldest inbound frame of its KIND to the block that owns it
(R182, 11.3), with the requests DRUM and MEST own. -/

namespace Sys2Proof.Machine

/-! ### The requests DRUM and MEST own -/

/-- The eight-byte entries of a PATTERN_SET written in order from an index (R26). -/
def writePatterns : Nat → List Pattern → Vector Pattern 8 → Vector Pattern 8
  | _, [], t => t
  | i, p :: ps, t => writePatterns (i + 1) ps (t.setIfInBounds i p)

/-- PATTERN_SET (R25, R26). -/
def ownPatternSet (payload : List Byte) (s : State) : State × ReplyCode :=
  let start := byteAt payload 0
  let n := (payload.length - 1) / 8
  let working := s.cpx.cycle = .running ∨ s.cpx.cycle = .starved ∨ s.cpx.cycle = .paused
  if 7 < start then (s, .badField 1 0)
  else if 8 < start + n then (s, .badField 1 (9 - start))
  else if working ∧ start ≤ s.drum.activeIdx ∧ s.drum.activeIdx < start + n then (s, .inUse)
  else
    let received := (chunks 8 n (payload.drop 1)).map patternOf
    let stored := received.map clampPattern
    (s.updDrum fun d => { d with table := writePatterns start stored d.table },
      if stored = received then .ok [] else .clamped [])

/-- PATTERN_GET (R27). -/
def ownPatternGet (payload : List Byte) (s : State) : State × ReplyCode :=
  let start := byteAt payload 0
  let count := byteAt payload 1
  if 7 < start then (s, .badField 1 0)
  else if count = 0 ∨ 8 < start + count then (s, .badField 2 0)
  else (s, .ok (u8 start ++ u8 count ++ ((s.drum.table.toList.drop start).take count).flatMap patternBytes))

/-- HISTORY_GET (R19): up to n of the newest records, newest first. -/
def ownHistoryGet (payload : List Byte) (s : State) : State × ReplyCode :=
  let n := byteAt payload 0
  if n = 0 ∨ 8 < n then (s, .badField 1 0)
  else
    let rs := s.drum.history.reverse.take n
    (s, .ok (u8 rs.length ++ rs.flatMap revBytes))

/-- TREND_GET (R68). -/
def ownTrendGet (s : State) : State × ReplyCode :=
  (s, .ok (u8 s.mest.trend.length ++ s.mest.trend.flatMap u16))

/-! ### The commands, in the order of the request index -/

/-- PROBE (R186). -/
def execProbe (tag : Byte) (payload : List Byte) (s : State) : Result := .next (serve 0x01 tag payload ownProbe s)

/-- PROFILE_SET (R196). -/
def execProfileSet (tag : Byte) (payload : List Byte) (s : State) : Result :=
  .next (serve 0x02 tag payload (ownProfileSet payload) s)

/-- PROFILE_GET (R197). -/
def execProfileGet (tag : Byte) (payload : List Byte) (s : State) : Result := .next (serve 0x03 tag payload ownProfileGet s)

/-- PROFILE_STORE (R198). -/
def execProfileStore (tag : Byte) (payload : List Byte) (s : State) : Result := .next (serve 0x04 tag payload ownProfileStore s)

/-- ALLOWANCE_SET (R121). -/
def execAllowanceSet (tag : Byte) (payload : List Byte) (s : State) : Result :=
  .next (serve 0x05 tag payload (ownAllowanceSet payload) s)

/-- REPORT_LEVEL_SET (R187). -/
def execReportLevelSet (tag : Byte) (payload : List Byte) (s : State) : Result :=
  .next (serve 0x06 tag payload (ownReportLevelSet payload) s)

/-- LINK_RESET (R200). -/
def execLinkReset (tag : Byte) (payload : List Byte) (s : State) : Result := .next (serve 0x07 tag payload ownLinkReset s)

/-- NOP (R187). -/
def execNop (tag : Byte) (payload : List Byte) (s : State) : Result := .next (serve 0x0F tag payload ownNop s)

/-- PATTERN_SET (R25). -/
def execPatternSet (tag : Byte) (payload : List Byte) (s : State) : Result :=
  .next (serve 0x10 tag payload (ownPatternSet payload) s)

/-- PATTERN_GET (R27). -/
def execPatternGet (tag : Byte) (payload : List Byte) (s : State) : Result :=
  .next (serve 0x11 tag payload (ownPatternGet payload) s)

/-- PLAN_APPEND (R131). -/
def execPlanAppend (tag : Byte) (payload : List Byte) (s : State) : Result :=
  .next (serve 0x20 tag payload (ownPlanAppend payload) s)

/-- PLAN_CLEAR (R133). -/
def execPlanClear (tag : Byte) (payload : List Byte) (s : State) : Result := .next (serve 0x21 tag payload ownPlanClear s)

/-- PLAN_GET (R133). -/
def execPlanGet (tag : Byte) (payload : List Byte) (s : State) : Result :=
  .next (serve 0x22 tag payload (ownPlanGet payload) s)

/-- START (R136). -/
def execStart (tag : Byte) (payload : List Byte) (s : State) : Result := .next (serve 0x30 tag payload ownStart s)

/-- PAUSE (R152). -/
def execPause (tag : Byte) (payload : List Byte) (s : State) : Result := .next (serve 0x31 tag payload ownPause s)

/-- RESUME (R156). -/
def execResume (tag : Byte) (payload : List Byte) (s : State) : Result := .next (serve 0x32 tag payload ownResume s)

/-- ABORT (R146). -/
def execAbort (tag : Byte) (payload : List Byte) (s : State) : Result := .next (serve 0x33 tag payload ownAbort s)

/-- ADVANCE (R142). -/
def execAdvance (tag : Byte) (payload : List Byte) (s : State) : Result := .next (serve 0x34 tag payload ownAdvance s)

/-- CYCLE_CLOSE (R148). -/
def execCycleClose (tag : Byte) (payload : List Byte) (s : State) : Result := .next (serve 0x35 tag payload ownCycleClose s)

/-- STATUS_GET (R188). -/
def execStatusGet (tag : Byte) (payload : List Byte) (s : State) : Result := .next (serve 0x40 tag payload ownStatusGet s)

/-- HISTORY_GET (R19). -/
def execHistoryGet (tag : Byte) (payload : List Byte) (s : State) : Result :=
  .next (serve 0x41 tag payload (ownHistoryGet payload) s)

/-- TREND_GET (R68). -/
def execTrendGet (tag : Byte) (payload : List Byte) (s : State) : Result := .next (serve 0x42 tag payload ownTrendGet s)

/-- TRIP_GET (R176). -/
def execTripGet (tag : Byte) (payload : List Byte) (s : State) : Result := .next (serve 0x43 tag payload ownTripGet s)

/-- TRIP_CLEAR (R177). -/
def execTripClear (tag : Byte) (payload : List Byte) (s : State) : Result :=
  .next (serve 0x44 tag payload (ownTripClear payload) s)

/-- CONTEXT_GET (R160). -/
def execContextGet (tag : Byte) (payload : List Byte) (s : State) : Result := .next (serve 0x50 tag payload ownContextGet s)

/-- CONTEXT_LOAD (R161). -/
def execContextLoad (tag : Byte) (payload : List Byte) (s : State) : Result :=
  .next (serve 0x51 tag payload (ownContextLoad payload) s)

end Sys2Proof.Machine
end

