-- ==== Sys2Proof/Machine/Dispatch.lean ====
section
/-! DEFINITION. The dispatch: one arm per command of the opcode table, in the table's order. -/

namespace Sys2Proof.Machine

/-- The effect of a command on everything but the queue of commands waiting. -/
def exec (i : Instr) (s : State) : Host.Outcome State Fault Refusal :=
  match i with
  | .rxByte b => Sys2Proof.Machine.execRxByte b s
  | .gapTimerExpiry => Sys2Proof.Machine.execGapTimerExpiry s
  | .txFrameBoundary => Sys2Proof.Machine.execTxFrameBoundary s
  | .silenceTimerExpiry => Sys2Proof.Machine.execSilenceTimerExpiry s
  | .unknownKindRequest kind tag payload => Sys2Proof.Machine.execUnknownKindRequest kind tag payload s
  | .probe tag payload => Sys2Proof.Machine.execProbe tag payload s
  | .profileSet tag payload => Sys2Proof.Machine.execProfileSet tag payload s
  | .profileGet tag payload => Sys2Proof.Machine.execProfileGet tag payload s
  | .profileStore tag payload => Sys2Proof.Machine.execProfileStore tag payload s
  | .allowanceSet tag payload => Sys2Proof.Machine.execAllowanceSet tag payload s
  | .reportLevelSet tag payload => Sys2Proof.Machine.execReportLevelSet tag payload s
  | .linkReset tag payload => Sys2Proof.Machine.execLinkReset tag payload s
  | .nop tag payload => Sys2Proof.Machine.execNop tag payload s
  | .patternSet tag payload => Sys2Proof.Machine.execPatternSet tag payload s
  | .patternGet tag payload => Sys2Proof.Machine.execPatternGet tag payload s
  | .planAppend tag payload => Sys2Proof.Machine.execPlanAppend tag payload s
  | .planClear tag payload => Sys2Proof.Machine.execPlanClear tag payload s
  | .planGet tag payload => Sys2Proof.Machine.execPlanGet tag payload s
  | .start tag payload => Sys2Proof.Machine.execStart tag payload s
  | .pause tag payload => Sys2Proof.Machine.execPause tag payload s
  | .resume tag payload => Sys2Proof.Machine.execResume tag payload s
  | .abort tag payload => Sys2Proof.Machine.execAbort tag payload s
  | .advance tag payload => Sys2Proof.Machine.execAdvance tag payload s
  | .cycleClose tag payload => Sys2Proof.Machine.execCycleClose tag payload s
  | .statusGet tag payload => Sys2Proof.Machine.execStatusGet tag payload s
  | .historyGet tag payload => Sys2Proof.Machine.execHistoryGet tag payload s
  | .trendGet tag payload => Sys2Proof.Machine.execTrendGet tag payload s
  | .tripGet tag payload => Sys2Proof.Machine.execTripGet tag payload s
  | .tripClear tag payload => Sys2Proof.Machine.execTripClear tag payload s
  | .contextGet tag payload => Sys2Proof.Machine.execContextGet tag payload s
  | .contextLoad tag payload => Sys2Proof.Machine.execContextLoad tag payload s
  | .tachPulse current rawCount => Sys2Proof.Machine.execTachPulse current rawCount s
  | .indexMarker elapsedMs => Sys2Proof.Machine.execIndexMarker elapsedMs s
  | .stopDetectExpiry => Sys2Proof.Machine.execStopDetectExpiry s
  | .accelTimerExpiry => Sys2Proof.Machine.execAccelTimerExpiry s
  | .dwellExpiry => Sys2Proof.Machine.execDwellExpiry s
  | .stallTimerExpiry => Sys2Proof.Machine.execStallTimerExpiry s
  | .surgeGrant txn => Sys2Proof.Machine.execSurgeGrant txn s
  | .conversionComplete ch raw => Sys2Proof.Machine.execConversionComplete ch raw s
  | .inputLevelChange pin level => Sys2Proof.Machine.execInputLevelChange pin level s
  | .debounceExpiry pin => Sys2Proof.Machine.execDebounceExpiry pin s
  | .graceTimerExpiry => Sys2Proof.Machine.execGraceTimerExpiry s
  | .lowFlowExpiry => Sys2Proof.Machine.execLowFlowExpiry s
  | .runOnTimerExpiry => Sys2Proof.Machine.execRunOnTimerExpiry s
  | .minOnExpiry e => Sys2Proof.Machine.execMinOnExpiry e s
  | .minOffExpiry e => Sys2Proof.Machine.execMinOffExpiry e s
  | .elementGrant e => Sys2Proof.Machine.execElementGrant e s
  | .shed e => Sys2Proof.Machine.execShed e s
  | .elementRequest e current => Sys2Proof.Machine.execElementRequest e current s
  | .elementWithdrawal e => Sys2Proof.Machine.execElementWithdrawal e s
  | .elementRelease e => Sys2Proof.Machine.execElementRelease e s
  | .onFreeNotice e => Sys2Proof.Machine.execOnFreeNotice e s
  | .surgeRequest txn => Sys2Proof.Machine.execSurgeRequest txn s
  | .surgeRelease txn => Sys2Proof.Machine.execSurgeRelease txn s
  | .surgeWithdrawal txn => Sys2Proof.Machine.execSurgeWithdrawal txn s
  | .grantTimerExpiry => Sys2Proof.Machine.execGrantTimerExpiry s
  | .oneSecondCount => Sys2Proof.Machine.execOneSecondCount s
  | .starveTimerExpiry => Sys2Proof.Machine.execStarveTimerExpiry s
  | .dryReachedSignal ordinal => Sys2Proof.Machine.execDryReachedSignal ordinal s
  | .tripCondition cause => Sys2Proof.Machine.execTripCondition cause s
  | .tripConditionEnd cause => Sys2Proof.Machine.execTripConditionEnd cause s
  | .storeVerify readBack => Sys2Proof.Machine.execStoreVerify readBack s
  | .powerOn => Sys2Proof.Machine.execPowerOn s
  | .brownOut => Sys2Proof.Machine.execBrownOut s
  | .pinReset => Sys2Proof.Machine.execPinReset s
  | .linkResetFollows => Sys2Proof.Machine.execLinkResetFollows s

end Sys2Proof.Machine
end

