-- ==== Sys2Proof/Safety.lean ====
section
/-! DEFINITION. What counts as a sound state and as a due command, in the terms the statements use. -/

namespace Sys2Proof.Machine

/-! ### Requests at their delivery (R182, R183) -/

/-- The oldest frame leaves the inbound queue (R182). -/
def dequeued (s : State) : State := { s with link := { s.link with inbound := s.link.inbound.drop 1 } }

/-- The oldest inbound frame `f` is the named request, the reply slot is empty and LINK is not closing: the delivery is due. -/
def requestDue (kind tag : Byte) (payload : List Byte) (f : InFrame) (s : State) : Prop :=
  s.link.slot = none ∧ s.link.closing = .open ∧ s.link.inbound.head? = some f ∧
    f.kind = kind ∧ f.tag = tag ∧ f.payload = payload

/-- The state in which the owner takes the frame: the frame has left the queue, and TRIP has every end of a host silence that was
handed to it by the frame's check (R174, R175, log entry 5). -/
def atOwner (f : InFrame) (s : State) : State := settleFor f (dequeued s)

/-- A state with a reply put in the slot: KIND plus 0x80, the TAG, and the payload with its result code first (R183). -/
def answered (kind tag : Byte) (payload : List Byte) (s : State) : State :=
  { s with link := { s.link with slot := some ⟨kind + 0x80, tag, payload⟩ } }

/-- Bytes taken one by one by the receiver, each as its own RX_BYTE. -/
def receiveAll : List Byte → State → Result
  | [], s => .next s
  | b :: bs, s =>
    match exec (.rxByte b) s with
    | .next t => receiveAll bs t
    | .fault r => .fault r
    | .refused r => .refused r

/-- The request index (11.3): each KIND with the payload lengths LINK admits for it. -/
def requestLengths : List (Byte × List Nat) :=
  [(0x01, [0]), (0x02, [52]), (0x03, [0]), (0x04, [0]), (0x05, [2]), (0x06, [1]), (0x07, [0]), (0x0F, [0]),
   (0x10, [9, 17, 25, 33, 41, 49, 57, 65]), (0x11, [2]), (0x20, [20, 40, 60, 80]), (0x21, [0]), (0x22, [2])] ++
  [(0x30, [0]), (0x31, [0]), (0x32, [0]), (0x33, [0]), (0x34, [0]), (0x35, [0]), (0x40, [0]), (0x41, [1]), (0x42, [0]),
   (0x43, [0]), (0x44, [1]), (0x50, [0]), (0x51, [32])]

/-! ### Sound states -/

/-- The queues and rings keep within their capacities (R18, R66, R181, R185, R130). -/
def queuesBounded (s : State) : Prop :=
  s.link.inbound.length ≤ 4 ∧ s.link.reports.length ≤ 8 ∧ s.cpx.plan.length ≤ 16 ∧ s.drum.history.length ≤ 32 ∧
    s.mest.trend.length ≤ 16

/-- The plan buffer: every record but the newest is not FINAL, and the digest covers the records held (R130). -/
def planSound (s : State) : Prop :=
  (∀ r ∈ s.cpx.plan.dropLast, r.final = false) ∧ s.cpx.digest = crc16 (s.cpx.plan.flatMap stageBytes)

/-- The stages held and the stage-active flag agree with the cycle state (R127). -/
def stageSound (s : State) : Prop :=
  match s.cpx.cycle with
  | .idle => s.cpx.plan = [] ∧ s.cpx.stageActive = false
  | .ready => s.cpx.plan ≠ [] ∧ s.cpx.stageActive = false
  | .running => s.cpx.plan ≠ [] ∧ s.cpx.stageActive = true
  | .starved => s.cpx.plan = [] ∧ s.cpx.stageActive = false
  | .paused | .faulted => s.cpx.stageActive = true → s.cpx.plan ≠ []
  | .done => s.cpx.stageActive = false

/-- A standing HALT- or SEVERE-class entry keeps the cycle out of RUNNING, STARVED and PAUSED (R171). -/
def tripsBarWork (s : State) : Prop :=
  tripBars s.trip = true → s.cpx.cycle ≠ .running ∧ s.cpx.cycle ≠ .starved ∧ s.cpx.cycle ≠ .paused

/-- An entry that is ACTIVE or HELD has occurred (R165). -/
def tripsCounted (s : State) : Prop := ∀ c, (s.trip.get c).state ≠ .clear → 1 ≤ (s.trip.get c).count

/-- The speed offset lies within max adjust (R1). -/
def offsetBounded (s : State) : Prop :=
  -(s.profile.maxAdjust : Int) ≤ s.drum.offset ∧ s.drum.offset ≤ s.profile.maxAdjust

/-- The on-order list holds exactly the energized elements, each once (R92). -/
def onOrderSound (s : State) : Prop :=
  s.hstg.onOrder.Nodup ∧ ∀ e, e ∈ s.hstg.onOrder ↔ (s.elem e).state.energized = true

/-- No element stands twice in SAA's grant list and wait queue together (R112, R115). -/
def accountHoldsNoneTwice (s : State) : Prop :=
  (s.saa.grants.map (·.element) ++ s.saa.queue.map (·.element)).Nodup

/-- The granted currents fit the allowance less the base load (R111). -/
def accountFits (s : State) : Prop := 0 ≤ s.headroom

/-- An energized element stands behind an open gate: blower ON, airflow proven, high-limit and door CLOSED (R100). -/
def heatGated (s : State) : Prop := ∀ e, (s.elem e).state.energized = true → energizeGate s.atu = true

/-- Heat belongs to a working cycle: heat-enable is set only in RUNNING, demand is 0 without it, and outside RUNNING and STARVED no
element is energized or waiting (R94, R100). -/
def heatWithinCycle (s : State) : Prop :=
  (s.hstg.heatEnable = true → s.cpx.cycle = .running) ∧ (s.hstg.heatEnable = false → s.hstg.demand = 0) ∧
    (s.cpx.cycle ≠ .running → s.cpx.cycle ≠ .starved → ∀ e, (s.elem e).state.counted = false)

/-- The dry count does not exceed the confirm count of the DRY stage held (R61, R64). -/
def dryCountBounded (s : State) : Prop := ∀ st d, s.mest.stage = some st → st.dry = some d → s.mest.b ≤ d.confirm

/-- EFE's sums: no more contacts than samples, and each contact adds at most 65535 (R43); F lies in 16 bits (R57). -/
def moistureBounded (s : State) : Prop :=
  s.efe.k ≤ s.efe.m ∧ s.efe.s ≤ 65535 * s.efe.k ∧ ∀ v, s.mest.f = some v → v ≤ 65535

/-- The sampling window of a profile lies within 64 positions (R195, R196 step 3). -/
def windowInTurn (p : Profile) : Prop := p.windowStart + p.windowLen ≤ 64

/-- EFE's sums keep the ranges of R43: no more samples than the 64 positions of the window, each position sampled once between two
markers, and at most 64 × 65535 = 4,194,240 in S. -/
def sumsInRange (s : State) : Prop :=
  windowInTurn s.profile ∧ s.efe.m ≤ 64 ∧ s.efe.m ≤ s.efe.position ∧ s.efe.k ≤ s.efe.m ∧ s.efe.s ≤ 65535 * s.efe.k ∧
    s.efe.s ≤ 4194240

/-- The filter exponent in force lies in 0..7 (R57, R195). -/
def exponentMasked (s : State) : Prop := s.profile.filterExp ≤ 7

/-- While LINK closes for a reset, no store write is in flight (R182, R198, R200). -/
def closingSound (s : State) : Prop := s.link.closing ≠ .open → s.prof.write = none

/-- With no host silence standing at LINK, TRIP has the end of the last one or has it in flight as its newest HOST_SILENT message
(R174). -/
def silenceSound (s : State) : Prop :=
  s.link.silentRaised = false →
    (s.paths.trip.filter fun m => decide (m.cause = .hostSilent)).getLast? = some ⟨.hostSilent, true⟩ ∨
      (∀ m ∈ s.paths.trip, m.cause ≠ .hostSilent) ∧ s.trip.hostSilent.state ≠ .active

/-! ### Widths of what the link carries -/

/-- The profile's fields fit the widths the link gives them (R195). -/
def profileFits (p : Profile) : Prop :=
  ∀ wv ∈ profileWide.zip (profileFields p), wv.2 < if wv.1 then 65536 else 256

/-- A stage record's fields fit the widths the link gives them (R191). -/
def stageFits (r : StageRec) : Prop :=
  r.pattern < 256 ∧ (-32768 ≤ r.exhaustTarget ∧ r.exhaustTarget < 32768) ∧ (-32768 ≤ r.inletLimit ∧ r.inletLimit < 32768) ∧
    r.dryTarget < 65536 ∧ r.confirm < 256 ∧ (-32768 ≤ r.dryMinExhaust ∧ r.dryMinExhaust < 32768) ∧ r.minDuration < 65536 ∧
    r.maxDuration < 65536 ∧ (-32768 ≤ r.coolTo ∧ r.coolTo < 32768) ∧ r.guardInterval < 65536 ∧ r.burstRevs < 256

/-- A pattern entry's fields fit the widths the link gives them (R191). -/
def patternFits (p : Pattern) : Prop :=
  p.rpm < 65536 ∧ p.forward < 256 ∧ p.reverse < 256 ∧ p.dwell < 65536 ∧ p.nominal < 65536

/-- A Revolution record's fields fit the widths the link gives them (R192). -/
def revFits (r : RevRecord) : Prop :=
  r.number < 65536 ∧ r.period < 65536 ∧ r.tach < 256 ∧ r.iRev < 65536 ∧ r.m < 256 ∧ r.k < 256 ∧ ∀ v, r.mRev = some v → v < 65536

/-- A context record's fields fit the widths the link gives them (R192). -/
def contextFits (c : ContextRec) : Prop :=
  c.version < 256 ∧ c.held < 256 ∧ c.digest < 65536 ∧ c.ordinal < 65536 ∧ c.stageElapsed < 65536 ∧ c.cycleElapsed < 4294967296 ∧
    c.fPresent < 256 ∧ c.fValue < 65536 ∧ c.sparse < 256 ∧ (-128 ≤ c.offset ∧ c.offset < 128) ∧ c.direction < 256 ∧
    c.pointer < 256 ∧ c.stageTangles < 256 ∧ c.dryLatched < 256

/-! ### The drum's exits (1.5) -/

/-- The drum states one command can lead to, by the table of exits at the end of section 1.5: a stop-detect expiry may pass through
STOPPED or DWELL, and a state may stay. -/
def drumMayGo : DrumState → DrumState → Bool
  | .stopped, .stopped | .stopped, .surgeWait => true
  | .surgeWait, .surgeWait | .surgeWait, .accel | .surgeWait, .stopped => true
  | .accel, .accel | .accel, .run | .accel, .decelStop => true
  | .run, .run | .run, .decelStop | .run, .decelReverse => true
  | .decelStop, .decelStop | .decelStop, .stopped | .decelStop, .surgeWait => true
  | .decelReverse, .decelReverse | .decelReverse, .decelStop | .decelReverse, .dwell | .decelReverse, .surgeWait => true
  | .dwell, .dwell | .dwell, .surgeWait | .dwell, .stopped => true
  | _, _ => false

/-- The commands that reset the part (R200). -/
def isReset : Instr → Bool
  | .powerOn | .brownOut | .pinReset | .linkResetFollows => true
  | _ => false

/-- The conditions that fault a working cycle: those of class HALT and SEVERE (R168). -/
def faultsWork (c : Instr) : Prop := ∃ cause, c = .tripCondition cause ∧ tripClass cause ≠ .pause

/-- The commands at which TRIP takes the host's silence (R170): the condition itself, and the delivery of a frame by whose check a
silence had ended that TRIP has still to take (log entry 5). -/
def takesSilence (c : Instr) (s : State) : Prop :=
  c = .tripCondition .hostSilent ∨
    ∃ f, s.link.inbound.head? = some f ∧ 0 < endsDue f s ∧ c = commandOfFrame f.kind f.tag f.payload

/-- The commands that can retire the current stage (R137 to R142): the 1 s count, the dry-reached signal, an exhaust conversion, the
door and ADVANCE. -/
def exitsStage (c : Instr) : Prop :=
  c = .oneSecondCount ∨ (∃ n, c = .dryReachedSignal n) ∨ (∃ raw, c = .conversionComplete .exhaust raw) ∨
    c = .debounceExpiry .door ∨ ∃ tag payload, c = .advance tag payload

/-- Whether a cycle state is one of work: RUNNING, STARVED or PAUSED. -/
def CycleState.working : CycleState → Bool
  | .running | .starved | .paused => true
  | .idle | .ready | .faulted | .done => false

/-- LOCK_LOST with its event flag, where a drum leaves RUN with lock set: the number is that of the last record closed (R14). -/
def lockLostLeaving (d : Drum) (s : State) : State :=
  if d.state = .run ∧ d.lock = true then raiseFlag .lockLost (report .drum .info 0x22 (u16 d.revNumber) s) else s

/-! ### What the air path brings (R75 to R77, R84, R101) -/

/-- What ATU itself does at an exhaust conversion, before HSTG and CPX take it (log entry 12): the channel, then SENSOR, EXHAUST_FIRE
and the end of a run-on, each with the message it hands TRIP, in this order (R75 to R77, R82, R84). -/
def exhaustTaken (raw : Int) (s : State) : State :=
  let valid := decide (-400 ≤ raw ∧ raw ≤ 3000)
  let sensorUp := !valid && !s.atu.sensorRaised && decide (s.atu.exhaust.invalidRun = 1)
  let sensorEnd := valid && s.atu.sensorRaised && s.atu.inlet.valid
  let fireUp := valid && !s.atu.fireRaised && decide ((s.profile.fireThreshold : Int) ≤ raw)
  let fireEnd := valid && s.atu.fireRaised && decide (raw < (s.profile.fireThreshold : Int) - 100)
  let runOnEnd := valid && decide (s.atu.blower = .runOn) && decide (raw < s.profile.runOnTemp)
  { s with
    atu := { s.atu with
      exhaust := if valid then ⟨raw, true, 0⟩
        else { s.atu.exhaust with valid := false, invalidRun := bump 255 s.atu.exhaust.invalidRun }
      sensorRaised := (s.atu.sensorRaised || sensorUp) && !sensorEnd
      fireRaised := (s.atu.fireRaised || fireUp) && !fireEnd
      blower := if runOnEnd then .off else s.atu.blower
      airflowProven := s.atu.airflowProven && !runOnEnd
      grace := if runOnEnd then none else s.atu.grace
      lowFlow := if runOnEnd then none else s.atu.lowFlow
      runOn := if runOnEnd then none else s.atu.runOn
      airflowRaised := s.atu.airflowRaised && !runOnEnd }
    paths := { s.paths with
      trip := s.paths.trip ++ (if sensorUp then [⟨.sensor, false⟩] else []) ++ (if sensorEnd then [⟨.sensor, true⟩] else []) ++
        (if fireUp then [⟨.exhaustFire, false⟩] else []) ++ (if fireEnd then [⟨.exhaustFire, true⟩] else []) ++
        if runOnEnd && s.atu.airflowRaised then [⟨.airflow, true⟩] else [] } }

/-- An element that waits is requested again (R101). -/
def requestedAgain (r : ElementRec) : ElementRec := if r.state = .waitGrant then { r with requested := true } else r

/-- What HSTG does at an event that may open the gate (R101): where the gate holds, every held-back element requests its profile
current again, in ascending element number, and nothing else changes. -/
def heldBackRequested (s : State) : State :=
  if energizeGate s.atu = true then
    { s with
      hstg := { s.hstg with
        elements := ⟨requestedAgain (s.elem .e1), requestedAgain (s.elem .e2), requestedAgain (s.elem .e3),
          requestedAgain (s.elem .e4)⟩ }
      paths := { s.paths with
        hstgToSaa := s.paths.hstgToSaa ++ [Element.e1, .e2, .e3, .e4].flatMap fun e =>
          if (s.elem e).state = .waitGrant ∧ (s.elem e).requested = false then [.request e (Profile.current s.profile e)]
          else [] } }
  else s

/-! ### What LINK does with a frame as a whole (R174, R180, R181) -/

/-- A bad frame of a reason: the receiver in HUNT, the count advanced, the BAD_FRAME warning handed over (R180). -/
def badFrameGiven (reason : Nat) (s : State) : State :=
  report .link .warning 0x01 (u8 reason ++ u16 (bump 65535 s.link.badFrames))
    { s with link := { s.link with rx := .hunt, gapTimer := none, badFrames := bump 65535 s.link.badFrames } }

/-- A CRC-good frame is heard: the receiver in HUNT, the silence timer restarted or left stopped, a standing silence ended, which the
frames still waiting then count (R174, R181, log entry 5). -/
def frameHeard (s : State) : State :=
  { s with
    link := { s.link with
      rx := .hunt
      gapTimer := none
      silence := if s.profile.silenceTimeout = 0 then none else some (s.profile.silenceTimeout * 1000)
      silentRaised := false
      inbound := if s.link.silentRaised then s.link.inbound.map (fun f => { f with laterEnds := f.laterEnds + 1 }) else s.link.inbound }
    paths := { s.paths with
      trip := if s.link.silentRaised then s.paths.trip ++ [⟨.hostSilent, true⟩] else s.paths.trip } }

/-- A heard frame at the tail of the inbound queue, no silence ended since its check (R181, log entry 5). -/
def frameQueued (kind tag : Byte) (payload : List Byte) (s : State) : State :=
  { frameHeard s with
    link := { (frameHeard s).link with inbound := (frameHeard s).link.inbound ++ [⟨kind, tag, payload, 0⟩] } }

/-- The reason of the PROFILE_DEFAULTED warning that a load from a stored copy gives, if it gives one (R199). -/
def loadReason (stored : List Byte) : Option Nat :=
  if stored.length ≠ 55 ∨ (crc16 (stored.take 53)).toNat ≠ wordAt stored 53 then some 1
  else if byteAt stored 0 ≠ 1 then some 2
  else none

/-! ### The state after every reset -/

/-- The reset tables of DRUM and EFE (R21, R39, R55), with the profile in force. -/
def drumAtReset (t : State) : Prop :=
  t.drum.state = .stopped ∧ runEnable t.drum = false ∧ speedDemand t.drum = 0 ∧ t.drum.direction = .fwd ∧
    t.drum.dirOut = .fwd ∧ t.drum.runPending = false ∧ t.drum.stopConfirmed = false ∧
    t.drum.stopDetect = some (t.profile.stopDetectTime * 10) ∧ t.drum.accelTimer = none ∧ t.drum.dwellTimer = none ∧
    t.drum.stallTimer = none ∧ t.drum.stallRaised = false ∧ t.drum.offset = 0 ∧ t.drum.lock = false ∧ t.drum.openRev = none ∧
    t.drum.revNumber = 0 ∧ t.drum.lastPeriod = 0 ∧ t.drum.malformedRun = 0 ∧ t.drum.history = [] ∧ t.drum.txn = 0 ∧
    (∀ i : Fin 8, t.drum.table[i] = ⟨40, 12, 12, 20, 512⟩) ∧ t.drum.active = ⟨40, 12, 12, 20, 512⟩ ∧ t.drum.activeIdx = 0 ∧
    t.drum.guardStage = false ∧ t.drum.reversalRun = 0 ∧ t.drum.burst = false ∧ t.drum.baseSum = 0 ∧ t.drum.baseCount = 0 ∧
    t.drum.iBase = none ∧ t.drum.tangleRun = 0 ∧ t.drum.stageTangles = 0 ∧ t.efe = ⟨false, 0, 0, 0, 0⟩

/-- The reset tables of MEST and CPX (R55, R73, R150). -/
def cycleAtReset (t : State) : Prop :=
  t.mest.f = none ∧ t.mest.foldCounter = 0 ∧ t.mest.b = 0 ∧ t.mest.drySignalled = false ∧ t.mest.stage = none ∧
    t.mest.trend = [] ∧ t.mest.estimate = none ∧ t.mest.sparse = 0 ∧ t.mest.sparseWarned = false ∧
    t.cpx.cycle = .idle ∧ t.cpx.plan = [] ∧ t.cpx.digest = 0xFFFF ∧ t.cpx.stageActive = false ∧ t.cpx.ordinal = 0 ∧
    t.cpx.stageElapsed = 0 ∧ t.cpx.cycleElapsed = 0 ∧ t.cpx.dryLatched = false ∧ t.cpx.pauseCause = none ∧
    t.cpx.endReason = .none ∧ t.cpx.starve = none

/-- The reset tables of ATU, with the input pins' levels kept (R86, R90). -/
def airAtReset (s t : State) : Prop :=
  t.atu.exhaust = ⟨0, false, 0⟩ ∧ t.atu.inlet = ⟨0, false, 0⟩ ∧ t.atu.pressure = 0 ∧ t.atu.lineCurrent = 0 ∧
    t.atu.sensorRaised = false ∧ t.atu.fireRaised = false ∧ t.atu.blower = .off ∧ blowerContactor t.atu = false ∧
    t.atu.airflowProven = false ∧ t.atu.grace = none ∧ t.atu.lowFlow = none ∧ t.atu.airflowRaised = false ∧
    t.atu.runOn = none ∧ t.atu.excessRaised = false ∧ t.atu.aboveRun = 0 ∧ t.atu.belowRun = 0 ∧
    t.atu.door = ⟨s.atu.door.raw, none, some 50⟩ ∧ t.atu.highLimit = ⟨s.atu.highLimit.raw, none, some 50⟩

/-- The reset tables of HSTG, SAA and TRIP, with the profile in force (R110, R126, R179). -/
def heatAtReset (t : State) : Prop :=
  (∀ e, (t.elem e).onSince = none ∧ (t.elem e).lastOff = .stop ∧ (t.elem e).onCount = 0 ∧
    (t.elem e).state.energized = false ∧
    (Profile.current t.profile e ≠ 0 → (t.elem e).state = .offHold ∧ (t.elem e).minOff = some (t.profile.minOff * 1000)) ∧
    (Profile.current t.profile e = 0 → (t.elem e).state = .absent)) ∧
    t.hstg.onOrder = [] ∧ t.hstg.pointer = .e1 ∧ t.hstg.demand = 0 ∧ t.hstg.heatEnable = false ∧ t.hstg.settings = none ∧
    t.hstg.inletCap = false ∧ t.saa.grants = [] ∧ t.saa.queue = [] ∧ t.saa.surge = .idle ∧ t.saa.grantTimer = none ∧
    t.saa.txn = none ∧ grantedTotal t.profile t.saa = 0 ∧
    ∀ c, t.trip.get c = ⟨.clear, 0, none, 0⟩

/-- The reset tables of LINK and PROF, with the profile in force (R194, R200, R201): UP first whatever the level, then the load's
warning when the startup level passes it. -/
def linkAtReset (cause : ResetCause) (defaulted : Option Nat) (t : State) : Prop :=
  t.link.rx = .hunt ∧ t.link.gapTimer = none ∧ t.link.inbound = [] ∧ t.link.slot = none ∧ t.link.lost = 0 ∧
    t.link.badFrames = 0 ∧ t.link.dropped = 0 ∧ t.link.level = t.profile.reportLevel ∧ t.link.flags = .clear ∧
    t.link.silence = none ∧ t.link.line = none ∧ t.link.closing = .open ∧ t.link.silentRaised = false ∧
    t.link.reports =
      (if t.profile.announce = 1 then
        [⟨.link, .info, 0x04, 0, [BitVec.ofNat 8 cause.code, BitVec.ofNat 8 t.prof.source.code]⟩] else []) ++
      (match defaulted with
        | some reason => if 2 ≤ t.profile.reportLevel then [⟨.prof, .warning, 0x10, 0, [BitVec.ofNat 8 reason]⟩] else []
        | none => []) ∧
    t.prof.lastReset = cause ∧ t.prof.write = none ∧ t.prof.lastResult = .none

/-- Everything a reset leaves: the tables of every block, no message in flight, the waiting commands kept. -/
def resetDone (cause : ResetCause) (defaulted : Option Nat) (s t : State) : Prop :=
  drumAtReset t ∧ cycleAtReset t ∧ airAtReset s t ∧ heatAtReset t ∧ linkAtReset cause defaulted t ∧
    t.paths = ⟨[], [], [], [], [], []⟩ ∧ t.pending = s.pending

end Sys2Proof.Machine
end

