-- ==== Sys2Proof/Certificates/Slice0/Obligations.lean ====
section
/-! DEFINITION. The statements for the provers. Each docstring names the rules or sections of spec/ it formalises, and the log entry
where a clause rests on a choice of the model. -/

section

open Sys2Proof Sys2Proof.Machine

/-! ### The queue of commands -/

/-- A step takes the command at the front of the queue and runs it on the state with the queue's rest; an empty queue idles (log
entry 2: the model's choice). -/
def Obligations.StepTakesTheFrontCommand : Prop :=
  ∀ s : State,
    (∀ c rest, s.pending = c :: rest → step s = exec c { s with pending := rest }) ∧
    (s.pending = [] → step s = .next s)

/-- Every command, in every state, answers a next state, and none touches the queue of waiting commands: no fault and no
refusal. That a command with nothing to take answers one too, leaving the state as it is, is the model's choice (log entry 1);
that a reset keeps the waiting commands is the model's reading (log entry 30). -/
def Obligations.EveryCommandCompletes : Prop :=
  ∀ (c : Instr) (s : State), ∃ t, exec c s = .next t ∧ t.pending = s.pending

/-- A command whose message is not at the head of its path, whose frame is not due, or whose timer is not running changes
nothing (log entry 1: the model's choice). -/
def Obligations.CommandsNotDueChangeNothing : Prop :=
  ∀ s : State,
    (∀ kind tag payload,
      (s.link.slot ≠ none ∨ ∀ f rest, s.link.inbound = f :: rest → ¬ (f.kind = kind ∧ f.tag = tag ∧ f.payload = payload)) →
        exec (commandOfFrame kind tag payload) s = .next s) ∧
    (∀ e i, s.paths.hstgToSaa.head? ≠ some (.request e i) → exec (.elementRequest e i) s = .next s) ∧
    (∀ e, s.paths.hstgToSaa.head? ≠ some (.withdrawal e) → exec (.elementWithdrawal e) s = .next s) ∧
    (∀ e, s.paths.hstgToSaa.head? ≠ some (.release e) → exec (.elementRelease e) s = .next s) ∧
    (∀ e, s.paths.hstgToSaa.head? ≠ some (.onFree e) → exec (.onFreeNotice e) s = .next s) ∧
    (∀ e, s.paths.saaToHstg.head? ≠ some (.grant e) → exec (.elementGrant e) s = .next s) ∧
    (∀ e, s.paths.saaToHstg.head? ≠ some (.shed e) → exec (.shed e) s = .next s) ∧
    (∀ n, s.paths.drumToSaa.head? ≠ some (.request n) → exec (.surgeRequest n) s = .next s) ∧
    (∀ n, s.paths.drumToSaa.head? ≠ some (.release n) → exec (.surgeRelease n) s = .next s) ∧
    (∀ n, s.paths.drumToSaa.head? ≠ some (.withdrawal n) → exec (.surgeWithdrawal n) s = .next s) ∧
    (∀ n, s.paths.saaToDrum.head? ≠ some n → exec (.surgeGrant n) s = .next s) ∧
    (∀ n, s.paths.dry.head? ≠ some n → exec (.dryReachedSignal n) s = .next s) ∧
    (∀ c, (⟨c, false⟩ : TripMsg) ∉ s.paths.trip → exec (.tripCondition c) s = .next s) ∧
    (∀ c, (⟨c, true⟩ : TripMsg) ∉ s.paths.trip → exec (.tripConditionEnd c) s = .next s) ∧
    (s.link.gapTimer = none → exec .gapTimerExpiry s = .next s) ∧
    (s.link.silence = none → exec .silenceTimerExpiry s = .next s) ∧
    (s.drum.stopDetect = none → exec .stopDetectExpiry s = .next s) ∧
    (s.drum.accelTimer = none → exec .accelTimerExpiry s = .next s) ∧
    (s.drum.dwellTimer = none → exec .dwellExpiry s = .next s) ∧
    (s.drum.stallTimer = none → exec .stallTimerExpiry s = .next s) ∧
    (s.atu.grace = none → exec .graceTimerExpiry s = .next s) ∧
    (s.atu.lowFlow = none → exec .lowFlowExpiry s = .next s) ∧
    (s.atu.runOn = none → exec .runOnTimerExpiry s = .next s) ∧
    (s.atu.door.timer = none → exec (.debounceExpiry .door) s = .next s) ∧
    (s.atu.highLimit.timer = none → exec (.debounceExpiry .highLimit) s = .next s) ∧
    (∀ e, (s.elem e).minOn = none → exec (.minOnExpiry e) s = .next s) ∧
    (∀ e, (s.elem e).minOff = none → exec (.minOffExpiry e) s = .next s) ∧
    (s.saa.grantTimer = none → exec .grantTimerExpiry s = .next s) ∧
    (s.cpx.starve = none → exec .starveTimerExpiry s = .next s) ∧
    (s.prof.write = none → ∀ bs, exec (.storeVerify bs) s = .next s) ∧
    (s.link.closing ≠ .replyTaken ∨ s.link.slot ≠ none ∨ s.link.inbound ≠ [] ∨ s.link.line ≠ none →
      exec .linkResetFollows s = .next s)

/-! ### The serial link: receiving and transmitting (chapter 11) -/

/-- R180: what the receiver does with each byte and with the gap timer's expiry, by its state; every abandoned frame and every
frame whose CRC fails is a bad frame. The effect of a CRC-good frame is `GoodFrameIsHeardThenQueued`. -/
def Obligations.ReceiverActsOnEachByteByItsState : Prop :=
  ∀ (b : Byte) (s : State),
    (s.link.rx = .hunt → b = 0x7E →
      exec (.rxByte b) s = .next (s.updLink fun l => { l with rx := .length, gapTimer := some 10 })) ∧
    (s.link.rx = .hunt → b ≠ 0x7E → exec (.rxByte b) s = .next s) ∧
    (s.link.rx = .length → 2 ≤ b.toNat ∧ b.toNat ≤ 200 →
      exec (.rxByte b) s = .next (s.updLink fun l => { l with rx := .body b.toNat [], gapTimer := some 10 })) ∧
    (s.link.rx = .length → b.toNat < 2 ∨ 200 < b.toNat → exec (.rxByte b) s = .next (badFrameGiven 3 s)) ∧
    (∀ len got, s.link.rx = .body len got → got.length + 1 < len →
      exec (.rxByte b) s = .next (s.updLink fun l => { l with rx := .body len (got ++ [b]), gapTimer := some 10 })) ∧
    (∀ len got, s.link.rx = .body len got → len ≤ got.length + 1 →
      exec (.rxByte b) s = .next (s.updLink fun l => { l with rx := .check len (got ++ [b]) none, gapTimer := some 10 })) ∧
    (∀ len body, s.link.rx = .check len body none →
      exec (.rxByte b) s = .next (s.updLink fun l => { l with rx := .check len body (some b), gapTimer := some 10 })) ∧
    (∀ len body high, s.link.rx = .check len body (some high) → crcBytes (crc16 (BitVec.ofNat 8 len :: body)) ≠ [high, b] →
      exec (.rxByte b) s = .next (badFrameGiven 1 s)) ∧
    (∀ len body high, s.link.rx = .check len body (some high) → crcBytes (crc16 (BitVec.ofNat 8 len :: body)) = [high, b] →
      ∃ t, exec (.rxByte b) s = .next t ∧ t.link.rx = .hunt ∧ t.link.gapTimer = none ∧
        t.link.badFrames = s.link.badFrames) ∧
    (s.link.rx ≠ .hunt → s.link.gapTimer ≠ none → exec .gapTimerExpiry s = .next (badFrameGiven 2 s))

/-- Sections 10.5 and 11.1 (R174, R181): a CRC-good frame restarts the silence timer or ends the silence before it is admitted;
it then joins the tail of the inbound queue, is dropped with a count and a REQ_DROPPED warning at a queue of 4, or is not
admitted once the transmitter has taken the OK reply of an accepted LINK_RESET (R182). The silence timer's expiry hands TRIP the
HOST_SILENT condition. Section 10.5 (R174, R175): an owner takes a frame with the entry not ACTIVE where a silence had ended by
the frame's check and TRIP had still to take its end; with none to take the delivery finds the state as it is, and an end handed
after the check stays in flight. Every step keeps, with no silence standing at LINK, the end in flight as the newest HOST_SILENT
message or the entry not ACTIVE; so a frame since whose check the timer has not expired is taken with the entry not ACTIVE. That
the ends are counted at the frames that wait is the model's reading (log entry 5). -/
def Obligations.GoodFrameIsHeardThenQueued : Prop :=
  (∀ (high low : Byte) (len : Nat) (kind tag : Byte) (payload : List Byte) (s : State),
    s.link.rx = .check len (kind :: tag :: payload) (some high) →
    crcBytes (crc16 (BitVec.ofNat 8 len :: kind :: tag :: payload)) = [high, low] →
      (s.link.closing ≠ .replyTaken → s.link.inbound.length < 4 →
        exec (.rxByte low) s = .next (frameQueued kind tag payload s)) ∧
      (s.link.closing ≠ .replyTaken → 4 ≤ s.link.inbound.length →
        exec (.rxByte low) s = .next
          (report .link .warning 0x02 ([kind, tag] ++ u16 (bump 65535 s.link.dropped))
            ((frameHeard s).updLink fun l => { l with dropped := bump 65535 s.link.dropped }))) ∧
      (s.link.closing = .replyTaken → exec (.rxByte low) s = .next (frameHeard s))) ∧
  (∀ s : State, s.link.silence ≠ none →
    exec .silenceTimerExpiry s = .next
      { s with
        link := { s.link with silence := none, silentRaised := true }
        paths := { s.paths with trip := s.paths.trip ++ [⟨.hostSilent, false⟩] } }) ∧
  (∀ (f : InFrame) (s : State) (n : Nat),
    n = (s.paths.trip.filter fun m => decide (m = ⟨.hostSilent, true⟩)).length →
    (n ≤ f.laterEnds → atOwner f s = dequeued s) ∧
    (f.laterEnds < n → (atOwner f s).trip.hostSilent.state ≠ .active ∧
      ((atOwner f s).paths.trip.filter fun m => decide (m = ⟨.hostSilent, true⟩)).length = f.laterEnds)) ∧
  silenceSound State.reset ∧ (∀ s t : State, silenceSound s → step s = .next t → silenceSound t) ∧
  ∀ (f : InFrame) (s : State), silenceSound s → s.link.silentRaised = false → f.laterEnds = 0 →
    (atOwner f s).trip.hostSilent.state ≠ .active

/-- Sections 11.1 and 11.7: the bytes of a frame, taken one by one by a receiver in HUNT with room in the inbound queue, queue
exactly that frame: its KIND, its TAG and its payload, whatever bytes they hold. That the frames waiting ahead of it count a
silence it ended is the model's reading (log entry 5). -/
def Obligations.FrameOnTheLineIsReceivedAsSent : Prop :=
  ∀ (kind tag : Byte) (payload : List Byte) (s : State),
    payload.length ≤ 198 → s.link.rx = .hunt → s.link.closing ≠ .replyTaken → s.link.inbound.length < 4 →
      receiveAll (frameBytes ⟨kind, tag, payload⟩) s = .next (frameQueued kind tag payload s)

/-- Section 11.5: a report handed to LINK is discarded by the report level, or joins the tail of the report queue with CPX's
cycle elapsed at the hand-over, or is lost and counted at a queue of 8; an event flag is set whatever becomes of the report.
Sections 11.4 and 11.5: at a frame boundary a waiting reply goes first; with the slot empty and no delivery due, the oldest
report goes, and a non-zero lost count becomes a REPORTS_LOST warning in the freed place; otherwise the line is idle. That the
transmitter waits while a delivery is due is the model's reading of R182 and R184 (log entry 6). -/
def Obligations.TransmitterAndReportQueue : Prop :=
  (∀ (src : Source) (sev : Severity) (code : Byte) (data : List Byte) (s : State),
     (s.link.level < sev.code → report src sev code data s = s) ∧
     (sev.code ≤ s.link.level → s.link.reports.length < 8 →
       report src sev code data s =
         s.updLink fun l => { l with reports := l.reports ++ [⟨src, sev, code, s.cpx.cycleElapsed, data⟩] }) ∧
     (sev.code ≤ s.link.level → 8 ≤ s.link.reports.length →
       report src sev code data s = s.updLink fun l => { l with lost := if l.lost < 255 then l.lost + 1 else l.lost }) ∧
     ∀ f, (raiseFlag f s).link = { s.link with flags := s.link.flags.put f }) ∧
  (∀ s : State, s.link.closing = .open →
     (∀ r, s.link.slot = some r →
       exec .txFrameBoundary s = .next (s.updLink fun l => { l with slot := none, line := some (frameBytes r) })) ∧
     (∀ r rest, s.link.slot = none → s.link.inbound = [] → s.link.reports = r :: rest → s.link.lost = 0 →
       exec .txFrameBoundary s = .next
         (s.updLink fun l => { l with line := some (frameBytes (reportFrame r)), reports := rest })) ∧
     (∀ r rest, s.link.slot = none → s.link.inbound = [] → s.link.reports = r :: rest → s.link.lost ≠ 0 →
       exec .txFrameBoundary s = .next
         (s.updLink fun l =>
           { l with
             line := some (frameBytes (reportFrame r))
             reports := rest ++ [⟨.link, .warning, 0x03, s.cpx.cycleElapsed, u8 s.link.lost⟩]
             lost := 0 })) ∧
     (s.link.slot = none → s.link.inbound ≠ [] ∨ s.link.reports = [] →
       exec .txFrameBoundary s = .next (s.updLink fun l => { l with line := none })))

/-- Sections 11.2 and 12.5: LINK_RESET is refused DENIED or BUSY, or accepted with LINK closing; while LINK closes, each
boundary sends a reply and answers the next held frame BUSY, and the boundary after the last reply leaves the line idle. Once
the last byte of the last reply owed has been sent, LINK_RESET_FOLLOWS resets the part with cause LINK, and before that it does
nothing. That the end of the last byte and the reset are two commands is the model's reading (log entry 22). Every step keeps a
closing LINK free of a store write in flight, and reset has it so. -/
def Obligations.LinkResetClosesThenResets : Prop :=
  (∀ (tag : Byte) (f : InFrame) (s : State), requestDue 0x07 tag [] f s →
    ((atOwner f s).profile.linkResetEnable ≠ 1 →
      exec (.linkReset tag []) s = .next (answered 0x07 tag [0x1B] (atOwner f s))) ∧
    ((atOwner f s).profile.linkResetEnable = 1 → (atOwner f s).prof.write ≠ none →
      exec (.linkReset tag []) s = .next (answered 0x07 tag [0x10] (atOwner f s))) ∧
    ((atOwner f s).profile.linkResetEnable = 1 → (atOwner f s).prof.write = none →
      exec (.linkReset tag []) s = .next
        (answered 0x07 tag [0x00] ((atOwner f s).updLink fun l => { l with closing := .accepted })))) ∧
  (∀ (r : OutFrame) (s : State), s.link.slot = some r → s.link.closing ≠ .open →
    (s.link.inbound = [] →
      exec .txFrameBoundary s = .next
        (s.updLink fun l => { l with slot := none, line := some (frameBytes r), closing := .replyTaken })) ∧
    ∀ f rest, s.link.inbound = f :: rest →
      exec .txFrameBoundary s = .next
        (s.updLink fun l =>
          { l with
            inbound := rest
            slot := some ⟨f.kind + 0x80, f.tag, [0x10]⟩
            line := some (frameBytes r)
            closing := .replyTaken })) ∧
  (∀ s : State, s.link.closing ≠ .open → s.link.slot = none →
    exec .txFrameBoundary s = .next (s.updLink fun l => { l with line := none })) ∧
  (∀ s : State, s.link.closing = .replyTaken → s.link.slot = none → s.link.inbound = [] →
    (s.link.line = none → exec .linkResetFollows s = .next (resetPart .link s)) ∧
    (s.link.line ≠ none → exec .linkResetFollows s = .next s)) ∧
  closingSound State.reset ∧ ∀ s t : State, closingSound s → step s = .next t → closingSound t

/-- Section 11.2 and the request index of 11.3: what LINK answers at delivery before the owner acts. A KIND outside the index is
answered UNKNOWN_KIND, a length the index does not give BAD_LENGTH, and any frame delivered while LINK closes for a reset BUSY;
the frame leaves the queue and nothing else changes. -/
def Obligations.RequestsRefusedByLinkBeforeTheirOwner : Prop :=
  ∀ (kind tag : Byte) (payload : List Byte) (f : InFrame) (s : State),
    (requestDue kind tag payload f s → (∀ row ∈ requestLengths, row.1 ≠ kind) →
      exec (.unknownKindRequest kind tag payload) s = .next (answered kind tag [0x14] (dequeued s))) ∧
    (requestDue kind tag payload f s → (∃ row ∈ requestLengths, row.1 = kind ∧ payload.length ∉ row.2) →
      exec (commandOfFrame kind tag payload) s = .next (answered kind tag [0x13] (dequeued s))) ∧
    (s.link.slot = none → s.link.closing ≠ .open → s.link.inbound.head? = some f →
      f.kind = kind → f.tag = tag → f.payload = payload →
      exec (commandOfFrame kind tag payload) s = .next (answered kind tag [0x10] (dequeued s)))

/-- Section 11.5 (R187): NOP answers OK; REPORT_LEVEL_SET refuses a level above 3 and otherwise sets it; PROFILE_SET leaves the
level as it is; every CRC-good frame restarts the silence timer at its check. -/
def Obligations.NopAndReportLevelSet : Prop :=
  (∀ (tag : Byte) (f : InFrame) (s : State), requestDue 0x0F tag [] f s →
    exec (.nop tag []) s = .next (answered 0x0F tag [0x00] (atOwner f s))) ∧
  (∀ (tag v : Byte) (f : InFrame) (s : State), requestDue 0x06 tag [v] f s →
    (3 < v.toNat → exec (.reportLevelSet tag [v]) s = .next (answered 0x06 tag [0x12, 0x01, 0x00] (atOwner f s))) ∧
    (v.toNat ≤ 3 →
      exec (.reportLevelSet tag [v]) s = .next
        (answered 0x06 tag [0x00] ((atOwner f s).updLink fun l => { l with level := v.toNat })))) ∧
  (∀ (tag : Byte) (payload : List Byte) (s t : State), exec (.profileSet tag payload) s = .next t → t.link.level = s.link.level) ∧
  ∀ (high low : Byte) (len : Nat) (body : List Byte) (s : State), s.link.rx = .check len body (some high) →
    crcBytes (crc16 (BitVec.ofNat 8 len :: body)) = [high, low] →
      ∃ t, exec (.rxByte low) s = .next t ∧
        t.link.silence = if s.profile.silenceTimeout = 0 then none else some (s.profile.silenceTimeout * 1000)

/-- Section 11.5: PROBE answers the part code, the revision letter, the protocol version, the profile source and the last
reset's cause, and changes nothing else. Sections 11.6 and 11.7: the 93 bytes of a STATUS_GET reply carry each block's fields at
their places; the event flags are copied into it and then cleared, and nothing else changes. -/
def Obligations.ProbeAndStatusCarryEveryField : Prop :=
  (∀ (tag : Byte) (f : InFrame) (s : State), requestDue 0x01 tag [] f s →
     exec (.probe tag []) s = .next
       (answered 0x01 tag
         [0x00, 0x02, 0x40, 0x41, 0x01,
           match (atOwner f s).prof.source with
           | .stored => 1
           | .defaults => 2,
           match (atOwner f s).prof.lastReset with
           | .powerOn => 1
           | .brownOut => 2
           | .pin => 3
           | .link => 4]
         (atOwner f s))) ∧
  (∀ (tag : Byte) (f : InFrame) (s : State), requestDue 0x40 tag [] f s →
     ∃ r, exec (.statusGet tag []) s = .next
         (answered 0x40 tag r ((atOwner f s).updLink fun l => { l with flags := .clear })) ∧
       r.length = 93 ∧ byteAt r 0 = 0 ∧
       byteAt r 1 = (atOwner f s).cpx.cycle.code ∧ wordAt r 2 = (atOwner f s).cpx.ordinal % 65536 ∧
       byteAt r 4 = (if (currentStage (atOwner f s).cpx).isSome then 1 else 0) ∧
       byteAt r 5 = ((currentStage (atOwner f s).cpx).map (·.kind.code)).getD 0 ∧
       wordAt r 6 = (atOwner f s).cpx.stageElapsed % 65536 ∧ longAt r 8 = (atOwner f s).cpx.cycleElapsed % 4294967296 ∧
       byteAt r 12 = (if (atOwner f s).cpx.pauseCause.isSome then 1 else 0) ∧
       byteAt r 13 = ((atOwner f s).cpx.pauseCause.map PauseCause.code).getD 0 ∧
       byteAt r 14 = (atOwner f s).cpx.endReason.code ∧
       wordAt r 15 = ((atOwner f s).atu.exhaust.value % 65536).toNat ∧ byteAt r 17 = (atOwner f s).atu.exhaust.valid.toNat ∧
       wordAt r 18 = ((atOwner f s).atu.inlet.value % 65536).toNat ∧ byteAt r 20 = (atOwner f s).atu.inlet.valid.toNat ∧
       wordAt r 21 = (atOwner f s).atu.pressure % 65536 ∧ byteAt r 23 = (atOwner f s).atu.airflowProven.toNat ∧
       byteAt r 24 = (atOwner f s).atu.blower.code ∧
       byteAt r 25 = (if (atOwner f s).atu.door.settled = some .closed then 0 else 1) ∧
       byteAt r 26 = (atOwner f s).drum.state.code ∧ byteAt r 27 = (atOwner f s).drum.direction.code ∧
       byteAt r 28 = (atOwner f s).drum.lock.toNat ∧ wordAt r 29 = (atOwner f s).drum.lastPeriod % 65536 ∧
       byteAt r 31 = ((atOwner f s).drum.offset % 256).toNat ∧
       byteAt r 32 = (if (atOwner f s).mest.f.isSome then 1 else 0) ∧ wordAt r 33 = (atOwner f s).mest.f.getD 0 % 65536 ∧
       byteAt r 35 = (atOwner f s).mest.b % 256 ∧
       byteAt r 36 = (if (atOwner f s).mest.estimate.isSome then 1 else 0) ∧
       wordAt r 37 = (atOwner f s).mest.estimate.getD 0 % 65536 ∧
       (∀ ei ∈ [(Element.e1, 39), (Element.e2, 48), (Element.e3, 57), (Element.e4, 66)],
         byteAt r ei.2 = ((atOwner f s).elem ei.1).state.code ∧ byteAt r (ei.2 + 1) = ((atOwner f s).elem ei.1).lastOff.code ∧
         wordAt r (ei.2 + 2) = ((atOwner f s).elem ei.1).onCount % 65536 ∧
         byteAt r (ei.2 + 4) = (if ((atOwner f s).elem ei.1).onSince.isSome then 1 else 0) ∧
         longAt r (ei.2 + 5) = ((atOwner f s).elem ei.1).onSince.getD 0 % 4294967296) ∧
       byteAt r 75 = (atOwner f s).hstg.demand % 256 ∧ byteAt r 76 = (atOwner f s).hstg.inletCap.toNat ∧
       wordAt r 77 = (atOwner f s).profile.allowance % 65536 ∧
       wordAt r 79 = grantedTotal (atOwner f s).profile (atOwner f s).saa % 65536 ∧
       byteAt r 81 = (atOwner f s).saa.surge.code ∧
       (∀ ci ∈ allCauses.zip [82, 83, 84, 85, 86, 87, 88, 89], byteAt r ci.2 = ((atOwner f s).trip.get ci.1).state.code) ∧
       byteAt r 90 = (if (atOwner f s).prof.write.isSome then 1 else 0) ∧ byteAt r 91 = (atOwner f s).prof.lastResult.code ∧
       byteAt r 92 = (atOwner f s).link.flags.number)

/-! ### Tables, rings and the plan, as the host writes and reads them (chapters 1, 2, 4 and 8) -/

/-- R19: HISTORY_GET refuses a count outside 1..8 with BAD_FIELD, field 1, and otherwise answers a count c = min(n, records
held) and the c newest records, newest first, changing nothing else; a payload of another length is BAD_LENGTH. R68: TREND_GET
answers the number of values in the trend ring and the values, oldest first, changing nothing else; a payload that is not empty
is BAD_LENGTH. The ring's bound of 16 is part of `QueuesAndCountsKeepTheirBounds`. -/
def Obligations.HistoryAndTrendReadTheRings : Prop :=
  (∀ (tag : Byte) (payload : List Byte) (f : InFrame) (s : State), requestDue 0x41 tag payload f s →
     (payload.length ≠ 1 → exec (.historyGet tag payload) s = .next (answered 0x41 tag [0x13] (dequeued s))) ∧
     ∀ n : Byte, payload = [n] →
       (n.toNat = 0 ∨ 8 < n.toNat →
         exec (.historyGet tag [n]) s = .next (answered 0x41 tag [0x12, 0x01, 0x00] (atOwner f s))) ∧
       (1 ≤ n.toNat → n.toNat ≤ 8 →
         exec (.historyGet tag [n]) s = .next
           (answered 0x41 tag
             (0x00 :: BitVec.ofNat 8 (min n.toNat (atOwner f s).drum.history.length) ::
               ((atOwner f s).drum.history.reverse.take n.toNat).flatMap revBytes)
             (atOwner f s)))) ∧
  (∀ (tag : Byte) (payload : List Byte) (f : InFrame) (s : State), requestDue 0x42 tag payload f s →
     (payload ≠ [] → exec (.trendGet tag payload) s = .next (answered 0x42 tag [0x13] (dequeued s))) ∧
     (payload = [] →
       exec (.trendGet tag payload) s = .next
         (answered 0x42 tag (0x00 :: BitVec.ofNat 8 (atOwner f s).mest.trend.length :: (atOwner f s).mest.trend.flatMap u16)
           (atOwner f s))))

/-- Section 2.2: PATTERN_SET refuses a start index above 7, a span past index 7 (with the position of the first entry that falls
past it) and a protected index, in this order, writing nothing; otherwise it writes every entry, clamped, at its index and no
other, and answers CLAMPED exactly when a field changed. Section 2.2: PATTERN_GET refuses a start index above 7 (field 1) and a
count of 0 or past index 7 (field 2), and otherwise answers the start, the count and the entries as stored, in index order,
changing nothing else. -/
def Obligations.PatternTableIsWrittenClampedAndRead : Prop :=
  (∀ (tag start : Byte) (entries : List Pattern) (f : InFrame) (s : State),
     1 ≤ entries.length → entries.length ≤ 8 → (∀ p ∈ entries, patternFits p) →
     requestDue 0x10 tag (start :: entries.flatMap patternBytes) f s →
     (7 < start.toNat →
       exec (.patternSet tag (start :: entries.flatMap patternBytes)) s = .next
         (answered 0x10 tag [0x12, 0x01, 0x00] (atOwner f s))) ∧
     (start.toNat ≤ 7 → 8 < start.toNat + entries.length →
       exec (.patternSet tag (start :: entries.flatMap patternBytes)) s = .next
         (answered 0x10 tag [0x12, 0x01, BitVec.ofNat 8 (9 - start.toNat)] (atOwner f s))) ∧
     (start.toNat + entries.length ≤ 8 → CycleState.working (atOwner f s).cpx.cycle = true →
       start.toNat ≤ (atOwner f s).drum.activeIdx → (atOwner f s).drum.activeIdx < start.toNat + entries.length →
       exec (.patternSet tag (start :: entries.flatMap patternBytes)) s = .next (answered 0x10 tag [0x15] (atOwner f s))) ∧
     (start.toNat + entries.length ≤ 8 →
       (CycleState.working (atOwner f s).cpx.cycle = true →
         ¬ (start.toNat ≤ (atOwner f s).drum.activeIdx ∧ (atOwner f s).drum.activeIdx < start.toNat + entries.length)) →
       ∃ table : Vector Pattern 8,
         exec (.patternSet tag (start :: entries.flatMap patternBytes)) s = .next
           (answered 0x10 tag
             [if ∀ p ∈ entries, 10 ≤ p.rpm ∧ p.rpm ≤ 60 ∧ 1 ≤ p.reverse ∧ p.dwell ≤ 255 ∧ p.nominal ≤ 1023 then 0x00 else 0x01]
             ((atOwner f s).updDrum fun d => { d with table := table })) ∧
         ∀ i : Fin 8,
           (∀ j : Nat, i.val = start.toNat + j → ∀ p, entries[j]? = some p →
             table[i] = ⟨max 10 (min 60 p.rpm), p.forward, max 1 p.reverse, min 255 p.dwell, min 1023 p.nominal⟩) ∧
           (i.val < start.toNat ∨ start.toNat + entries.length ≤ i.val → table[i] = (atOwner f s).drum.table[i]))) ∧
  (∀ (tag start count : Byte) (f : InFrame) (s : State), requestDue 0x11 tag [start, count] f s →
     (7 < start.toNat →
       exec (.patternGet tag [start, count]) s = .next (answered 0x11 tag [0x12, 0x01, 0x00] (atOwner f s))) ∧
     (start.toNat ≤ 7 → count.toNat = 0 ∨ 8 < start.toNat + count.toNat →
       exec (.patternGet tag [start, count]) s = .next (answered 0x11 tag [0x12, 0x02, 0x00] (atOwner f s))) ∧
     (1 ≤ count.toNat → start.toNat + count.toNat ≤ 8 →
       ∃ entries : List Pattern, entries.length = count.toNat ∧
         (∀ j : Fin 8, j.val < count.toNat → ∀ i : Fin 8, i.val = start.toNat + j.val →
           entries[j.val]? = some (atOwner f s).drum.table[i]) ∧
         exec (.patternGet tag [start, count]) s = .next
           (answered 0x11 tag (0x00 :: start :: count :: entries.flatMap patternBytes) (atOwner f s))))

/-- R133: PLAN_CLEAR empties the buffer in IDLE and READY, a READY cycle entering IDLE with its STATE_CHANGE report, and is
refused BAD_STATE elsewhere. PLAN_GET refuses a start above 15 (field 1) and a count of 0 or above 8 (field 2); otherwise it
answers the held count, the digest, the start, the returned count and that many records from the start position, and changes
nothing. A wrong length is BAD_LENGTH. -/
def Obligations.PlanClearAndPlanGet : Prop :=
  (∀ (tag : Byte) (payload : List Byte) (f : InFrame) (s : State), requestDue 0x21 tag payload f s →
    (payload ≠ [] → exec (.planClear tag payload) s = .next (answered 0x21 tag [0x13] (dequeued s))) ∧
    (payload = [] →
      ((atOwner f s).cpx.cycle = .idle →
        exec (.planClear tag payload) s = .next
          (answered 0x21 tag [0x00]
            ((atOwner f s).updCpx fun c => { c with plan := [], digest := 0xFFFF, stageActive := false }))) ∧
      ((atOwner f s).cpx.cycle = .ready →
        exec (.planClear tag payload) s = .next
          (answered 0x21 tag [0x00]
            (report .cpx .info 0x50 [2, 1, 0]
              ((atOwner f s).updCpx fun c =>
                { c with plan := [], digest := 0xFFFF, stageActive := false, cycle := .idle })))) ∧
      ((atOwner f s).cpx.cycle ≠ .idle → (atOwner f s).cpx.cycle ≠ .ready →
        exec (.planClear tag payload) s = .next (answered 0x21 tag [0x11] (atOwner f s))))) ∧
  ∀ (tag : Byte) (payload : List Byte) (f : InFrame) (s : State), requestDue 0x22 tag payload f s →
    (payload.length ≠ 2 → exec (.planGet tag payload) s = .next (answered 0x22 tag [0x13] (dequeued s))) ∧
    ∀ start count : Byte, payload = [start, count] →
      (15 < start.toNat → exec (.planGet tag payload) s = .next (answered 0x22 tag [0x12, 0x01, 0x00] (atOwner f s))) ∧
      (start.toNat ≤ 15 → count.toNat = 0 ∨ 8 < count.toNat →
        exec (.planGet tag payload) s = .next (answered 0x22 tag [0x12, 0x02, 0x00] (atOwner f s))) ∧
      (start.toNat ≤ 15 → 1 ≤ count.toNat → count.toNat ≤ 8 →
        exec (.planGet tag payload) s = .next
          (answered 0x22 tag
            (0x00 :: BitVec.ofNat 8 (atOwner f s).cpx.plan.length ::
              (crcBytes (atOwner f s).cpx.digest ++
                start :: BitVec.ofNat 8 (min count.toNat ((atOwner f s).cpx.plan.length - start.toNat)) ::
                  (((atOwner f s).cpx.plan.drop start.toNat).take count.toNat).flatMap stageBytes))
            (atOwner f s)))

/-- Section 8.3: PLAN_APPEND in IDLE, READY, RUNNING and PAUSED. Refusals in the order BAD_STATE, FULL, FINAL_SEEN, BAD_FIELD
change nothing; a request of records in range joins the tail whole with the exhaust target of each DRY and TIMED record clamped
to the fire threshold less 10.0 °C, the digest recomputed, CLAMPED answered exactly when a target changed, and an IDLE cycle
made READY. Section 8.3: a PLAN_APPEND whose first failing record carries a kind that is not in the list is refused BAD_FIELD,
field 1, at that record's index, and changes nothing. -/
def Obligations.PlanAppendJoinsTheTail : Prop :=
  (∀ (tag : Byte) (records : List StageRec) (f : InFrame) (s : State),
     1 ≤ records.length → records.length ≤ 4 → (∀ r ∈ records, stageFits r) →
     requestDue 0x20 tag (records.flatMap stageBytes) f s →
     ((atOwner f s).cpx.cycle = .faulted ∨ (atOwner f s).cpx.cycle = .done →
       exec (.planAppend tag (records.flatMap stageBytes)) s = .next (answered 0x20 tag [0x11] (atOwner f s))) ∧
     ((atOwner f s).cpx.cycle ≠ .faulted → (atOwner f s).cpx.cycle ≠ .done →
       (16 < (atOwner f s).cpx.plan.length + records.length →
         exec (.planAppend tag (records.flatMap stageBytes)) s = .next (answered 0x20 tag [0x16] (atOwner f s))) ∧
       ((atOwner f s).cpx.plan.length + records.length ≤ 16 →
         ((∃ r ∈ (atOwner f s).cpx.plan, r.final = true) →
           exec (.planAppend tag (records.flatMap stageBytes)) s = .next (answered 0x20 tag [0x17] (atOwner f s))) ∧
         ((∀ r ∈ (atOwner f s).cpx.plan, r.final = false) →
           (∀ (i : Fin records.length) (field : Nat),
             (∀ j : Fin records.length, j.val < i.val →
               stageFault records[j.val] (decide (j.val + 1 = records.length)) = none) →
             stageFault records[i.val] (decide (i.val + 1 = records.length)) = some field →
             exec (.planAppend tag (records.flatMap stageBytes)) s = .next
               (answered 0x20 tag [0x12, BitVec.ofNat 8 field, BitVec.ofNat 8 (i.val + 1)] (atOwner f s))) ∧
           ((∀ i : Fin records.length, stageFault records[i.val] (decide (i.val + 1 = records.length)) = none) →
             (atOwner f s).cpx.cycle ≠ .starved →
             ∀ stored, stored = records.map (fun r =>
                 if r.kind = .dry ∨ r.kind = .timed then
                   { r with exhaustTarget := min r.exhaustTarget (((atOwner f s).profile.fireThreshold : Int) - 100) } else r) →
               ((atOwner f s).cpx.cycle ≠ .idle →
                 exec (.planAppend tag (records.flatMap stageBytes)) s = .next
                   (answered 0x20 tag [if stored = records then 0x00 else 0x01]
                     ((atOwner f s).updCpx fun c =>
                       { c with plan := c.plan ++ stored, digest := crc16 ((c.plan ++ stored).flatMap stageBytes) }))) ∧
               ((atOwner f s).cpx.cycle = .idle →
                 exec (.planAppend tag (records.flatMap stageBytes)) s = .next
                   (answered 0x20 tag [if stored = records then 0x00 else 0x01]
                     (report .cpx .info 0x50 [1, 2, 0]
                       ((atOwner f s).updCpx fun c =>
                         { c with
                           plan := c.plan ++ stored, digest := crc16 ((c.plan ++ stored).flatMap stageBytes),
                           cycle := .ready }))))))))) ∧
  (∀ (tag : Byte) (before : List StageRec) (bad after : List Byte) (k : Nat) (f : InFrame) (s : State),
     (∀ r ∈ before, stageFits r ∧ stageFault r false = none) → bad.length = 20 →
     (byteAt bad 0 % 128 = 0 ∨ 4 < byteAt bad 0 % 128) → after.length = 20 * k → before.length + 1 + k ≤ 4 →
     requestDue 0x20 tag (before.flatMap stageBytes ++ bad ++ after) f s →
     (atOwner f s).cpx.cycle ≠ .faulted → (atOwner f s).cpx.cycle ≠ .done →
     (atOwner f s).cpx.plan.length + (before.length + 1 + k) ≤ 16 → (∀ r ∈ (atOwner f s).cpx.plan, r.final = false) →
     exec (.planAppend tag (before.flatMap stageBytes ++ bad ++ after)) s = .next
       (answered 0x20 tag [0x12, 0x01, BitVec.ofNat 8 (before.length + 1)] (atOwner f s)))

/-- R176: TRIP_GET answers the eight entries in cause-code order with their history and changes nothing; a payload that is not
empty is BAD_LENGTH; the trip summary of a STATUS_GET reply holds the eight states in the same order. -/
def Obligations.TripGetReturnsTheTable : Prop :=
  (∀ (tag : Byte) (payload : List Byte) (f : InFrame) (s : State), requestDue 0x43 tag payload f s →
    (payload ≠ [] → exec (.tripGet tag payload) s = .next (answered 0x43 tag [0x13] (dequeued s))) ∧
    (payload = [] →
      exec (.tripGet tag payload) s = .next
        (answered 0x43 tag
          (0x00 :: ([(TripCause.highLimit, 1), (.exhaustFire, 2), (.airflow, 3), (.drumStall, 4), (.sensor, 5), (.tach, 6),
              (.supplyExcess, 7), (.hostSilent, 8)] : List (TripCause × Byte)).flatMap fun cc =>
            [cc.2, BitVec.ofNat 8 ((atOwner f s).trip.get cc.1).state.code, BitVec.ofNat 8 ((atOwner f s).trip.get cc.1).count] ++
              (match ((atOwner f s).trip.get cc.1).firstTime with
                | some n => 0x01 :: u32 n
                | none => [0, 0, 0, 0, 0]) ++
              u16 ((atOwner f s).trip.get cc.1).firstOrdinal)
          (atOwner f s)))) ∧
  ∀ (tag : Byte) (f : InFrame) (s : State), requestDue 0x40 tag [] f s →
    ∃ t r, exec (.statusGet tag []) s = .next t ∧ t.link.slot = some r ∧
      (r.payload.drop 82).take 8 = ([.highLimit, .exhaustFire, .airflow, .drumStall, .sensor, .tach, .supplyExcess,
        .hostSilent] : List TripCause).map fun c => BitVec.ofNat 8 ((atOwner f s).trip.get c).state.code

/-- R177: TRIP_CLEAR of one cause is STILL_ACTIVE on an ACTIVE entry and otherwise leaves it CLEAR with its history; of all
causes it clears every HELD entry and answers STILL_ACTIVE if one is ACTIVE; any other byte is BAD_FIELD, a wrong length
BAD_LENGTH. Nothing but entry states changes. -/
def Obligations.TripClearTakesHeldToClear : Prop :=
  ∀ (tag : Byte) (payload : List Byte) (f : InFrame) (s : State), requestDue 0x44 tag payload f s →
    (payload.length ≠ 1 → exec (.tripClear tag payload) s = .next (answered 0x44 tag [0x13] (dequeued s))) ∧
    ∀ b : Byte, payload = [b] →
      (b.toNat = 0 ∨ (9 ≤ b.toNat ∧ b.toNat ≤ 254) →
        exec (.tripClear tag payload) s = .next (answered 0x44 tag [0x12, 0x01, 0x00] (atOwner f s))) ∧
      (∀ c, b.toNat = causeCode c →
        (((atOwner f s).trip.get c).state = .active →
          exec (.tripClear tag payload) s = .next (answered 0x44 tag [0x1A] (atOwner f s))) ∧
        (((atOwner f s).trip.get c).state ≠ .active →
          exec (.tripClear tag payload) s = .next
            (answered 0x44 tag [0x00]
              ((atOwner f s).updTrip fun t => t.set c { t.get c with state := .clear })))) ∧
      (b.toNat = 255 →
        ∃ table : TripTable,
          exec (.tripClear tag payload) s = .next
            (answered 0x44 tag [if ∃ c ∈ allCauses, ((atOwner f s).trip.get c).state = .active then 0x1A else 0x00]
              ((atOwner f s).updTrip fun _ => table)) ∧
          ∀ c, table.get c =
            if ((atOwner f s).trip.get c).state = .held then { (atOwner f s).trip.get c with state := .clear }
            else (atOwner f s).trip.get c)

/-- Section 9.3 (R159, R160): CONTEXT_GET answers OK and the 32-byte context record in PAUSED and FAULTED, BAD_STATE elsewhere
and BAD_LENGTH to a payload, and changes nothing; an F that is absent is carried as 0. With no current stage the record
describes the head as a stage about to begin. -/
def Obligations.ContextGetReturnsTheRecord : Prop :=
  ∀ (tag : Byte) (payload : List Byte) (f : InFrame) (s : State), requestDue 0x50 tag payload f s →
    (payload ≠ [] → exec (.contextGet tag payload) s = .next (answered 0x50 tag [0x13] (dequeued s))) ∧
    (payload = [] → (atOwner f s).cpx.cycle ≠ .paused → (atOwner f s).cpx.cycle ≠ .faulted →
      exec (.contextGet tag payload) s = .next (answered 0x50 tag [0x11] (atOwner f s))) ∧
    (payload = [] → (atOwner f s).cpx.cycle = .paused ∨ (atOwner f s).cpx.cycle = .faulted →
      ∃ c : ContextRec,
        exec (.contextGet tag payload) s = .next
          (answered 0x50 tag (0x00 :: (contextBody c ++ crcBytes (crc16 (contextBody c)))) (atOwner f s)) ∧
        c.version = 1 ∧ c.held = (atOwner f s).cpx.plan.length ∧ c.digest = (atOwner f s).cpx.digest.toNat ∧
        c.cycleElapsed = (atOwner f s).cpx.cycleElapsed ∧
        (c.fPresent = if (atOwner f s).mest.f.isSome then 1 else 0) ∧ (∀ v, (atOwner f s).mest.f = some v → c.fValue = v) ∧
        ((atOwner f s).mest.f = none → c.fValue = 0) ∧
        c.sparse = (atOwner f s).mest.sparse ∧ c.offset = (atOwner f s).drum.offset ∧
        c.direction = (atOwner f s).drum.direction.code ∧
        (c.pointer = match (atOwner f s).hstg.pointer with
          | .e1 => 0
          | .e2 => 1
          | .e3 => 2
          | .e4 => 3) ∧
        ((atOwner f s).cpx.stageActive = true →
          c.ordinal = (atOwner f s).cpx.ordinal ∧ c.stageElapsed = (atOwner f s).cpx.stageElapsed ∧
          c.stageTangles = (atOwner f s).drum.stageTangles ∧ c.dryLatched = (atOwner f s).cpx.dryLatched.toNat) ∧
        ((atOwner f s).cpx.stageActive = false →
          (c.ordinal = if (atOwner f s).cpx.ordinal < 65535 then (atOwner f s).cpx.ordinal + 1 else (atOwner f s).cpx.ordinal) ∧
          c.stageElapsed = 0 ∧ c.stageTangles = 0 ∧ c.dryLatched = 0))

/-- Section 9.4: CONTEXT_LOAD's checks in order, the first failure deciding the reply and changing nothing; a record that passes
them restores the cycle's progress into PAUSED with cause RESTORED, starting no stage and moving neither drum, heat nor blower.
That HSTG takes the stored target unclamped is the model's reading (log entry 14). -/
def Obligations.ContextLoadChecksThenRestores : Prop :=
  ∀ (tag : Byte) (payload : List Byte) (c : ContextRec) (f : InFrame) (s u : State),
    payload.length = 32 → c = contextOf payload → u = atOwner f s → requestDue 0x51 tag payload f s →
    (u.cpx.cycle ≠ .ready → exec (.contextLoad tag payload) s = .next (answered 0x51 tag [0x11] u)) ∧
    (u.cpx.cycle = .ready → tripBars u.trip = true →
      exec (.contextLoad tag payload) s = .next (answered 0x51 tag [0x19] u)) ∧
    (u.cpx.cycle = .ready → tripBars u.trip = false →
      ((crc16 (payload.take 30)).toNat ≠ wordAt payload 30 →
        exec (.contextLoad tag payload) s = .next (answered 0x51 tag [0x1C, 0x01] u)) ∧
      ((crc16 (payload.take 30)).toNat = wordAt payload 30 →
        (c.version ≠ 1 → exec (.contextLoad tag payload) s = .next (answered 0x51 tag [0x1C, 0x02] u)) ∧
        (c.version = 1 → ∀ head rest, u.cpx.plan = head :: rest →
          (c.held ≠ rest.length + 1 ∨ c.digest ≠ u.cpx.digest.toNat →
            exec (.contextLoad tag payload) s = .next (answered 0x51 tag [0x1C, 0x03] u)) ∧
          (c.held = rest.length + 1 → c.digest = u.cpx.digest.toNat →
            (head.maxDuration < c.stageElapsed →
              exec (.contextLoad tag payload) s = .next (answered 0x51 tag [0x1C, 0x04] u)) ∧
            (c.stageElapsed ≤ head.maxDuration →
              (¬ (-(u.profile.maxAdjust : Int) ≤ c.offset ∧ c.offset ≤ u.profile.maxAdjust ∧ c.pointer ≤ 3 ∧
                  (c.direction = 1 ∨ c.direction = 2) ∧ c.fPresent ≤ 1 ∧ c.dryLatched ≤ 1 ∧
                  (c.dryLatched = 1 → head.kind = .dry)) →
                exec (.contextLoad tag payload) s = .next (answered 0x51 tag [0x1C, 0x05] u)) ∧
              (-(u.profile.maxAdjust : Int) ≤ c.offset → c.offset ≤ u.profile.maxAdjust → c.pointer ≤ 3 →
                (c.direction = 1 ∨ c.direction = 2) → c.fPresent ≤ 1 → c.dryLatched ≤ 1 →
                (c.dryLatched = 1 → head.kind = .dry) →
                ∃ t, exec (.contextLoad tag payload) s = .next (answered 0x51 tag [0x00] t) ∧
                  t.cpx = { u.cpx with
                    cycle := .paused, pauseCause := some .restored, stageActive := true, ordinal := c.ordinal,
                    stageElapsed := c.stageElapsed, cycleElapsed := c.cycleElapsed, dryLatched := decide (c.dryLatched = 1),
                    endReason := .none } ∧
                  t.mest = { u.mest with
                    stage := some ⟨head.kind, c.ordinal,
                      if head.kind = .dry then some ⟨head.dryTarget, head.confirm, head.dryMinExhaust⟩ else none⟩
                    f := if c.fPresent = 1 then some c.fValue else none
                    sparse := c.sparse, sparseWarned := false, b := 0, drySignalled := decide (c.dryLatched = 1),
                    foldCounter := 0, trend := [], estimate := none } ∧
                  t.drum = { u.drum with
                    offset := c.offset
                    direction := if c.direction = 1 then .fwd else .rev
                    active := tableEntry u.drum head.pattern
                    activeIdx := head.pattern
                    reversalRun := 0, stageTangles := c.stageTangles, guardStage := decide (head.kind = .guard),
                    burstRevs := head.burstRevs, burst := u.drum.burst && decide (head.kind = .guard),
                    baseSum := 0, baseCount := 0, iBase := none, tangleRun := 0 } ∧
                  t.hstg.settings = some ⟨head.kind, c.ordinal,
                    if head.kind = .dry ∨ head.kind = .timed then some ⟨head.exhaustTarget, head.inletLimit⟩ else none⟩ ∧
                  t.hstg.heatEnable = false ∧ pointerCode t.hstg.pointer = c.pointer ∧
                  t.hstg.elements = u.hstg.elements ∧ t.hstg.onOrder = u.hstg.onOrder ∧
                  t.atu = u.atu ∧ t.saa = u.saa ∧ t.trip = u.trip ∧ t.efe = u.efe ∧ t.prof = u.prof ∧ t.paths = u.paths ∧
                  t.link = (report .cpx .info 0x50 [2, 5, 4]
                    (u.updCpx fun x => { x with cycleElapsed := c.cycleElapsed })).link))))))

/-! ### The machine profile, its store and the resets (chapter 12) -/

/-- Section 12.2: PROFILE_SET is refused BAD_LENGTH, BAD_STATE or BAD_FIELD in this order and then changes nothing; a record
that passes replaces the whole active profile with field 7 modulo 8, clamps the speed offset, aligns the element records with
the new currents and restarts or stops the silence timer; the stored copy, the profile source and the report level stay. Section
7.4 (R124): the grant list and the wait queue are empty and the surge IDLE when the new profile arrives; that the messages still
in flight about the current have been taken by then is the model's reading (log entry 18). PROFILE_GET answers the active
profile in every state and changes nothing. -/
def Obligations.ProfileSetReplacesTheProfile : Prop :=
  (∀ (tag : Byte) (payload : List Byte) (f : InFrame) (s : State), requestDue 0x02 tag payload f s →
    (payload.length ≠ 52 → exec (.profileSet tag payload) s = .next (answered 0x02 tag [0x13] (dequeued s))) ∧
    (payload.length = 52 → (atOwner f s).cpx.cycle ∉ [CycleState.idle, .ready, .done] →
      exec (.profileSet tag payload) s = .next (answered 0x02 tag [0x11] (atOwner f s))) ∧
    (payload.length = 52 → (atOwner f s).cpx.cycle ∈ [CycleState.idle, .ready, .done] →
      (∀ field, profileFault (profileOf payload) = some field →
        exec (.profileSet tag payload) s = .next (answered 0x02 tag [0x12, BitVec.ofNat 8 field, 0x00] (atOwner f s))) ∧
      (profileFault (profileOf payload) = none →
        ∃ (p : Profile) (elements : Elements),
          p = { profileOf payload with filterExp := (profileOf payload).filterExp % 8 } ∧
          exec (.profileSet tag payload) s = .next (answered 0x02 tag [0x00]
            { (atOwner f s) with
              prof := { (atOwner f s).prof with active := p }
              drum := { (atOwner f s).drum with
                offset := max (-(p.maxAdjust : Int)) (min p.maxAdjust (atOwner f s).drum.offset) }
              hstg := { (atOwner f s).hstg with elements := elements }
              saa := ⟨[], [], .idle, none, latestRequest (atOwner f s).paths.drumToSaa (atOwner f s).saa.txn⟩
              paths := { (atOwner f s).paths with hstgToSaa := [], saaToHstg := [], drumToSaa := [], saaToDrum := [] }
              link := { (atOwner f s).link with
                silence :=
                  if p.silenceTimeout = 0 then none
                  else if (atOwner f s).link.silence ≠ none ∨ (atOwner f s).profile.silenceTimeout = 0 then
                    some (p.silenceTimeout * 1000)
                  else none } }) ∧
          ∀ e : Element,
            (Profile.current p e = 0 → ((atOwner f s).elem e).state ∈ [ElementState.offReady, .offHold] →
              elements.get e = { (atOwner f s).elem e with state := .absent, minOff := none }) ∧
            (Profile.current p e ≠ 0 → ((atOwner f s).elem e).state = .absent →
              elements.get e = { (atOwner f s).elem e with state := .offHold, minOff := some (p.minOff * 1000) }) ∧
            (¬ (Profile.current p e = 0 ∧ ((atOwner f s).elem e).state ∈ [ElementState.offReady, .offHold]) →
              ¬ (Profile.current p e ≠ 0 ∧ ((atOwner f s).elem e).state = .absent) →
              elements.get e = (atOwner f s).elem e)))) ∧
  ∀ (tag : Byte) (f : InFrame) (s : State), requestDue 0x03 tag [] f s →
    exec (.profileGet tag []) s = .next (answered 0x03 tag (0x00 :: profileBytes (atOwner f s).profile) (atOwner f s))

/-- Sections 12.1 and 12.2: a profile record, every field within its width on the link, is accepted exactly when every checked
field lies in its range and the cross-checks hold, field 7 unchecked; a refusal names the first failing check in the order of
R196: the fields in field-number order, then the cross-checks in theirs. Section 8.2 and R131 step 4: a stage record is accepted
exactly when every used field of its kind lies in its range, and a refusal names the first failing one in field-number order. -/
def Obligations.RecordsAcceptedExactlyWhenInRange : Prop :=
  (∀ p : Profile, profileFits p →
     (profileFault p = none ↔
       (1 ≤ p.tachPulses ∧ p.tachPulses ≤ 64) ∧ p.windowStart ≤ 63 ∧ (1 ≤ p.windowLen ∧ p.windowLen ≤ 64) ∧
       (1 ≤ p.contactThreshold ∧ p.contactThreshold ≤ 4094) ∧ (1 ≤ p.minContacts ∧ p.minContacts ≤ 64) ∧
       (1 ≤ p.sparseLimit ∧ p.sparseLimit ≤ 255) ∧ p.current1 ≤ 1000 ∧ p.current2 ≤ 1000 ∧
       p.current3 ≤ 1000 ∧ p.current4 ≤ 1000 ∧ (1 ≤ p.baseLoad ∧ p.baseLoad ≤ 1000) ∧ (1 ≤ p.surge ∧ p.surge ≤ 1000) ∧
       (1 ≤ p.allowance ∧ p.allowance ≤ 65535) ∧ (1 ≤ p.grantTimeout ∧ p.grantTimeout ≤ 255) ∧ (1 ≤ p.minOn ∧ p.minOn ≤ 255) ∧
       (1 ≤ p.minOff ∧ p.minOff ≤ 255) ∧ (1 ≤ p.stageStep ∧ p.stageStep ≤ 255) ∧ (10 ≤ p.inletHyst ∧ p.inletHyst ≤ 255) ∧
       (p.policy = 1 ∨ p.policy = 2) ∧ (600 ≤ p.fireThreshold ∧ p.fireThreshold ≤ 2000) ∧
       (10 ≤ p.airflowMin ∧ p.airflowMin ≤ 500) ∧ (1 ≤ p.airflowGrace ∧ p.airflowGrace ≤ 60) ∧ p.late ≤ 255 ∧ p.early ≤ 255 ∧
       p.maxAdjust ≤ 127 ∧ (5 ≤ p.accelTime ∧ p.accelTime ≤ 255) ∧ (10 ≤ p.stopDetectTime ∧ p.stopDetectTime ≤ 255) ∧
       (1 ≤ p.stallTime ∧ p.stallTime ≤ 25) ∧ (1 ≤ p.tangleMargin ∧ p.tangleMargin ≤ 255) ∧
       (1 ≤ p.tangleRun ∧ p.tangleRun ≤ 32) ∧ p.silenceTimeout ≤ 255 ∧ (10 ≤ p.starveLimit ∧ p.starveLimit ≤ 255) ∧
       (300 ≤ p.runOnTemp ∧ p.runOnTemp ≤ 800) ∧ (1 ≤ p.runOnLimit ∧ p.runOnLimit ≤ 30) ∧
       (5 ≤ p.excessMargin ∧ p.excessMargin ≤ 500) ∧ p.pinResetEnable ≤ 1 ∧ p.linkResetEnable ≤ 1 ∧ p.reportLevel ≤ 3 ∧
       p.announce ≤ 1 ∧
       p.windowStart + p.windowLen ≤ p.tachPulses ∧ p.minContacts ≤ p.windowLen ∧ p.baseLoad + p.surge ≤ p.allowance ∧
       ∀ e : Element, Profile.current p e ≠ 0 → p.baseLoad + Profile.current p e ≤ p.allowance) ∧
     (∀ field, profileFault p = some field → 1 ≤ field ∧ field ≤ 40 ∧ field ≠ 7) ∧
     profileFault p = ((
       [(1, decide (1 ≤ p.tachPulses ∧ p.tachPulses ≤ 64)), (2, decide (p.windowStart ≤ 63)),
        (3, decide (1 ≤ p.windowLen ∧ p.windowLen ≤ 64)), (4, decide (1 ≤ p.contactThreshold ∧ p.contactThreshold ≤ 4094)),
        (5, decide (1 ≤ p.minContacts ∧ p.minContacts ≤ 64)), (6, decide (1 ≤ p.sparseLimit ∧ p.sparseLimit ≤ 255)),
        (8, decide (p.current1 ≤ 1000)), (9, decide (p.current2 ≤ 1000)),
        (10, decide (p.current3 ≤ 1000)), (11, decide (p.current4 ≤ 1000))] ++
       [(12, decide (1 ≤ p.baseLoad ∧ p.baseLoad ≤ 1000)), (13, decide (1 ≤ p.surge ∧ p.surge ≤ 1000)),
        (14, decide (1 ≤ p.allowance ∧ p.allowance ≤ 65535)), (15, decide (1 ≤ p.grantTimeout ∧ p.grantTimeout ≤ 255)),
        (16, decide (1 ≤ p.minOn ∧ p.minOn ≤ 255)), (17, decide (1 ≤ p.minOff ∧ p.minOff ≤ 255)),
        (18, decide (1 ≤ p.stageStep ∧ p.stageStep ≤ 255)), (19, decide (10 ≤ p.inletHyst ∧ p.inletHyst ≤ 255)),
        (20, decide (1 ≤ p.policy ∧ p.policy ≤ 2)), (21, decide (600 ≤ p.fireThreshold ∧ p.fireThreshold ≤ 2000))] ++
       [(22, decide (10 ≤ p.airflowMin ∧ p.airflowMin ≤ 500)), (23, decide (1 ≤ p.airflowGrace ∧ p.airflowGrace ≤ 60)),
        (24, decide (p.late ≤ 255)), (25, decide (p.early ≤ 255)),
        (26, decide (p.maxAdjust ≤ 127)), (27, decide (5 ≤ p.accelTime ∧ p.accelTime ≤ 255)),
        (28, decide (10 ≤ p.stopDetectTime ∧ p.stopDetectTime ≤ 255)), (29, decide (1 ≤ p.stallTime ∧ p.stallTime ≤ 25)),
        (30, decide (1 ≤ p.tangleMargin ∧ p.tangleMargin ≤ 255)), (31, decide (1 ≤ p.tangleRun ∧ p.tangleRun ≤ 32))] ++
       [(32, decide (p.silenceTimeout ≤ 255)), (33, decide (10 ≤ p.starveLimit ∧ p.starveLimit ≤ 255)),
        (34, decide (300 ≤ p.runOnTemp ∧ p.runOnTemp ≤ 800)), (35, decide (1 ≤ p.runOnLimit ∧ p.runOnLimit ≤ 30)),
        (36, decide (5 ≤ p.excessMargin ∧ p.excessMargin ≤ 500)), (37, decide (p.pinResetEnable ≤ 1)),
        (38, decide (p.linkResetEnable ≤ 1)), (39, decide (p.reportLevel ≤ 3)),
        (40, decide (p.announce ≤ 1))] ++
       [(3, decide (p.windowStart + p.windowLen ≤ p.tachPulses)),
        (5, decide (p.minContacts ≤ p.windowLen)),
        (14, decide (p.baseLoad + p.surge ≤ p.allowance)),
        (8, decide (p.current1 ≠ 0 → p.baseLoad + p.current1 ≤ p.allowance)),
        (9, decide (p.current2 ≠ 0 → p.baseLoad + p.current2 ≤ p.allowance)),
        (10, decide (p.current3 ≠ 0 → p.baseLoad + p.current3 ≤ p.allowance)),
        (11, decide (p.current4 ≠ 0 → p.baseLoad + p.current4 ≤ p.allowance))] : List (Nat × Bool)).find? fun check => !check.2).map (·.1)) ∧
  (∀ (r : StageRec) (last : Bool),
     (stageFault r last = none ↔
       (r.final = true → last = true) ∧ r.pattern ≤ 7 ∧ 1 ≤ r.maxDuration ∧
         (r.kind = .dry ∨ r.kind = .timed → -400 ≤ r.exhaustTarget ∧ r.exhaustTarget ≤ 3000 ∧ -400 ≤ r.inletLimit ∧ r.inletLimit ≤ 3000) ∧
         (r.kind = .dry → 1 ≤ r.confirm ∧ -400 ≤ r.dryMinExhaust ∧ r.dryMinExhaust ≤ 3000) ∧
         (r.kind = .dry ∨ r.kind = .cool → r.minDuration ≤ r.maxDuration) ∧
         (r.kind = .cool → -400 ≤ r.coolTo ∧ r.coolTo ≤ 3000) ∧
         (r.kind = .guard → 10 ≤ r.guardInterval ∧ r.guardInterval ≤ 3600 ∧ 1 ≤ r.burstRevs)) ∧
     (∀ field, stageFault r last = some field → field ∈ [2, 3, 4, 5, 7, 8, 10, 11, 12, 13]) ∧
     stageFault r last = ((
       [(2, decide (r.final = true → last = true)), (3, decide (r.pattern ≤ 7)),
        (4, decide (r.kind = .dry ∨ r.kind = .timed → -400 ≤ r.exhaustTarget ∧ r.exhaustTarget ≤ 3000)),
        (5, decide (r.kind = .dry ∨ r.kind = .timed → -400 ≤ r.inletLimit ∧ r.inletLimit ≤ 3000)),
        (7, decide (r.kind = .dry → 1 ≤ r.confirm)),
        (8, decide (r.kind = .dry → -400 ≤ r.dryMinExhaust ∧ r.dryMinExhaust ≤ 3000)),
        (10, decide (1 ≤ r.maxDuration ∧ (r.kind = .dry ∨ r.kind = .cool → r.minDuration ≤ r.maxDuration))),
        (11, decide (r.kind = .cool → -400 ≤ r.coolTo ∧ r.coolTo ≤ 3000)),
        (12, decide (r.kind = .guard → 10 ≤ r.guardInterval ∧ r.guardInterval ≤ 3600)),
        (13, decide (r.kind = .guard → 1 ≤ r.burstRevs))] : List (Nat × Bool)).find? fun check => !check.2).map (·.1))

/-- Sections 11.7 and 12.1: the 52 bytes of a profile record carry every field of a profile whose fields fit their widths, and
the record read back is the profile sent. Section 11.7: the 20 bytes of a stage record carry every field of the record, and its
range check passes exactly when the record's does. Section 11.7: the 32 bytes of a context record carry every field of the
record and pass its own check value. Section 11.7: the 16 bytes of a Revolution record and a report's payload carry each field
at its place, m_rev as 0 where it is absent. -/
def Obligations.RecordsSurviveTheLink : Prop :=
  (∀ p : Profile, profileFits p → (profileBytes p).length = 52 ∧ profileOf (profileBytes p) = p) ∧
  (∀ r : StageRec, stageFits r → (stageBytes r).length = 20 ∧ stageOf (stageBytes r) = some r) ∧
  (∀ c : ContextRec, contextFits c →
     (contextBytes c).length = 32 ∧ contextOf (contextBytes c) = c ∧
       (crc16 ((contextBytes c).take 30)).toNat = wordAt (contextBytes c) 30) ∧
  (∀ r : RevRecord, revFits r →
     (revBytes r).length = 16 ∧ wordAt (revBytes r) 0 = r.number ∧
     byteAt (revBytes r) 2 = (match r.direction with
       | .fwd => 1
       | .rev => 2) ∧
     wordAt (revBytes r) 3 = r.period ∧ byteAt (revBytes r) 5 = r.tach ∧
     byteAt (revBytes r) 6 = (match r.state with
       | .stopped => 1
       | .surgeWait => 2
       | .accel => 3
       | .run => 4
       | .decelStop => 5
       | .decelReverse => 6
       | .dwell => 7) ∧
     byteAt (revBytes r) 7 = r.lock.toNat ∧
     byteAt (revBytes r) 8 = (match r.cls with
       | .steady => 1
       | .ramp => 2
       | .malformed => 3) ∧
     wordAt (revBytes r) 9 = r.iRev ∧ byteAt (revBytes r) 11 = r.m ∧ byteAt (revBytes r) 12 = r.k ∧
     byteAt (revBytes r) 13 = (match r.outcome with
       | .folded => 1
       | .sparse => 2
       | .sparseAsDry => 3
       | .skipped => 4) ∧
     (r.mRev = none → wordAt (revBytes r) 14 = 0) ∧ ∀ v, r.mRev = some v → wordAt (revBytes r) 14 = v) ∧
  (∀ q : Report, q.seconds < 4294967296 →
     (reportFrame q).kind = 0x70 ∧ (reportFrame q).tag = 0 ∧ (reportFrame q).payload.length = 7 + q.data.length ∧
     byteAt (reportFrame q).payload 0 = (match q.source with
       | .link => 1
       | .prof => 2
       | .drum => 3
       | .mest => 4
       | .hstg => 5
       | .saa => 6
       | .cpx => 7
       | .trip => 8) ∧
     byteAt (reportFrame q).payload 1 = (match q.severity with
       | .error => 1
       | .warning => 2
       | .info => 3) ∧
     byteAt (reportFrame q).payload 2 = q.code.toNat ∧ longAt (reportFrame q).payload 3 = q.seconds ∧
     (reportFrame q).payload.drop 7 = q.data)

/-- Section 12.3: PROFILE_STORE is refused BAD_STATE or BUSY, or snapshots the active profile and starts its write; the verify
that ends a write sets the last result and gives STORE_DONE or STORE_FAILED, and the store holds what was read back. That the
check value stands high byte first in the copy is the model's choice (log entry 37). -/
def Obligations.ProfileStoreSnapshotsThenVerifies : Prop :=
  (∀ (tag : Byte) (f : InFrame) (s : State), requestDue 0x04 tag [] f s →
    ((atOwner f s).cpx.cycle ∉ [CycleState.idle, .ready, .done] →
      exec (.profileStore tag []) s = .next (answered 0x04 tag [0x11] (atOwner f s))) ∧
    ((atOwner f s).cpx.cycle ∈ [CycleState.idle, .ready, .done] → (atOwner f s).prof.write ≠ none →
      exec (.profileStore tag []) s = .next (answered 0x04 tag [0x10] (atOwner f s))) ∧
    ((atOwner f s).cpx.cycle ∈ [CycleState.idle, .ready, .done] → (atOwner f s).prof.write = none →
      exec (.profileStore tag []) s = .next
        (answered 0x04 tag [0x00]
          ((atOwner f s).updProf fun q =>
            { q with
              write := some (0x01 :: (profileBytes q.active ++ crcBytes (crc16 (0x01 :: profileBytes q.active)))) })))) ∧
  ∀ (copy : List Byte) (s : State), s.prof.write = some copy →
    exec (.storeVerify copy) s = .next
      (report .prof .info 0x11 [] (s.updProf fun q => { q with write := none, lastResult := .ok, stored := copy })) ∧
    ∀ readBack, readBack ≠ copy →
      exec (.storeVerify readBack) s = .next
        (report .prof .error 0x12 [] (s.updProf fun q => { q with write := none, lastResult := .failed, stored := readBack }))

/-- Sections 12.3 and 12.4: a stored copy that PROFILE_STORE wrote and the verify matched is the profile the next POWER_ON and
BROWN_OUT load, with source STORED and the filter exponent masked as R57 and R195 say of every profile applied. Section 12.4
(R199): what POWER_ON and BROWN_OUT load from each kind of stored copy when no write was in flight: the factory defaults with
reason 1 where the check value fails, with reason 2 where the version is not 1; the store itself is not rewritten. That a copy
with a good check value and version is taken with its fields unchecked is the model's reading (log entry 27). That the check
value stands high byte first in it is the model's choice (log entry 37). -/
def Obligations.StoredCopyIsJudgedAndLoaded : Prop :=
  (∀ (p : Profile) (s : State), profileFits p → s.prof.write = none → s.prof.stored = storedCopy p →
     ∃ t u, exec .powerOn s = .next t ∧ t.profile = { p with filterExp := p.filterExp % 8 } ∧ t.prof.source = .stored ∧
       t.prof.lastReset = .powerOn ∧
       exec .brownOut s = .next u ∧ u.profile = { p with filterExp := p.filterExp % 8 } ∧ u.prof.source = .stored ∧ u.prof.lastReset = .brownOut) ∧
  (∀ (c : Instr) (s : State), c = .powerOn ∨ c = .brownOut → s.prof.write = none →
     ∃ t, exec c s = .next t ∧ t.prof.stored = s.prof.stored ∧
       (s.prof.stored.length ≠ 55 ∨ (crc16 (s.prof.stored.take 53)).toNat ≠ wordAt s.prof.stored 53 →
         t.profile = factoryProfile ∧ t.prof.source = .defaults ∧
           t.link.reports = [upReport t.prof.lastReset .defaults, profileDefaultedReport 1]) ∧
       (s.prof.stored.length = 55 → (crc16 (s.prof.stored.take 53)).toNat = wordAt s.prof.stored 53 →
         (byteAt s.prof.stored 0 ≠ 1 →
           t.profile = factoryProfile ∧ t.prof.source = .defaults ∧
             t.link.reports = [upReport t.prof.lastReset .defaults, profileDefaultedReport 2]) ∧
         (byteAt s.prof.stored 0 = 1 →
           ∀ p, p = profileOf ((s.prof.stored.drop 1).take 52) →
             t.profile = { p with filterExp := p.filterExp % 8 } ∧ t.prof.source = .stored)))

/-- The reset tables of every chapter (R21, R39, R55, R73, R90, R110, R126, R150, R179, R194, R200, R201): every reset cause
leaves the same state, from the profile in force after it, which PIN and LINK keep; PIN is ignored with its enable off. LINK is
open again and no silence stands (R174, R182). POWER_ON and BROWN_OUT load it, and the PROFILE_DEFAULTED warning they give is
the one R199 names for the stored copy; the copy itself stays when no write was in flight. That the paths between blocks empty
and the levels on the pins and the waiting commands stay is the model's reading (log entry 30). The state the model starts from
is the one POWER_ON leaves, and holds the reset tables with the factory defaults. The never-written store and the two CLOSED
pins are the model's choice (log entries 7 and 8). -/
def Obligations.EveryResetLeavesTheResetState : Prop :=
  (∀ s : State,
     (∃ t, exec .powerOn s = .next t ∧ resetDone .powerOn (loadReason t.prof.stored) s t ∧
       (s.prof.write = none → t.prof.stored = s.prof.stored)) ∧
     (∃ t, exec .brownOut s = .next t ∧ resetDone .brownOut (loadReason t.prof.stored) s t ∧
       (s.prof.write = none → t.prof.stored = s.prof.stored)) ∧
     (s.profile.pinResetEnable = 1 →
       ∃ t, exec .pinReset s = .next t ∧ resetDone .pin none s t ∧ t.profile = s.profile ∧ t.prof.source = s.prof.source ∧
         (s.prof.write = none → t.prof.stored = s.prof.stored)) ∧
     (s.profile.pinResetEnable ≠ 1 → exec .pinReset s = .next s) ∧
     (s.link.closing = .replyTaken → s.link.slot = none → s.link.inbound = [] → s.link.line = none →
       ∃ t, exec .linkResetFollows s = .next t ∧ resetDone .link none s t ∧ t.profile = s.profile ∧
         t.prof.source = s.prof.source ∧ (s.prof.write = none → t.prof.stored = s.prof.stored))) ∧
  (exec .powerOn State.reset = .next State.reset ∧ resetDone .powerOn (some 1) State.reset State.reset ∧
     State.reset.profile = factoryProfile ∧ State.reset.pending = [])

/-! ### The supply allowance arbiter (chapter 7) -/

/-- Section 7.4: ALLOWANCE_SET is refused BAD_FIELD, field 1, below base load plus surge or base load plus the largest fitted
current; otherwise it sets the active profile's allowance and answers OK. A decrease sheds entries of the grant list, newest
first, until headroom is at least 0, and gives ALLOWANCE_SHED when it shed any; a raise or an unchanged value sheds nothing.
Then a PENDING surge is re-checked, unless the value is unchanged, and with it granted, or not PENDING, the queue is served. A
decrease leaves headroom at 0 or more, and a GRANTED surge is kept. That the report stands before the service is the model's
reading (log entry 21); what the sheds and the service do is in `ShedsTakeTheNewestUntilTheNeedIsMet` and
`QueueServiceGrantsTheHeadsThatFit`. -/
def Obligations.AllowanceSetMovesTheAllowance : Prop :=
  ∀ (tag high low : Byte) (f : InFrame) (s : State) (v : Nat), v = high.toNat * 256 + low.toNat →
    requestDue 0x05 tag [high, low] f s →
    (v < (atOwner f s).profile.baseLoad + (atOwner f s).profile.surge ∨
        (∃ e, v < (atOwner f s).profile.baseLoad + Profile.current (atOwner f s).profile e) →
      exec (.allowanceSet tag [high, low]) s = .next (answered 0x05 tag [0x12, 0x01, 0x00] (atOwner f s))) ∧
    ((atOwner f s).profile.baseLoad + (atOwner f s).profile.surge ≤ v →
      (∀ e, (atOwner f s).profile.baseLoad + Profile.current (atOwner f s).profile e ≤ v) →
      ∃ t, exec (.allowanceSet tag [high, low]) s = .next (answered 0x05 tag [0x00] t) ∧
        t.prof = { (atOwner f s).prof with active := { (atOwner f s).profile with allowance := v } } ∧
        ((atOwner f s).saa.surge ≠ .pending → t.saa.surge = (atOwner f s).saa.surge) ∧
        ((atOwner f s).profile.allowance ≤ v → ∃ added, t.saa.grants = (atOwner f s).saa.grants ++ added) ∧
        (v < (atOwner f s).profile.allowance → 0 ≤ t.headroom) ∧
        t.atu = (atOwner f s).atu ∧ t.hstg = (atOwner f s).hstg ∧ t.drum = (atOwner f s).drum ∧ t.efe = (atOwner f s).efe ∧
        t.mest = (atOwner f s).mest ∧ t.cpx = (atOwner f s).cpx ∧ t.trip = (atOwner f s).trip) ∧
    ((atOwner f s).profile.baseLoad + (atOwner f s).profile.surge ≤ v →
      (∀ e, (atOwner f s).profile.baseLoad + Profile.current (atOwner f s).profile e ≤ v) →
      ∀ u : State, u = (atOwner f s).updProf (fun q => { q with active := { q.active with allowance := v } }) →
      ∀ w : State, w = (if v < (atOwner f s).profile.allowance then shedUntil 0 (allNewest u.saa) u else u) →
      ∀ x : State, x = (if w.saa.grants.length < u.saa.grants.length then
          report .saa .warning 0x49
            (u16 v ++ u8 (u.saa.grants.length - w.saa.grants.length) ++ u16 (grantedTotal w.profile w.saa)) w else w) →
        (x.saa.surge ≠ .pending → exec (.allowanceSet tag [high, low]) s = .next (answered 0x05 tag [0x00] (serveQueue x))) ∧
        (x.saa.surge = .pending → v ≠ (atOwner f s).profile.allowance → (x.profile.surge : Int) ≤ x.headroom →
          exec (.allowanceSet tag [high, low]) s = .next (answered 0x05 tag [0x00] (serveQueue (grantSurge x)))) ∧
        (x.saa.surge = .pending → v = (atOwner f s).profile.allowance ∨ x.headroom < x.profile.surge →
          exec (.allowanceSet tag [high, low]) s = .next (answered 0x05 tag [0x00] x)))

/-- Section 7.2 (R116): a service of the wait queue outside PENDING grants the heads in order while each fits, stops at the
first that does not, and hands HSTG the grants in queue order; while the surge is PENDING it grants nothing. -/
def Obligations.QueueServiceGrantsTheHeadsThatFit : Prop :=
  ∀ s : State,
    (s.saa.surge = .pending → serveQueue s = s) ∧
    (s.saa.surge ≠ .pending →
      ∃ served waiting : List WaitEntry, s.saa.queue = served ++ waiting ∧
        serveQueue s =
          { s with
            saa := { s.saa with queue := waiting, grants := s.saa.grants ++ served.map fun w => ⟨w.element, w.current, false⟩ }
            paths := { s.paths with saaToHstg := s.paths.saaToHstg ++ served.map fun w => .grant w.element } } ∧
        (served ≠ [] → ((served.map (·.current)).sum : Int) ≤ s.headroom) ∧
        ∀ w, waiting.head? = some w → s.headroom < ((served.map (·.current)).sum : Int) + w.current)

/-- Section 7.3 (R118, R119, R122): sheds take entries newest first, stopping at the first after which headroom reaches what is
needed; each leaves the grant list and is handed to HSTG. The sheds of R118 take the free entries alone, newest first, and stop
in the same way, or when no free entry is left. -/
def Obligations.ShedsTakeTheNewestUntilTheNeedIsMet : Prop :=
  ∀ (need : Int) (s : State), (s.saa.grants.map (·.element)).Nodup →
    ∃ kept shed : List GrantEntry, s.saa.grants = kept ++ shed ∧
      shedUntil need (allNewest s.saa) s =
        { s with
          saa := { s.saa with grants := kept }
          paths := { s.paths with saaToHstg := s.paths.saaToHstg ++ shed.reverse.map fun g => .shed g.element } } ∧
      (kept ≠ [] → need ≤ (shedUntil need (allNewest s.saa) s).headroom) ∧
      (∀ g rest, shed = g :: rest → s.headroom + grantSum rest < need) ∧
    ∃ taken left : List GrantEntry, (s.saa.grants.filter (·.free)).reverse = taken ++ left ∧
      shedUntil need (freeNewest s.saa) s =
        { s with
          saa := { s.saa with grants := s.saa.grants.filter fun g => !(taken.map (·.element)).contains g.element }
          paths := { s.paths with saaToHstg := s.paths.saaToHstg ++ taken.map fun g => .shed g.element } } ∧
      (left ≠ [] → need ≤ (shedUntil need (freeNewest s.saa) s).headroom) ∧
      ∀ before last, taken = before ++ [last] → s.headroom + grantSum before < need

/-- Sections 7.2 and 7.3 (R114, R115, R118): what SAA does with each of HSTG's four messages, by where the element stands. -/
def Obligations.ArbiterTakesElementMessages : Prop :=
  ∀ (e : Element) (s : State) (rest : List HstgMsg) (u : State), u = s.updPaths (fun p => { p with hstgToSaa := rest }) →
    (∀ i, s.paths.hstgToSaa = .request e i :: rest →
      (granted e s.saa = true ∨ queued e s.saa = true → exec (.elementRequest e i) s = .next u) ∧
      (granted e s.saa = false → queued e s.saa = false → s.saa.surge ≠ .pending → (i : Int) ≤ s.headroom →
        exec (.elementRequest e i) s = .next
          { u with
            saa := { s.saa with grants := s.saa.grants ++ [⟨e, i, false⟩] }
            paths := { u.paths with saaToHstg := s.paths.saaToHstg ++ [.grant e] } }) ∧
      (granted e s.saa = false → queued e s.saa = false → s.saa.surge = .pending ∨ s.headroom < i →
        exec (.elementRequest e i) s = .next { u with saa := { s.saa with queue := s.saa.queue ++ [⟨e, i⟩] } })) ∧
    (s.paths.hstgToSaa = .withdrawal e :: rest →
      (granted e s.saa = true ∨ queued e s.saa = false → exec (.elementWithdrawal e) s = .next u) ∧
      (granted e s.saa = false → queued e s.saa = true →
        ∀ v : State, v = { u with saa := { s.saa with queue := s.saa.queue.filter fun w => w.element ≠ e } } →
          ((s.saa.queue.head?.map (·.element)) ≠ some e → exec (.elementWithdrawal e) s = .next v) ∧
          ((s.saa.queue.head?.map (·.element)) = some e → exec (.elementWithdrawal e) s = .next (serveQueue v)))) ∧
    (s.paths.hstgToSaa = .release e :: rest →
      (granted e s.saa = false → exec (.elementRelease e) s = .next u) ∧
      (granted e s.saa = true →
        ∀ v : State, v = { u with saa := { s.saa with grants := s.saa.grants.filter fun g => g.element ≠ e } } →
          (s.saa.surge ≠ .pending → exec (.elementRelease e) s = .next (serveQueue v)) ∧
          (s.saa.surge = .pending → v.headroom < s.profile.surge → exec (.elementRelease e) s = .next v) ∧
          (s.saa.surge = .pending → (s.profile.surge : Int) ≤ v.headroom →
            exec (.elementRelease e) s = .next (serveQueue (grantSurge v))))) ∧
    (s.paths.hstgToSaa = .onFree e :: rest →
      (granted e s.saa = false → exec (.onFreeNotice e) s = .next u) ∧
      (granted e s.saa = true → s.saa.surge ≠ .pending →
        exec (.onFreeNotice e) s = .next
          { u with
            saa := { s.saa with grants := s.saa.grants.map fun g => if g.element = e then { g with free := true } else g } }) ∧
      (granted e s.saa = true → s.saa.surge = .pending →
        ∀ v : State, v = { u with
            saa := { s.saa with grants := s.saa.grants.filter fun g => g.element ≠ e }
            paths := { u.paths with saaToHstg := s.paths.saaToHstg ++ [.shed e] } } →
          (v.headroom < s.profile.surge → exec (.onFreeNotice e) s = .next v) ∧
          ((s.profile.surge : Int) ≤ v.headroom → exec (.onFreeNotice e) s = .next (serveQueue (grantSurge v)))))

/-- Section 7.3: the grant of a surge sets it GRANTED, cancels the grant timer and hands DRUM the grant under the request's
number. Section 7.3 (R117, R119, R120): what SAA does with DRUM's three messages and with the grant timer. That an ignored
request leaves the number SAA holds as it is, is the model's reading (log entry 17); where the report of a forced grant stands
is another (21). -/
def Obligations.ArbiterTakesSurgeMessages : Prop :=
  (∀ (n : Byte) (s : State), s.saa.txn = some n →
     grantSurge s =
       { s with
         saa := { s.saa with surge := .granted, grantTimer := none }
         paths := { s.paths with saaToDrum := s.paths.saaToDrum ++ [n] } }) ∧
  (∀ (n : Byte) (s : State) (rest : List DrumMsg) (u : State), u = s.updPaths (fun p => { p with drumToSaa := rest }) →
     (s.paths.drumToSaa = .request n :: rest →
       (s.saa.surge ≠ .idle → exec (.surgeRequest n) s = .next u) ∧
       (s.saa.surge = .idle → (s.profile.surge : Int) ≤ s.headroom →
         exec (.surgeRequest n) s = .next
           { u with
             saa := { s.saa with surge := .granted, txn := some n, grantTimer := none }
             paths := { u.paths with saaToDrum := s.paths.saaToDrum ++ [n] } }) ∧
       (s.saa.surge = .idle → s.headroom < s.profile.surge →
         ∀ v : State, v = shedUntil s.profile.surge (freeNewest s.saa)
             { u with saa := { s.saa with surge := .pending, txn := some n } } →
           ((s.profile.surge : Int) ≤ v.headroom → exec (.surgeRequest n) s = .next (serveQueue (grantSurge v))) ∧
           (v.headroom < s.profile.surge →
             exec (.surgeRequest n) s = .next
               (v.updSaa fun a => { a with grantTimer := some (s.profile.grantTimeout * 100) })))) ∧
     (s.paths.drumToSaa = .release n :: rest →
       (s.saa.txn = some n → s.saa.surge = .granted →
         exec (.surgeRelease n) s = .next (serveQueue { u with saa := { s.saa with surge := .idle, grantTimer := none } })) ∧
       (s.saa.txn ≠ some n ∨ s.saa.surge ≠ .granted → exec (.surgeRelease n) s = .next u)) ∧
     (s.paths.drumToSaa = .withdrawal n :: rest →
       (s.saa.txn = some n → s.saa.surge ≠ .idle →
         exec (.surgeWithdrawal n) s = .next (serveQueue { u with saa := { s.saa with surge := .idle, grantTimer := none } })) ∧
       (s.saa.txn ≠ some n ∨ s.saa.surge = .idle → exec (.surgeWithdrawal n) s = .next u)) ∧
     (s.saa.grantTimer ≠ none → s.saa.surge = .pending →
       ∀ v w : State, v = shedUntil s.profile.surge (allNewest s.saa) (s.updSaa fun a => { a with grantTimer := none }) →
         (s.profile.surge : Int) ≤ v.headroom → w = grantSurge v →
         exec .grantTimerExpiry s = .next
           (serveQueue (raiseFlag .grantForced
             (report .saa .warning 0x48
               (BitVec.ofNat 8 (s.saa.grants.length - w.saa.grants.length) :: u16 w.headroom.toNat) w)))))

/-- Section 7.1 (R111, R112): no element stands twice in SAA's account and the currents granted to elements and surge keep
within the allowance less the base load, through every command, a PROFILE_SET included; reset has the account so. The premise is
on a reset alone: a profile that POWER_ON or BROWN_OUT loads has its base load within its allowance, as the check of PROFILE_SET
leaves it (log entry 27). -/
def Obligations.AccountFitsAndHoldsNoneTwice : Prop :=
  (accountHoldsNoneTwice State.reset ∧ accountFits State.reset) ∧
    ∀ (c : Instr) (rest : List Instr) (s t : State), s.pending = c :: rest →
      (c = .powerOn ∨ c = .brownOut →
        (loadStore (storeAfterReset s)).1.baseLoad ≤ (loadStore (storeAfterReset s)).1.allowance) →
      accountHoldsNoneTwice s → accountFits s → step s = .next t → accountHoldsNoneTwice t ∧ accountFits t

/-! ### The heat stager (chapter 6) -/

/-- Sections 6.5, 6.6 and 6.8 (R100 to R103, R106): what HSTG does with a grant, a shed and the expiry of a hold, by the
element's state. The gate read at a grant is ATU's present state (log entry 16: the model's reading). -/
def Obligations.StagerTakesGrantsShedsAndHolds : Prop :=
  ∀ (e : Element) (s : State) (rest : List SaaMsg) (u : State), u = s.updPaths (fun p => { p with saaToHstg := rest }) →
    (s.paths.saaToHstg = .grant e :: rest →
      ((s.elem e).state = .waitGrant → (s.elem e).requested = true → energizeGate s.atu = true →
        exec (.elementGrant e) s = .next
          { u with
            hstg := { s.hstg with
              elements := s.hstg.elements.set e { s.elem e with
                state := .onHold, requested := false, onSince := some s.cpx.cycleElapsed,
                onCount := bump 65535 (s.elem e).onCount, minOn := some (s.profile.minOn * 1000) }
              onOrder := s.hstg.onOrder ++ [e] } }) ∧
      ((s.elem e).state = .waitGrant → (s.elem e).requested = true → energizeGate s.atu = false →
        exec (.elementGrant e) s = .next
          { u with
            hstg := { s.hstg with elements := s.hstg.elements.set e { s.elem e with requested := false } }
            paths := { u.paths with hstgToSaa := s.paths.hstgToSaa ++ [.release e] } }) ∧
      (¬ ((s.elem e).state = .waitGrant ∧ (s.elem e).requested = true) →
        exec (.elementGrant e) s = .next { u with paths := { u.paths with hstgToSaa := s.paths.hstgToSaa ++ [.release e] } })) ∧
    (s.paths.saaToHstg = .shed e :: rest →
      (∀ cause, (s.elem e).state = .onFree ∧ cause = OffCause.shed ∨ (s.elem e).state = .onHold ∧ cause = OffCause.forced →
        exec (.shed e) s = .next (applyDemand
          { u with
            hstg := { s.hstg with
              elements := s.hstg.elements.set e { s.elem e with
                state := .offHold, requested := false, lastOff := cause, minOn := none,
                minOff := some (s.profile.minOff * 1000) }
              onOrder := s.hstg.onOrder.erase e } })) ∧
      ((s.elem e).state.energized = false → exec (.shed e) s = .next u)) ∧
    ((s.elem e).minOn ≠ none → (s.elem e).state = .onHold →
      ∀ v, v = applyDemand { s with
          hstg := { s.hstg with elements := s.hstg.elements.set e { s.elem e with state := .onFree, minOn := none } } } →
        ((v.elem e).state = .onFree →
          exec (.minOnExpiry e) s = .next (v.updPaths fun p => { p with hstgToSaa := p.hstgToSaa ++ [.onFree e] })) ∧
        ((v.elem e).state ≠ .onFree → exec (.minOnExpiry e) s = .next v)) ∧
    ((s.elem e).minOff ≠ none → (s.elem e).state = .offHold →
      exec (.minOffExpiry e) s = .next (applyDemand { s with
        hstg := { s.hstg with elements := s.hstg.elements.set e { s.elem e with state := .offReady, minOff := none } } }))

/-- Section 6.4 (R97 to R99): applying demand leaves D as it is, changes only element records, the on-order list, the rotation
pointer and what HSTG hands SAA, and moves the active count toward D: an excess leaves at most the elements in ON_HOLD above D,
a lack is filled up to the elements in OFF_READY, and no element in ON_HOLD, OFF_HOLD or ABSENT changes state. Sections 6.1 and
6.4 (R93, R98, R99): which elements go, and in what order. A lack chooses OFF_READY elements, FIXED the lowest number first with
the pointer kept, ROTATE from the pointer, E1 after E4, with the pointer moved past the last one chosen, and hands SAA their
requests in that order. An excess takes waiting elements first, the highest number first, each to OFF_READY, a requested one
withdrawn and a held-back one with nothing to hand, and then ON_FREE elements, ROTATE the oldest first, FIXED the highest first,
each to OFF_HOLD with cause NORMAL and its release. The case of a single element is stated a second time, without the sound
on-order list. -/
def Obligations.AppliedDemandChoosesByPolicy : Prop :=
  (∀ s : State, onOrderSound s →
     (applyDemand s).hstg.demand = s.hstg.demand ∧
     (∀ e, (s.elem e).state ∈ [ElementState.onHold, .offHold, .absent] → ((applyDemand s).elem e).state = (s.elem e).state) ∧
     (activeCount s.hstg ≤ s.hstg.demand →
       activeCount (applyDemand s).hstg =
         min s.hstg.demand (activeCount s.hstg + (allElements.filter fun e => (s.elem e).state = .offReady).length)) ∧
     (s.hstg.demand ≤ activeCount s.hstg →
       activeCount (applyDemand s).hstg =
         max s.hstg.demand (allElements.filter fun e => (s.elem e).state = .onHold).length) ∧
     (∃ (elements : Elements) (onOrder : List Element) (pointer : Element) (sent : List HstgMsg), applyDemand s =
       { s with
         hstg := { s.hstg with elements := elements, onOrder := onOrder, pointer := pointer }
         paths := { s.paths with hstgToSaa := s.paths.hstgToSaa ++ sent } }) ∧
     (s.hstg.demand = activeCount s.hstg → applyDemand s = s) ∧
     (∀ chosen : List Element,
       chosen = ((if s.profile.policy = 2 then scanFrom s.hstg.pointer else allElements).filter
         fun e => decide ((s.elem e).state = .offReady)).take (s.hstg.demand - activeCount s.hstg) →
       activeCount s.hstg < s.hstg.demand →
         (∀ e, (applyDemand s).elem e =
           if e ∈ chosen then { s.elem e with state := .waitGrant, requested := true } else s.elem e) ∧
         (applyDemand s).paths.hstgToSaa =
           s.paths.hstgToSaa ++ chosen.map (fun e => .request e (Profile.current s.profile e)) ∧
         (applyDemand s).hstg.onOrder = s.hstg.onOrder ∧
         (applyDemand s).hstg.pointer =
           (if s.profile.policy = 2 then (chosen.getLast?.map nextElement).getD s.hstg.pointer else s.hstg.pointer)) ∧
     (∀ x : Nat, x = activeCount s.hstg - s.hstg.demand →
       ∀ waiting : List Element,
         waiting = (allElements.reverse.filter fun e => decide ((s.elem e).state = .waitGrant)).take x →
       ∀ off : List Element,
         off = ((if s.profile.policy = 2 then s.hstg.onOrder else allElements.reverse).filter
           fun e => decide ((s.elem e).state = .onFree)).take (x - waiting.length) →
       s.hstg.demand < activeCount s.hstg →
         (∀ e, (applyDemand s).elem e =
           if e ∈ waiting then { s.elem e with state := .offReady, requested := false }
           else if e ∈ off then { s.elem e with
             state := .offHold, requested := false, lastOff := .normal, minOn := none, minOff := some (s.profile.minOff * 1000) }
           else s.elem e) ∧
         (applyDemand s).paths.hstgToSaa = s.paths.hstgToSaa ++
           (waiting.flatMap fun e => if (s.elem e).requested = true then [.withdrawal e] else []) ++ off.map .release ∧
         (applyDemand s).hstg.onOrder = s.hstg.onOrder.filter (fun e => decide (e ∉ off)) ∧
         (applyDemand s).hstg.pointer = s.hstg.pointer)) ∧
  (∀ (s : State) (e : Element),
     (s.hstg.demand = activeCount s.hstg + 1 → (s.elem e).state = .offReady →
       (s.profile.policy ≠ 2 →
         (∀ e' ∈ allElements.takeWhile (· ≠ e), (s.elem e').state ≠ .offReady) →
         ((applyDemand s).elem e) = { s.elem e with state := .waitGrant, requested := true } ∧
           (applyDemand s).hstg.pointer = s.hstg.pointer ∧
           (applyDemand s).paths.hstgToSaa = s.paths.hstgToSaa ++ [.request e (Profile.current s.profile e)]) ∧
       (s.profile.policy = 2 →
         (∀ e' ∈ (scanFrom s.hstg.pointer).takeWhile (· ≠ e), (s.elem e').state ≠ .offReady) →
         ((applyDemand s).elem e) = { s.elem e with state := .waitGrant, requested := true } ∧
           (applyDemand s).hstg.pointer = nextElement e ∧
           (applyDemand s).paths.hstgToSaa = s.paths.hstgToSaa ++ [.request e (Profile.current s.profile e)])) ∧
     (activeCount s.hstg = s.hstg.demand + 1 →
       ((s.elem e).state = .waitGrant → (s.elem e).requested = true →
         (∀ e' ∈ allElements.reverse.takeWhile (· ≠ e), (s.elem e').state ≠ .waitGrant) →
         ((applyDemand s).elem e) = { s.elem e with state := .offReady, requested := false } ∧
           (applyDemand s).paths.hstgToSaa = s.paths.hstgToSaa ++ [.withdrawal e]) ∧
       ((∀ e', (s.elem e').state ≠ .waitGrant) → (s.elem e).state = .onFree →
         (∀ e' ∈ (if s.profile.policy = 2 then s.hstg.onOrder else allElements.reverse).takeWhile (· ≠ e),
           (s.elem e').state ≠ .onFree) → e ∈ s.hstg.onOrder →
         ((applyDemand s).elem e) = { s.elem e with
             state := .offHold, requested := false, lastOff := .normal, minOn := none, minOff := some (s.profile.minOff * 1000) } ∧
           (applyDemand s).hstg.onOrder = s.hstg.onOrder.erase e ∧
           (applyDemand s).paths.hstgToSaa = s.paths.hstgToSaa ++ [.release e])))

/-- Section 6.7 (R104): a stop sets D to 0, clears heat-enable when it comes from CPX or TRIP, acts on every element by its
state and hands SAA the releases and withdrawals in ascending element number; with a sound on-order list it empties that list.
-/
def Obligations.StopTakesAllHeatAway : Prop :=
  ∀ (fromCycle : Bool) (s t : State), t = hstgStop fromCycle s →
    t.hstg.demand = 0 ∧ t.hstg.heatEnable = (if fromCycle then false else s.hstg.heatEnable) ∧
    (∀ e,
      ((s.elem e).state.energized = true →
        t.elem e = { s.elem e with
          state := .offHold, requested := false, lastOff := .stop, minOn := none, minOff := some (s.profile.minOff * 1000) }) ∧
      ((s.elem e).state = .waitGrant → t.elem e = { s.elem e with state := .offReady, requested := false }) ∧
      ((s.elem e).state.counted = false → t.elem e = s.elem e)) ∧
    (onOrderSound s → t.hstg.onOrder = []) ∧ activeCount t.hstg = 0 ∧
    t.hstg.pointer = s.hstg.pointer ∧ t.hstg.settings = s.hstg.settings ∧
    t.paths = { s.paths with
      hstgToSaa := s.paths.hstgToSaa ++ allElements.flatMap fun e =>
        if (s.elem e).state.energized then [HstgMsg.release e]
        else if (s.elem e).state = .waitGrant ∧ (s.elem e).requested then [HstgMsg.withdrawal e] else [] } ∧
    t.link = s.link ∧ t.prof = s.prof ∧ t.atu = s.atu ∧ t.saa = s.saa ∧ t.drum = s.drum ∧ t.efe = s.efe ∧ t.mest = s.mest ∧
    t.cpx = s.cpx ∧ t.trip = s.trip

/-- Section 6.1 (R92): every step keeps the on-order list holding exactly the energized elements, each once; reset has it so. -/
def Obligations.OnOrderListHoldsTheEnergizedElements : Prop :=
  onOrderSound State.reset ∧ ∀ s t : State, onOrderSound s → step s = .next t → onOrderSound t

/-- Section 6.5 (R100): every step keeps every energized element behind an open gate: the blower ON with airflow proven, the
high-limit and the door CLOSED; reset has it so. -/
def Obligations.HeatOnlyBehindAnOpenGate : Prop :=
  heatGated State.reset ∧ ∀ s t : State, heatGated s → step s = .next t → heatGated t

/-- Sections 6.2 and 6.5 (R94, R100): every step keeps heat within a working cycle with no HALT- or SEVERE-class entry standing:
then no element is energized, waiting or demanded outside RUNNING and STARVED; reset has it so. -/
def Obligations.HeatOnlyInAWorkingUntrippedCycle : Prop :=
  (heatWithinCycle State.reset ∧ tripsBarWork State.reset) ∧
    ∀ s t : State, heatWithinCycle s → tripsBarWork s → step s = .next t →
      heatWithinCycle t ∧ (tripBars t.trip = true → ∀ e, (t.elem e).state.energized = false)

/-! ### The drum (chapters 1 and 2) -/

/-- Section 1.1 (R1): every step keeps the speed offset within max adjust of the active profile, and reset has it so; the
inverter outputs follow the drum state. -/
def Obligations.SpeedOffsetStaysWithinMaxAdjust : Prop :=
  offsetBounded State.reset ∧ (∀ s t : State, offsetBounded s → step s = .next t → offsetBounded t) ∧
    ∀ d : Drum,
      (d.state = .accel ∨ d.state = .run →
        runEnable d = true ∧ speedDemand d = max 0 (min 1023 ((d.active.nominal : Int) + d.offset))) ∧
      (d.state = .decelStop ∨ d.state = .decelReverse → runEnable d = true ∧ speedDemand d = 0) ∧
      (d.state = .stopped ∨ d.state = .surgeWait ∨ d.state = .dwell → runEnable d = false ∧ speedDemand d = 0)

/-- Sections 1.3 and 1.5 (R4, R5): what a run request and a stop request do in each drum state. That the surge request of a
start carries the number advanced by one, so that the first carries 1, is the model's reading (log entry 10); the order in which
ends of different causes stand on TRIP's path is the model's too, and none waits for another (log entry 4). -/
def Obligations.RunAndStopRequestsByDrumState : Prop :=
  ∀ s : State,
    (s.drum.state = .stopped →
      (s.drum.stopConfirmed = true → runRequest s =
        { s with
          drum := { s.drum with
            state := .surgeWait, dirOut := s.drum.direction, runPending := false, txn := s.drum.txn + 1 }
          paths := { s.paths with drumToSaa := s.paths.drumToSaa ++ [.request (s.drum.txn + 1)] } }) ∧
      (s.drum.stopConfirmed = false → runRequest s = s.updDrum fun d => { d with runPending := true }) ∧
      drumStop s = s.updDrum fun d => { d with runPending := false, burst := false }) ∧
    (s.drum.state ∈ [DrumState.surgeWait, .accel, .run, .decelReverse, .dwell] → runRequest s = s) ∧
    (s.drum.state = .decelStop →
      runRequest s = (s.updDrum fun d => { d with runPending := true }) ∧
      drumStop s = s.updDrum fun d => { d with runPending := false }) ∧
    (s.drum.state = .decelReverse → drumStop s = s.updDrum fun d => { d with state := .decelStop, runPending := false }) ∧
    (s.drum.state = .surgeWait ∨ s.drum.state = .dwell →
      (drumStop s).drum = { s.drum with
        state := .stopped, openRev := none, accelTimer := none, dwellTimer := none, stallTimer := none, burst := false,
        malformedRun := 0, stallRaised := false } ∧
      (drumStop s).paths = { s.paths with
        drumToSaa := s.paths.drumToSaa ++ if s.drum.state = .surgeWait then [DrumMsg.withdrawal s.drum.txn] else []
        trip := s.paths.trip ++ (if 4 ≤ s.drum.malformedRun then [⟨.tach, true⟩] else []) ++
          if s.drum.stallRaised then [⟨.drumStall, true⟩] else [] }) ∧
    (s.drum.state = .accel ∨ s.drum.state = .run →
      (drumStop s).drum = { s.drum with
        state := .decelStop, accelTimer := none, stallTimer := none, stopConfirmed := false,
        stopDetect := some (s.profile.stopDetectTime * 10)
        lock := if s.drum.state = .run then false else s.drum.lock } ∧
      (drumStop s).paths = { s.paths with
        drumToSaa := s.paths.drumToSaa ++ if s.drum.state = .accel then [DrumMsg.release s.drum.txn] else [] })

/-- Section 1.5's table of exits (R2 to R9): each command takes the drum only along an exit of the table, a reset aside, and the
direction output holds while the drum is driven, changing only on the way to SURGE_WAIT (a stage start behind an open door goes
on from there to STOPPED at once). A stop-detect expiry may pass through STOPPED or DWELL. -/
def Obligations.DrumLeavesEachStateByItsExits : Prop :=
  ∀ (c : Instr) (s t : State), isReset c = false → exec c s = .next t →
    drumMayGo s.drum.state t.drum.state = true ∧
    (t.drum.dirOut ≠ s.drum.dirOut →
      (t.drum.state = .surgeWait ∨ t.drum.state = .stopped) ∧ s.drum.state ≠ .accel ∧ s.drum.state ≠ .run)

/-- Section 1.4 (R6, R7): a surge grant under the latest request's number takes the drum from SURGE_WAIT to ACCEL with the accel
and stall timers started and no revolution open; any other grant is handed back as a release of its own number. Sections 1.2 to
1.7 (R3, R7, R9, R17): what the drum's timers do, by the drum state; a drum that comes to STOPPED ends its standing TACH and
DRUM_STALL conditions (R16, R17), in an order on TRIP's path that is the model's (log entry 4). That a surge request carries the
number advanced by one is the model's reading (log entry 10). -/
def Obligations.DrumTimersAndSurgeGrant : Prop :=
  (∀ (n : Byte) (rest : List Byte) (s : State), s.paths.saaToDrum = n :: rest →
     (s.drum.state = .surgeWait → n = s.drum.txn →
       exec (.surgeGrant n) s = .next
         { s with
           drum := { s.drum with
             state := .accel, openRev := none, accelTimer := some (s.profile.accelTime * 100),
             stallTimer := some (s.profile.stallTime * 1000) }
           paths := { s.paths with saaToDrum := rest } }) ∧
     (s.drum.state ≠ .surgeWait ∨ n ≠ s.drum.txn →
       exec (.surgeGrant n) s = .next
         { s with paths := { s.paths with saaToDrum := rest, drumToSaa := s.paths.drumToSaa ++ [.release n] } })) ∧
  (∀ s : State,
     (s.drum.stopDetect ≠ none →
       (s.drum.state ∈ [DrumState.surgeWait, .accel, .run, .dwell] ∨ s.drum.state = .stopped ∧ s.drum.runPending = false →
         exec .stopDetectExpiry s = .next (s.updDrum fun d => { d with stopDetect := none, stopConfirmed := true })) ∧
       (s.drum.state = .stopped → s.drum.runPending = true →
         exec .stopDetectExpiry s = .next
           { s with
             drum := { s.drum with
               stopDetect := none, stopConfirmed := true, state := .surgeWait, dirOut := s.drum.direction, runPending := false,
               txn := s.drum.txn + 1 }
             paths := { s.paths with drumToSaa := s.paths.drumToSaa ++ [.request (s.drum.txn + 1)] } }) ∧
       (s.drum.state = .decelStop →
         ∃ t, exec .stopDetectExpiry s = .next t ∧ t.drum.openRev = none ∧ t.drum.malformedRun = 0 ∧ t.drum.stopConfirmed = true ∧
           t.drum.stopDetect = none ∧ t.drum.runPending = false ∧ t.drum.direction = s.drum.direction ∧
           t.drum.history = s.drum.history ∧ t.mest = s.mest ∧ t.drum.stallRaised = false ∧
           t.paths.trip = s.paths.trip ++ (if 4 ≤ s.drum.malformedRun then [⟨.tach, true⟩] else []) ++
             (if s.drum.stallRaised = true then [⟨.drumStall, true⟩] else []) ∧
           (s.drum.runPending = false → t.drum.state = .stopped ∧ t.paths.drumToSaa = s.paths.drumToSaa) ∧
           (s.drum.runPending = true → t.drum.state = .surgeWait ∧ t.drum.dirOut = s.drum.direction ∧
             t.paths.drumToSaa = s.paths.drumToSaa ++ [.request (s.drum.txn + 1)])) ∧
       (s.drum.state = .decelReverse → s.drum.active.dwell ≠ 0 →
         exec .stopDetectExpiry s = .next (s.updDrum fun d =>
           { d with
             stopDetect := none, stopConfirmed := true, state := .dwell, openRev := none,
             dwellTimer := some (d.active.dwell * 100) })) ∧
       (s.drum.state = .decelReverse → s.drum.active.dwell = 0 →
         exec .stopDetectExpiry s = .next
           { s with
             drum := { s.drum with
               stopDetect := none, stopConfirmed := true, state := .surgeWait, openRev := none, dwellTimer := none,
               direction := s.drum.dirOut.opposite, dirOut := s.drum.dirOut.opposite, txn := s.drum.txn + 1 }
             paths := { s.paths with drumToSaa := s.paths.drumToSaa ++ [.request (s.drum.txn + 1)] } })) ∧
     (s.drum.dwellTimer ≠ none → s.drum.state = .dwell →
       exec .dwellExpiry s = .next
         { s with
           drum := { s.drum with
             state := .surgeWait, dwellTimer := none, direction := s.drum.dirOut.opposite, dirOut := s.drum.dirOut.opposite,
             txn := s.drum.txn + 1 }
           paths := { s.paths with drumToSaa := s.paths.drumToSaa ++ [.request (s.drum.txn + 1)] } }) ∧
     (s.drum.accelTimer ≠ none → exec .accelTimerExpiry s = .next (s.updDrum fun d => { d with accelTimer := none })) ∧
     (s.drum.stallTimer ≠ none →
       exec .stallTimerExpiry s = .next
         { s with
           drum := { s.drum with stallTimer := none, stallRaised := true }
           paths := { s.paths with trip := s.paths.trip ++ if s.drum.stallRaised then [] else [⟨.drumStall, false⟩] } }))

/-- Sections 1.2, 1.6, 3.1 to 3.3 (R3, R10, R40 to R43): a tach pulse clears stop-confirmed and restarts stop-detect, counts in
the open revolution with its current sample, and advances EFE's position once the phase is known; a position inside the window
is sampled, and a count at or below the contact threshold adds its wetness, min(65535, floor((4095 − C) × 256 / (C + 1))). That
a dwell timer restarted by a pulse in DWELL (R9) keeps the length it had is the model's choice (log entry 3). -/
def Obligations.TachPulseCountsAndSamples : Prop :=
  ∀ (current : BitVec 16) (raw : BitVec 12) (s : State),
    ∃ t, exec (.tachPulse current raw) s = .next t ∧
      t.drum = { s.drum with
        stopConfirmed := false
        stopDetect := some (s.profile.stopDetectTime * 10)
        openRev := s.drum.openRev.map fun o =>
          ⟨if o.tach < 255 then o.tach + 1 else o.tach, o.currentSum + current.toNat⟩ } ∧
      (s.efe.phaseKnown = false → t.efe = s.efe) ∧
      (s.efe.phaseKnown = true → ∀ pos, pos = (if s.efe.position < 255 then s.efe.position + 1 else s.efe.position) →
        (pos ≤ s.profile.windowStart ∨ s.profile.windowStart + s.profile.windowLen < pos →
          t.efe = { s.efe with position := pos }) ∧
        (s.profile.windowStart < pos → pos ≤ s.profile.windowStart + s.profile.windowLen →
          (s.profile.contactThreshold < raw.toNat → t.efe = { s.efe with position := pos, m := s.efe.m + 1 }) ∧
          (raw.toNat ≤ s.profile.contactThreshold →
            t.efe = { s.efe with
              position := pos, m := s.efe.m + 1, k := s.efe.k + 1,
              s := s.efe.s + min 65535 ((4095 - raw.toNat) * 256 / (raw.toNat + 1)) }))) ∧
      t = { s with drum := t.drum, efe := t.efe }

/-- Sections 1.4, 1.6, 1.7 and 3.3 (R7, R10, R17, R40, R43, R44): an index marker always sets EFE's phase and clears its sums;
at rest it does nothing else; the first marker of an acceleration opens a revolution without closing one; in ACCEL the first
marker after the accel timer's expiry with no stall raised brings RUN and releases the surge. A marker that closes a well-formed
revolution in ACCEL or DECEL, where lock is clear, records it RAMP, unfolded and without regulation, ends a malformed run, and
brings RUN in the same way. The mean current's cap and the elapsed operand are the model's (log entries 11 and 15). -/
def Obligations.IndexMarkerOutsideARevolution : Prop :=
  ∀ (elapsed : Nat) (s : State),
    (s.drum.state.timesRevs = false →
      exec (.indexMarker elapsed) s = .next { s with efe := ⟨true, 0, 0, 0, 0⟩ }) ∧
    (s.drum.openRev = none → s.drum.state = .decelStop ∨ s.drum.state = .decelReverse →
      exec (.indexMarker elapsed) s = .next
        { s with efe := ⟨true, 0, 0, 0, 0⟩, drum := { s.drum with openRev := some ⟨0, 0⟩ } }) ∧
    (s.drum.openRev = none → s.drum.state = .run ∨ s.drum.state = .accel ∧ (s.drum.accelTimer ≠ none ∨ s.drum.stallRaised = true) →
      exec (.indexMarker elapsed) s = .next
        { s with
          efe := ⟨true, 0, 0, 0, 0⟩
          drum := { s.drum with openRev := some ⟨0, 0⟩, stallTimer := some (s.profile.stallTime * 1000) } }) ∧
    (s.drum.openRev = none → s.drum.state = .accel → s.drum.accelTimer = none → s.drum.stallRaised = false →
      exec (.indexMarker elapsed) s = .next
        { s with
          efe := ⟨true, 0, 0, 0, 0⟩
          drum := { s.drum with openRev := some ⟨0, 0⟩, stallTimer := some (s.profile.stallTime * 1000), state := .run }
          paths := { s.paths with drumToSaa := s.paths.drumToSaa ++ [.release s.drum.txn] } }) ∧
    ∀ o : OpenRev, s.drum.openRev = some o → o.tach = s.profile.tachPulses → s.drum.lock = false →
      s.drum.state = .accel ∨ s.drum.state = .decelStop ∨ s.drum.state = .decelReverse →
      ∀ runs : Bool, runs = decide (s.drum.state = .accel ∧ s.drum.accelTimer = none ∧ s.drum.stallRaised = false) →
        exec (.indexMarker elapsed) s = .next
          { s with
            efe := ⟨true, 0, 0, 0, 0⟩
            drum := { s.drum with
              state := if runs then .run else s.drum.state
              openRev := some ⟨0, 0⟩
              stallTimer := if s.drum.state = .accel then some (s.profile.stallTime * 1000) else s.drum.stallTimer
              revNumber := (s.drum.revNumber + 1) % 65536
              lastPeriod := min 65535 elapsed
              malformedRun := 0
              history := (if s.drum.history.length < 32 then s.drum.history else s.drum.history.drop 1) ++
                [⟨(s.drum.revNumber + 1) % 65536, s.drum.dirOut, min 65535 elapsed, o.tach, s.drum.state, false, .ramp,
                  min 65535 (o.currentSum / o.tach), s.efe.m, s.efe.k, none, .skipped⟩] }
            paths := { s.paths with
              trip := s.paths.trip ++ (if 4 ≤ s.drum.malformedRun then [⟨.tach, true⟩] else [])
              drumToSaa := s.paths.drumToSaa ++ if runs then [.release s.drum.txn] else [] } }

/-- Sections 1.6, 1.7 and 1.8 (R11 to R16, R18): a marker that closes a well-formed RUN revolution joins one record to the
history ring with the measured period, mean current and direction, sets lock by the bands, classes the revolution, regulates the
offset by at most one step within max adjust, ends a malformed run, and opens the next revolution. Sections 1.6 and 1.7 (R13,
R16): a marker that closes a revolution whose tach count is not T records it MALFORMED with its measured period, mean current (0
for no pulse), sums and direction, lock clear and outcome SKIPPED, at the tail of the ring, leaves the offset and MEST as they
were, gives LOCK_LOST if lock was set and then MALFORMED_REV, counts it, and hands TRIP the TACH condition at the fourth in a
row; an ACCEL that is due to end still ends. Section 1.6 (R11): a well-formed RUN close as a whole, in the order of its steps:
lock with its report, regulation, the end of a malformed run, the fold (which gives the record its outcome and m_rev), the
record, the reversal run count, tangle detection, and the turn at step 8; what the fold, the tangle detection and the turn do is
in `FoldDecisionAndFilterRounding`, `DryDecisionTrendAndEstimate` and `RunCloseReversesTheDrum`. The cap of I_rev (log entry 11)
and the elapsed operand (log entry 15) are the model's. -/
def Obligations.ClosedRevolutionIsRecorded : Prop :=
  (∀ (elapsed : Nat) (o : OpenRev) (s : State) (period : Nat) (delta : Int) (lock : Bool),
     s.drum.state = .run → s.drum.openRev = some o → o.tach = s.profile.tachPulses → 1 ≤ o.tach →
     period = min 65535 elapsed → delta = (period : Int) - (60000 / s.drum.active.rpm : Nat) →
     lock = (if -(s.profile.early : Int) ≤ delta ∧ delta ≤ s.profile.late then true
       else if 2 * (s.profile.late : Int) < delta ∨ delta < -2 * (s.profile.early : Int) then false else s.drum.lock) →
     ∃ t r kept, exec (.indexMarker elapsed) s = .next t ∧
       t.drum.history = kept ++ [r] ∧
       kept = (if s.drum.history.length < 32 then s.drum.history else s.drum.history.drop 1) ∧
       r.number = (s.drum.revNumber + 1) % 65536 ∧ r.direction = s.drum.dirOut ∧ r.period = period ∧ r.tach = o.tach ∧
       r.state = .run ∧ r.lock = lock ∧ r.cls = (if lock then .steady else .ramp) ∧
       r.iRev = min 65535 (o.currentSum / o.tach) ∧ r.m = s.efe.m ∧ r.k = s.efe.k ∧
       (lock = false → r.outcome = .skipped ∧ r.mRev = none) ∧
       t.drum.revNumber = (s.drum.revNumber + 1) % 65536 ∧ t.drum.lastPeriod = period ∧ t.drum.malformedRun = 0 ∧
       t.drum.openRev = some ⟨0, 0⟩ ∧ t.efe = ⟨true, 0, 0, 0, 0⟩ ∧
       t.drum.offset =
         (if (s.profile.late : Int) < delta then
           (if s.drum.offset = s.profile.maxAdjust then s.drum.offset else s.drum.offset + 1)
         else if delta < -(s.profile.early : Int) then
           (if s.drum.offset = -(s.profile.maxAdjust : Int) then s.drum.offset else s.drum.offset - 1)
         else s.drum.offset) ∧
       (t.drum.state = .run → t.drum.lock = lock)) ∧
  (∀ (elapsed : Nat) (o : OpenRev) (s : State),
     s.drum.state.timesRevs = true → s.drum.openRev = some o → o.tach ≠ s.profile.tachPulses →
     ∃ t r kept, exec (.indexMarker elapsed) s = .next t ∧ t.drum.history = kept ++ [r] ∧
       kept = (if s.drum.history.length < 32 then s.drum.history else s.drum.history.drop 1) ∧
       r.direction = s.drum.dirOut ∧ r.period = min 65535 elapsed ∧ t.drum.lastPeriod = min 65535 elapsed ∧
       r.iRev = (if o.tach = 0 then 0 else min 65535 (o.currentSum / o.tach)) ∧ r.m = s.efe.m ∧ r.k = s.efe.k ∧
       t.efe = ⟨true, 0, 0, 0, 0⟩ ∧ r.cls = .malformed ∧ r.lock = false ∧ r.tach = o.tach ∧ r.state = s.drum.state ∧ r.outcome = .skipped ∧ r.mRev = none ∧
       t.drum.offset = s.drum.offset ∧ t.mest = s.mest ∧ t.drum.lock = false ∧
       t.drum.malformedRun = (if s.drum.malformedRun < 255 then s.drum.malformedRun + 1 else s.drum.malformedRun) ∧
       t.paths.trip = s.paths.trip ++ (if s.drum.malformedRun = 3 then [⟨.tach, false⟩] else []) ∧
       r.number = (s.drum.revNumber + 1) % 65536 ∧ t.drum.revNumber = r.number ∧ t.drum.openRev = some ⟨0, 0⟩ ∧
       t.link = (report .drum .warning 0x20 (u16 r.number ++ u8 o.tach)
         (if s.drum.lock = true then raiseFlag .lockLost (report .drum .info 0x22 (u16 r.number) s) else s)).link ∧
       (s.drum.state = .accel →
         (s.drum.accelTimer = none ∧ s.drum.stallRaised = false →
           t.drum.state = .run ∧ t.paths.drumToSaa = s.paths.drumToSaa ++ [.release s.drum.txn]) ∧
         (s.drum.accelTimer ≠ none ∨ s.drum.stallRaised = true →
           t.drum.state = .accel ∧ t.paths.drumToSaa = s.paths.drumToSaa)) ∧
       (s.drum.state = .decelStop ∨ s.drum.state = .decelReverse → t.drum.state = s.drum.state) ∧
       (s.drum.state = .run → t.drum.state =
         (closeTurn false (s.updDrum fun d => { d with reversalRun := bump 255 d.reversalRun })).drum.state)) ∧
  (∀ (elapsed : Nat) (o : OpenRev) (s : State),
     s.drum.state = .run → s.drum.openRev = some o → o.tach = s.profile.tachPulses →
     ∀ n : Nat, n = (s.drum.revNumber + 1) % 65536 → ∀ period : Nat, period = min 65535 elapsed →
     ∀ delta : Int, delta = (period : Int) - (60000 / s.drum.active.rpm : Nat) →
     ∀ lock : Bool, lock = (if -(s.profile.early : Int) ≤ delta ∧ delta ≤ s.profile.late then true
       else if 2 * (s.profile.late : Int) < delta ∨ delta < -2 * (s.profile.early : Int) then false else s.drum.lock) →
     ∀ cls : RevClass, cls = (if lock = true then .steady else .ramp) →
     ∀ iRev : Nat, iRev = min 65535 (o.currentSum / o.tach) →
     ∀ u : State, u = { s with
       efe := ⟨true, 0, 0, 0, 0⟩
       link := (if s.drum.lock = true ∧ lock = false then
         raiseFlag .lockLost (report .drum .info 0x22 (u16 n) s) else s).link
       drum := { s.drum with
         revNumber := n
         lock := lock
         stallTimer := some (s.profile.stallTime * 1000)
         malformedRun := 0
         offset :=
           if (s.profile.late : Int) < delta then
             (if s.drum.offset = s.profile.maxAdjust then s.drum.offset else s.drum.offset + 1)
           else if delta < -(s.profile.early : Int) then
             (if s.drum.offset = -(s.profile.maxAdjust : Int) then s.drum.offset else s.drum.offset - 1)
           else s.drum.offset }
       paths := { s.paths with
         trip := s.paths.trip ++ if 4 ≤ s.drum.malformedRun then [⟨.tach, true⟩] else [] } } →
     ∀ v : State × FoldOutcome × Option Nat, v = fold n cls s.efe.k s.efe.s u →
     ∀ w : State × Bool, w = closeTangle ⟨n, period, delta, iRev, o.tach, true, lock, cls⟩
       (v.1.updDrum fun d =>
         { d with
           history := (if s.drum.history.length < 32 then s.drum.history else s.drum.history.drop 1) ++
             [⟨n, s.drum.dirOut, period, o.tach, .run, lock, cls, iRev, s.efe.m, s.efe.k, v.2.2, v.2.1⟩]
           lastPeriod := period
           reversalRun := bump 255 d.reversalRun }) →
     exec (.indexMarker elapsed) s = .next ((closeTurn w.2 w.1).updDrum fun d => { d with openRev := some ⟨0, 0⟩ }))

/-- Sections 2.3 to 2.6 (R28 to R30, R34 to R37): what the close of a RUN revolution does at steps 7 and 8, with the reversal
run count already advanced: a scheduled reversal when the count reaches the run length of the direction output, none FWD under a
continuous pattern, a burst's end in a GUARD stage, and a forced reversal first of all. Section 2.6 (R35 to R38): the baseline
is the mean of sixteen STEADY currents; a later STEADY current above the threshold I_base + floor(I_base × margin / 256)
advances the tangle run count, any other STEADY one clears it, and the run's Q-th forces a reversal, which counts in the stage,
clears the dry count and the sparse count, and gives TANGLE_REVERSAL with its event flag and, at the ninth in the stage,
TANGLE_PERSIST. A drum that leaves RUN with lock set gives LOCK_LOST with its event flag (R14), under a reversal and under a
stop request. That a burst ends at or above its revolutions is the model's reading (log entry 20). `ClosedRevolutionIsRecorded`
ties these to an index marker. -/
def Obligations.RunCloseReversesTheDrum : Prop :=
  (∀ (forced : Bool) (s : State), s.drum.state = .run →
     (forced = true → (closeTurn forced s).drum.state = .decelReverse) ∧
     (forced = false → s.drum.guardStage = false →
       (s.drum.dirOut = .fwd → (closeTurn forced s).drum.state =
         if s.drum.active.forward ≠ 0 ∧ s.drum.active.forward ≤ s.drum.reversalRun then .decelReverse else .run) ∧
       (s.drum.dirOut = .rev → (closeTurn forced s).drum.state =
         if s.drum.active.reverse ≤ s.drum.reversalRun then .decelReverse else .run)) ∧
     (forced = false → s.drum.guardStage = true →
       (closeTurn forced s).drum.state =
         if s.drum.burst = true ∧ s.drum.burstRevs ≤ s.drum.reversalRun then .decelStop else .run) ∧
     ((closeTurn forced s).drum.state = .decelReverse →
       (closeTurn forced s).drum.reversalRun = 0 ∧ (closeTurn forced s).drum.tangleRun = 0 ∧
         (closeTurn forced s).drum.lock = false ∧ (closeTurn forced s).drum.dirOut = s.drum.dirOut) ∧
     ((closeTurn forced s).drum.state ≠ .run → (closeTurn forced s).link = (lockLostLeaving s.drum s).link) ∧
     ((closeTurn forced s).drum.state = .run → closeTurn forced s = s) ∧
     (drumStop s).link = (lockLostLeaving s.drum s).link) ∧
  (∀ (q : Measured) (s : State), s.drum.guardStage = false → q.cls = .steady →
     (s.drum.iBase = none → s.drum.baseCount ≠ 15 →
       closeTangle q s = (s.updDrum fun d => { d with baseSum := d.baseSum + q.iRev, baseCount := d.baseCount + 1 }, false)) ∧
     (s.drum.iBase = none → s.drum.baseCount = 15 →
       (closeTangle q s).2 = false ∧ (closeTangle q s).1.drum.iBase = some ((s.drum.baseSum + q.iRev) / 16)) ∧
     ∀ base, s.drum.iBase = some base →
       (q.iRev ≤ base + base * s.profile.tangleMargin / 256 →
         closeTangle q s = (s.updDrum fun d => { d with tangleRun := 0 }, false)) ∧
       (base + base * s.profile.tangleMargin / 256 < q.iRev → s.drum.tangleRun + 1 ≠ s.profile.tangleRun →
         closeTangle q s = (s.updDrum fun d => { d with tangleRun := bump 32 d.tangleRun }, false)) ∧
       (base + base * s.profile.tangleMargin / 256 < q.iRev → s.drum.tangleRun + 1 = s.profile.tangleRun →
         (closeTangle q s).2 = true ∧
         (closeTangle q s).1.drum.stageTangles = bump 255 s.drum.stageTangles ∧
         (closeTangle q s).1.mest = { s.mest with b := 0, sparse := 0, sparseWarned := false } ∧
         (closeTangle q s).1.link.flags = s.link.flags.put .tangleReversal ∧
         ∀ u : State, u = raiseFlag .tangleReversal (report .drum .info 0x23
             (u16 q.number ++ u16 q.iRev ++ u16 (base + base * s.profile.tangleMargin / 256) ++
               u8 (bump 255 s.drum.stageTangles)) s) →
           (s.drum.stageTangles ≠ 8 → (closeTangle q s).1.link = u.link) ∧
           (s.drum.stageTangles = 8 →
             (closeTangle q s).1.link = (report .drum .warning 0x21 (u16 q.number ++ u8 9 ++ u16 base) u).link))) ∧
  ∀ (q : Measured) (s : State), s.drum.guardStage = true ∨ q.cls ≠ .steady → closeTangle q s = (s, false)

/-! ### The moisture estimator (chapters 3 and 4) -/

/-- R46, R47 and R58: MEST decides a closed revolution by its class and contact count alone: RAMP and MALFORMED are SKIPPED and
change no state and give no report; a STEADY one with Kmin contacts or more is FOLDED with m_rev = floor(S / K) and ends the
sparse run; one below Kmin counts, SPARSE below the limit and SPARSE_AS_DRY, folding 0, at or above it. A fold moves F toward
the value folded and never past it: a falling F at least 1, a rising one not at all within 2^k - 1 and at least 1 from 2^k on;
repeated folds of a value below F reach it exactly, of a value above F stop within 2^k - 1 below it. -/
def Obligations.FoldDecisionAndFilterRounding : Prop :=
  (∀ (number : Nat) (cls : RevClass) (k sum : Nat) (s : State),
    (cls ≠ .steady → fold number cls k sum s = (s, .skipped, none)) ∧
    (cls = .steady → s.profile.minContacts ≤ k →
      (fold number cls k sum s).2 = (.folded, some (sum / k)) ∧ (fold number cls k sum s).1.mest.sparse = 0 ∧
      (fold number cls k sum s).1.mest.f =
        some (match s.mest.f with
          | none => sum / k
          | some v => ((v : Int) + (((sum / k : Nat) : Int) - v) / 2 ^ s.profile.filterExp).toNat)) ∧
    (cls = .steady → k < s.profile.minContacts →
      (fold number cls k sum s).1.mest.sparse = (if s.mest.sparse < 255 then s.mest.sparse + 1 else s.mest.sparse) ∧
      ((fold number cls k sum s).1.mest.sparse < s.profile.sparseLimit →
        (fold number cls k sum s).2 = (.sparse, none) ∧
        (fold number cls k sum s).1.mest = { s.mest with sparse := (fold number cls k sum s).1.mest.sparse }) ∧
      (s.profile.sparseLimit ≤ (fold number cls k sum s).1.mest.sparse →
        (fold number cls k sum s).2 = (.sparseAsDry, some 0) ∧ (fold number cls k sum s).1.mest.sparseWarned = true ∧
        (fold number cls k sum s).1.mest.f =
          some (match s.mest.f with
            | none => 0
            | some v => ((v : Int) + (0 - v) / 2 ^ s.profile.filterExp).toNat)))) ∧
  ∀ k v m : Nat,
    (m < v → m ≤ filterStep k (some v) m ∧ filterStep k (some v) m + 1 ≤ v) ∧
    (m = v → filterStep k (some v) m = v) ∧
    (v < m → m < v + 2 ^ k → filterStep k (some v) m = v) ∧
    (v + 2 ^ k ≤ m → v + 1 ≤ filterStep k (some v) m ∧ filterStep k (some v) m ≤ m) ∧
    (m ≤ v → ∃ n, (fun x => filterStep k (some x) m)^[n] v = m) ∧
    (v ≤ m → ∃ n stop, stop ≤ m ∧ m < stop + 2 ^ k ∧ ∀ j, n ≤ j → (fun x => filterStep k (some x) m)^[j] v = stop)

/-- Section 3.6 (R52): a value folded is the filter update with the fold counter, then the dry decision, then the trend; a
FOLDED revolution folds its mean, and one at or past the sparse limit gives the SPARSE_AS_DRY warning, once per sparse run and
ahead of all that its fold brings, and folds 0 (R48, R50). Sections 4.3 to 4.6 (R61, R63, R66, R70): after a fold B follows the
exhaust's corroboration; the fold that brings B from N - 1 to N signals CPX once and gives DRY_REACHED with its event flag;
every eighth fold appends F to the trend ring and re-estimates; the estimate follows the cases of R70.
`ClosedRevolutionIsRecorded` ties the fold to an index marker. -/
def Obligations.DryDecisionTrendAndEstimate : Prop :=
  (∀ (m : Nat) (s : State), foldValue m s = trendStep (judgeDry (s.updMest fun x =>
     { x with
       f := some (match x.f with
         | none => m
         | some v => ((v : Int) + ((m : Int) - v) / 2 ^ s.profile.filterExp).toNat)
       foldCounter := (x.foldCounter + 1) % 256 }))) ∧
  (∀ (number k sum : Nat) (s : State),
    (s.profile.minContacts ≤ k →
      fold number .steady k sum s =
        (foldValue (sum / k) (s.updMest fun m => { m with sparse := 0, sparseWarned := false }), .folded, some (sum / k))) ∧
    (k < s.profile.minContacts → ∀ count : Nat, count = bump 255 s.mest.sparse → s.profile.sparseLimit ≤ count →
      (s.mest.sparseWarned = true →
        fold number .steady k sum s =
          (foldValue 0 (s.updMest fun m => { m with sparse := count }), .sparseAsDry, some 0)) ∧
      (s.mest.sparseWarned = false →
        fold number .steady k sum s =
          (foldValue 0 (report .mest .warning 0x31 (u16 number ++ u8 count ++ u8 k)
            (s.updMest fun m => { m with sparse := count, sparseWarned := true })), .sparseAsDry, some 0)))) ∧
  (∀ (st : MestStage) (d : DryTarget) (v : Nat) (s : State), s.mest.stage = some st → st.dry = some d → s.mest.f = some v →
    (d.target < v → judgeDry s = s.updMest fun m => { m with b := 0 }) ∧
    (v ≤ d.target → s.atu.exhaust.valid = false ∨ s.atu.exhaust.value < d.minExhaust → judgeDry s = s) ∧
    (v ≤ d.target → s.atu.exhaust.valid = true → d.minExhaust ≤ s.atu.exhaust.value →
      (judgeDry s).mest.b = min d.confirm (s.mest.b + 1) ∧
      (s.mest.b + 1 = d.confirm → s.mest.drySignalled = false →
        (judgeDry s).mest.drySignalled = true ∧ (judgeDry s).paths = { s.paths with dry := s.paths.dry ++ [st.ordinal] } ∧
        (judgeDry s).link.flags = s.link.flags.put .dryReached ∧
        (judgeDry s).link =
          (raiseFlag .dryReached (report .mest .info 0x30 (u16 v ++ u8 d.confirm ++ u16 st.ordinal) s)).link) ∧
      (s.mest.b + 1 ≠ d.confirm ∨ s.mest.drySignalled = true →
        judgeDry s = s.updMest fun m => { m with b := min d.confirm (m.b + 1) }))) ∧
  (∀ s : State, (∀ st, s.mest.stage = some st → st.dry = none) → judgeDry s = s) ∧
  (∀ (v : Nat) (s : State), s.mest.f = some v →
    (s.mest.foldCounter % 8 ≠ 0 → trendStep s = s) ∧
    (s.mest.foldCounter % 8 = 0 →
      (trendStep s).mest.trend = (if s.mest.trend.length < 16 then s.mest.trend else s.mest.trend.drop 1) ++ [v] ∧
      (trendStep s).mest.estimate = estimateFor (trendStep s).mest (60000 / s.drum.active.rpm))) ∧
  ∀ (m : Mest) (pt : Nat),
    ((∀ st, m.stage = some st → st.dry = none) → estimateFor m pt = none) ∧
    ∀ st d, m.stage = some st → st.dry = some d →
      (m.trend.length < 2 → estimateFor m pt = none) ∧
      ∀ oldest newest, 2 ≤ m.trend.length → m.trend.head? = some oldest → m.trend.getLast? = some newest →
        (oldest ≤ newest → estimateFor m pt = none) ∧
        (newest < oldest → newest ≤ d.target → estimateFor m pt = some 0) ∧
        (newest < oldest → d.target < newest →
          estimateFor m pt =
            some (min 65535 ((newest - d.target) * 8 * (m.trend.length - 1) / (oldest - newest) * pt / 1000)))

/-! ### Bounds every step keeps -/

/-- Sections 1.8, 3.3, 4.1, 4.3, 4.5, 8.3, 10.1, 11.1 and 11.5: every step keeps the queues and rings within their capacities,
EFE's sums within 0..64, 0..M and 0..4,194,240 (R43), F within its range, the filter exponent in force within 0..7 (R57), the
dry count at or below the confirm count of the DRY stage held, and every ACTIVE or HELD trip entry counted; reset has them so.
For EFE's sums a POWER_ON or BROWN_OUT must load a profile whose window lies within 64 positions, as PROFILE_SET's check gives
every profile that was stored: that the load itself checks no field is the model's reading (log entry 27). -/
def Obligations.QueuesAndCountsKeepTheirBounds : Prop :=
  (queuesBounded State.reset ∧ moistureBounded State.reset ∧ sumsInRange State.reset ∧ exponentMasked State.reset ∧
    dryCountBounded State.reset ∧ tripsCounted State.reset) ∧
    (∀ s t : State, queuesBounded s → step s = .next t → queuesBounded t) ∧
    (∀ s t : State, moistureBounded s → step s = .next t → moistureBounded t) ∧
    (∀ s t : State, exponentMasked s → step s = .next t → exponentMasked t) ∧
    (∀ (c : Instr) (rest : List Instr) (s t : State), s.pending = c :: rest →
      (c = .powerOn ∨ c = .brownOut → windowInTurn (loadStore (storeAfterReset s)).1) →
      sumsInRange s → step s = .next t → sumsInRange t) ∧
    (∀ s t : State, dryCountBounded s → step s = .next t → dryCountBounded t) ∧
    ∀ s t : State, tripsCounted s → step s = .next t → tripsCounted t

/-! ### The air path (chapter 5) -/

/-- Sections 5.1, 5.2, 5.4 and 5.6 (R75 to R77, R80, R81, R85): what each conversion does at ATU: a temperature within the span
is valid and taken, one outside clears the flag and holds the value; two invalid ones in a row raise SENSOR, both channels valid
end it; a valid exhaust at the fire threshold raises EXHAUST_FIRE, one below it less 10.0 °C ends it, and each is handed to TRIP
as it arises and as it ends; a pressure at the minimum proves airflow, and the held-back elements then request again (R101), one
below it starts the low-flow timer; a third line current in a row above base load, granted total and margin raises
SUPPLY_EXCESS, a third at or below it ends it. Section 6.3 (R95, R96): with heat-enable set an exhaust conversion computes D
from the value held, 0 under the inlet cap or at the target, and otherwise one element and one more for each full stage step
below it, up to the fitted count, and applies it; with heat-enable clear it computes nothing. A valid inlet conversion sets or
clears the cap, and a setting puts D at 0, applied, and gives INLET_CAP. An exhaust conversion as a whole is ATU's part, HSTG's
demand and CPX's COOLED judgement, which `RetirementLeadsToDoneStarvedOrNext` gives (R140). That ATU's judgements come before
HSTG's is the model's reading (log entry 12). -/
def Obligations.ConversionsMoveTheirChannels : Prop :=
  ∀ (raw : Int) (s : State),
    (∃ t, exec (.conversionComplete .exhaust raw) s = .next t ∧
      t.atu.exhaust = (if -400 ≤ raw ∧ raw ≤ 3000 then ⟨raw, true, 0⟩
        else { s.atu.exhaust with valid := false, invalidRun := bump 255 s.atu.exhaust.invalidRun }) ∧
      t.atu.inlet = s.atu.inlet ∧
      (¬ (-400 ≤ raw ∧ raw ≤ 3000) → t.atu.fireRaised = s.atu.fireRaised ∧
        t.atu.sensorRaised = (s.atu.sensorRaised || decide (s.atu.exhaust.invalidRun = 1))) ∧
      (-400 ≤ raw → raw ≤ 3000 →
        t.atu.sensorRaised = (s.atu.sensorRaised && !s.atu.inlet.valid) ∧
        t.atu.fireRaised =
          if s.atu.fireRaised then !decide (raw < (s.profile.fireThreshold : Int) - 100)
          else decide ((s.profile.fireThreshold : Int) ≤ raw)) ∧
      (∃ more : List TripMsg, t.paths.trip = (exhaustTaken raw s).paths.trip ++ more ∧
        ((∀ r rest, s.cpx.plan = r :: rest → r.kind ≠ .cool) → more = [])) ∧
      (-400 ≤ raw → raw ≤ 3000 → s.atu.blower = .runOn → raw < s.profile.runOnTemp → s.cpx.cycle ≠ .running →
        t.atu.blower = .off) ∧
      ((∀ r rest, s.cpx.plan = r :: rest → r.kind ≠ .cool) →
        (s.hstg.heatEnable = false → t.hstg = s.hstg) ∧
        ∀ (st : HeatSettings) (target : HeatTarget), s.hstg.heatEnable = true → s.hstg.settings = some st → st.heat = some target →
          ∀ value : Int, value = (if -400 ≤ raw ∧ raw ≤ 3000 then raw else s.atu.exhaust.value) →
          ∀ d : Nat, d = (if s.hstg.inletCap = true then 0
            else if target.exhaustTarget - value ≤ 0 then 0
            else min (allElements.filter fun e => Profile.current s.profile e ≠ 0).length
              (1 + ((target.exhaustTarget - value) / s.profile.stageStep).toNat)) →
          ∀ u : State, u = applyDemand (s.updHstg fun h => { h with demand := d }) →
            t.hstg = u.hstg ∧ t.hstg.demand = d ∧ t.paths.hstgToSaa = u.paths.hstgToSaa)) ∧
    (∀ v : State, v = exhaustTaken raw s → ∀ valid : Bool, valid = decide (-400 ≤ raw ∧ raw ≤ 3000) →
      (s.hstg.heatEnable = false →
        exec (.conversionComplete .exhaust raw) s = .next (judgeCooled v.atu.exhaust.value valid v)) ∧
      ∀ (st : HeatSettings) (target : HeatTarget), s.hstg.heatEnable = true → s.hstg.settings = some st → st.heat = some target →
        ∀ d : Nat, d = (if s.hstg.inletCap = true then 0
          else if target.exhaustTarget - v.atu.exhaust.value ≤ 0 then 0
          else min (allElements.filter fun e => Profile.current s.profile e ≠ 0).length
            (1 + ((target.exhaustTarget - v.atu.exhaust.value) / s.profile.stageStep).toNat)) →
        exec (.conversionComplete .exhaust raw) s = .next
          (judgeCooled v.atu.exhaust.value valid (applyDemand (v.updHstg fun h => { h with demand := d })))) ∧
    (∃ t, exec (.conversionComplete .inlet raw) s = .next t ∧
      t.atu = { s.atu with
        inlet := if -400 ≤ raw ∧ raw ≤ 3000 then ⟨raw, true, 0⟩
          else { s.atu.inlet with valid := false, invalidRun := bump 255 s.atu.inlet.invalidRun }
        sensorRaised :=
          if -400 ≤ raw ∧ raw ≤ 3000 then s.atu.sensorRaised && !s.atu.exhaust.valid
          else s.atu.sensorRaised || decide (s.atu.inlet.invalidRun = 1) } ∧
      t.drum = s.drum ∧ t.mest = s.mest ∧ t.cpx = s.cpx ∧ t.trip = s.trip ∧ t.saa = s.saa ∧
      t.paths.trip = s.paths.trip ++
        (if s.atu.sensorRaised = true then
          (if (-400 ≤ raw ∧ raw ≤ 3000) ∧ s.atu.exhaust.valid = true then [⟨.sensor, true⟩] else [])
        else if ¬ (-400 ≤ raw ∧ raw ≤ 3000) ∧ s.atu.inlet.invalidRun = 1 then [⟨.sensor, false⟩] else []) ∧
      ∀ st target, -400 ≤ raw → raw ≤ 3000 → s.hstg.heatEnable = true → s.hstg.settings = some st → st.heat = some target →
        t.hstg.inletCap =
          (if s.hstg.inletCap then !decide (raw ≤ target.inletLimit - s.profile.inletHyst)
            else decide (target.inletLimit ≤ raw)) ∧
        (s.hstg.inletCap = false → target.inletLimit ≤ raw →
          t.hstg = (applyDemand (s.updHstg fun h => { h with inletCap := true, demand := 0 })).hstg ∧ t.hstg.demand = 0 ∧
            t.link = (report .hstg .info 0x40 (s16 raw ++ s16 target.inletLimit ++ u16 st.ordinal) s).link) ∧
        (s.hstg.inletCap = true ∨ raw < target.inletLimit → t.hstg.demand = s.hstg.demand ∧ t.link = s.link)) ∧
    (∃ t, exec (.conversionComplete .pressure raw) s = .next t ∧
      t.atu = (if s.atu.blower ≠ .on then { s.atu with pressure := (max 0 (min 2000 raw)).toNat }
        else if s.atu.airflowProven = false then
          if (s.profile.airflowMin : Int) ≤ max 0 (min 2000 raw) then
            { s.atu with pressure := (max 0 (min 2000 raw)).toNat, airflowProven := true, grace := none }
          else { s.atu with pressure := (max 0 (min 2000 raw)).toNat }
        else if max 0 (min 2000 raw) < (s.profile.airflowMin : Int) then
          { s.atu with
            pressure := (max 0 (min 2000 raw)).toNat
            lowFlow := if s.atu.lowFlow = none then some (s.profile.airflowGrace * 1000) else s.atu.lowFlow }
        else { s.atu with pressure := (max 0 (min 2000 raw)).toNat, lowFlow := none }) ∧
      t.drum = s.drum ∧ t.mest = s.mest ∧ t.cpx = s.cpx ∧ t.trip = s.trip ∧ t.saa = s.saa ∧ t.link = s.link ∧
      (s.atu.blower = .on → s.atu.airflowProven = false → (s.profile.airflowMin : Int) ≤ max 0 (min 2000 raw) →
        t = heldBackRequested { s with atu := t.atu }) ∧
      (s.atu.blower ≠ .on ∨ s.atu.airflowProven = true ∨ max 0 (min 2000 raw) < (s.profile.airflowMin : Int) →
        t = { s with atu := t.atu })) ∧
    ∀ (limit v : Nat), raw = v → limit = s.profile.baseLoad + grantedTotal s.profile s.saa + s.profile.excessMargin →
      exec (.conversionComplete .lineCurrent raw) s = .next
        { s with
          atu :=
            if s.atu.excessRaised then
              if v ≤ limit then
                if s.atu.belowRun = 2 then { s.atu with lineCurrent := v, excessRaised := false, belowRun := 0 }
                else { s.atu with lineCurrent := v, belowRun := s.atu.belowRun + 1 }
              else { s.atu with lineCurrent := v, belowRun := 0 }
            else if limit < v then
              if s.atu.aboveRun = 2 then { s.atu with lineCurrent := v, excessRaised := true, aboveRun := 0 }
              else { s.atu with lineCurrent := v, aboveRun := s.atu.aboveRun + 1 }
            else { s.atu with lineCurrent := v, aboveRun := 0 }
          paths := { s.paths with
            trip := s.paths.trip ++
              if s.atu.excessRaised then (if v ≤ limit ∧ s.atu.belowRun = 2 then [⟨.supplyExcess, true⟩] else [])
              else if limit < v ∧ s.atu.aboveRun = 2 then [⟨.supplyExcess, false⟩] else [] } }

/-- Sections 5.3 to 5.5 (R79 to R84): what each blower request does by the blower and the door, and what the grace, low-flow and
run-on timers do at expiry. A blower that leaves ON stops all heat at HSTG (section 6.7, R104; what a stop does is in
`StopTakesAllHeatAway`), and an entry to OFF ends a standing AIRFLOW; nothing else changes. -/
def Obligations.BlowerFollowsRequestsAndTimers : Prop :=
  ∀ s : State,
    (s.atu.door.settled = some .closed →
      (s.atu.blower = .on → blowerRequest .on s = s) ∧
      (s.atu.blower ≠ .on → blowerRequest .on s = s.updAtu fun a =>
        { a with
          blower := .on, airflowProven := false, grace := some (s.profile.airflowGrace * 1000), lowFlow := none,
          runOn := none }) ∧
      (s.atu.blower = .on →
        (blowerRequest .runOn s).atu = { s.atu with
          blower := .runOn, airflowProven := false, grace := none, lowFlow := none,
          runOn := some (s.profile.runOnLimit * 60000) }) ∧
      (s.atu.blower = .on → blowerRequest .runOn s = hstgStop false (s.updAtu fun a =>
        { a with
          blower := .runOn, airflowProven := false, grace := none, lowFlow := none,
          runOn := some (s.profile.runOnLimit * 60000) })) ∧
      (s.atu.blower ≠ .on → blowerRequest .runOn s = s)) ∧
    (s.atu.door.settled ≠ some .closed →
      (s.atu.blower = .off → blowerRequest .on s = s ∧ blowerRequest .runOn s = s) ∧
      (s.atu.blower = .runOn → (blowerRequest .on s).atu.blower = .off ∧ (blowerRequest .runOn s).atu.blower = .off ∧
        blowerRequest .on s = blowerRequest .off s ∧ blowerRequest .runOn s = blowerRequest .off s)) ∧
    (s.atu.blower = .off → blowerRequest .off s = s) ∧
    (s.atu.blower ≠ .off →
      (blowerRequest .off s).atu = { s.atu with
        blower := .off, airflowProven := false, grace := none, lowFlow := none, runOn := none, airflowRaised := false } ∧
      (blowerRequest .off s).paths.trip = (s.paths.trip ++ if s.atu.airflowRaised then [⟨.airflow, true⟩] else []) ∧
      ∀ v : State, v = { s with
          atu := { s.atu with
            blower := .off, airflowProven := false, grace := none, lowFlow := none, runOn := none, airflowRaised := false }
          paths := { s.paths with trip := s.paths.trip ++ if s.atu.airflowRaised then [⟨.airflow, true⟩] else [] } } →
        (s.atu.blower = .on → blowerRequest .off s = hstgStop false v) ∧
        (s.atu.blower = .runOn → blowerRequest .off s = v)) ∧
    (s.atu.grace ≠ none →
      exec .graceTimerExpiry s = .next
        { s with
          atu := { s.atu with grace := none, airflowRaised := true }
          paths := { s.paths with trip := s.paths.trip ++ if s.atu.airflowRaised then [] else [⟨.airflow, false⟩] } }) ∧
    (s.atu.lowFlow ≠ none →
      exec .lowFlowExpiry s = .next
        { s with
          atu := { s.atu with lowFlow := none, airflowRaised := true }
          paths := { s.paths with trip := s.paths.trip ++ if s.atu.airflowRaised then [] else [⟨.airflow, false⟩] } }) ∧
    (s.atu.runOn ≠ none → s.atu.blower = .runOn → exec .runOnTimerExpiry s = .next (blowerRequest .off s))

/-- Section 5.7 (R86 to R88): a raw level change restarts the debounce timer; its expiry settles the level; a first settling
gives no door event and hands HIGH_LIMIT for an open thermostat; an opened door turns the blower OFF, with the end of a standing
AIRFLOW, and stops all heat; it pauses a RUNNING or STARVED cycle with cause DOOR, the drum stopped and the STATE_CHANGE report
given, retires a GUARD stage with reason DOOR, and leaves a cycle in any other state, a PAUSED one with its cause, as it was
(R82, R151, R153); an opened thermostat hands HIGH_LIMIT and stops all heat, a closed one hands the end. A door or thermostat
that closes lets the held-back elements request again where the gate then holds, in ascending element number (R101). A level
change to the present level is no change (log entry 13: the model's reading). -/
def Obligations.InputsAreDebouncedThenActedOn : Prop :=
  ∀ (level : Level) (s : State),
    exec (.inputLevelChange .door level) s = .next (s.updAtu fun a =>
      { a with door := if a.door.raw = level then a.door else { a.door with raw := level, timer := some 50 } }) ∧
    exec (.inputLevelChange .highLimit level) s = .next (s.updAtu fun a =>
      { a with highLimit := if a.highLimit.raw = level then a.highLimit else { a.highLimit with raw := level, timer := some 50 } }) ∧
    (s.atu.door.timer ≠ none →
      (s.atu.door.settled ≠ some .closed ∧ s.atu.door.raw = .opened ∨ s.atu.door.raw = .closed ∧ s.atu.door.settled ≠ some .opened →
        exec (.debounceExpiry .door) s = .next (s.updAtu fun a =>
          { a with door := { a.door with timer := none, settled := some a.door.raw } })) ∧
      (s.atu.door.settled = some .opened → s.atu.door.raw = .closed →
        ∃ t, exec (.debounceExpiry .door) s = .next t ∧
          t.atu = { s.atu with door := { s.atu.door with timer := none, settled := some .closed } } ∧
          t.cpx = s.cpx ∧ t.drum = s.drum ∧ t.trip = s.trip ∧ t.link = s.link ∧ t.saa = s.saa ∧ t.mest = s.mest ∧
          t = heldBackRequested { s with atu := t.atu }) ∧
      (s.atu.door.settled = some .closed → s.atu.door.raw = .opened →
        ∃ t, exec (.debounceExpiry .door) s = .next t ∧ t.atu.blower = .off ∧
          (s.atu.blower ≠ .off → t.atu.airflowProven = false) ∧
          t.atu.door = { s.atu.door with timer := none, settled := some .opened } ∧
          (∀ e, (t.elem e).state.counted = false) ∧ t.hstg.demand = 0 ∧ t.cpx.cycle ≠ .running ∧ t.cpx.cycle ≠ .starved ∧
          ∀ u : State, u = blowerRequest .off
              (s.updAtu fun a => { a with door := { a.door with timer := none, settled := some .opened } }) →
            t.atu = u.atu ∧ t.trip = s.trip ∧ t.saa = s.saa ∧ t.efe = s.efe ∧ t.prof = s.prof ∧
            (∀ r rest, s.cpx.cycle = .starved ∨
                s.cpx.cycle = .running ∧ s.cpx.stageActive = true ∧ s.cpx.plan = r :: rest ∧ r.kind ≠ .guard →
              t.cpx = { s.cpx with cycle := .paused, pauseCause := some .door, starve := none } ∧
              t.drum = (drumStop s).drum ∧ t.paths.drumToSaa = (drumStop s).paths.drumToSaa ∧
              t.paths.trip = (drumStop u).paths.trip ∧ t.hstg.heatEnable = false ∧ t.mest = s.mest ∧
              t.link = (report .cpx .info 0x50 [BitVec.ofNat 8 s.cpx.cycle.code, 5, 2] (lockLostLeaving s.drum s)).link) ∧
            (∀ r rest, s.cpx.cycle = .running → s.cpx.stageActive = true → s.cpx.plan = r :: rest → r.kind = .guard →
              t = hstgStop false (retire .door (drumStop u))) ∧
            (s.cpx.cycle ≠ .running → s.cpx.cycle ≠ .starved →
              t.cpx = s.cpx ∧ t.drum = s.drum ∧ t.mest = s.mest ∧ t.link = s.link ∧ t.paths.trip = u.paths.trip ∧
                t.hstg.heatEnable = s.hstg.heatEnable))) ∧
    (s.atu.highLimit.timer ≠ none →
      ∀ v : State, v = (s.updAtu fun a => { a with highLimit := { a.highLimit with timer := none, settled := some a.highLimit.raw } }) →
        (s.atu.highLimit.settled = some s.atu.highLimit.raw ∨ s.atu.highLimit.settled = none ∧ s.atu.highLimit.raw = .closed →
          exec (.debounceExpiry .highLimit) s = .next v) ∧
        (s.atu.highLimit.settled = none → s.atu.highLimit.raw = .opened →
          exec (.debounceExpiry .highLimit) s = .next
            (v.updPaths fun p => { p with trip := p.trip ++ [⟨.highLimit, false⟩] })) ∧
        (s.atu.highLimit.settled = some .closed → s.atu.highLimit.raw = .opened →
          exec (.debounceExpiry .highLimit) s = .next
            (hstgStop false (v.updPaths fun p => { p with trip := p.trip ++ [⟨.highLimit, false⟩] }))) ∧
        (s.atu.highLimit.settled = some .opened → s.atu.highLimit.raw = .closed →
          ∃ t, exec (.debounceExpiry .highLimit) s = .next t ∧ t.atu = v.atu ∧ t.cpx = s.cpx ∧
            t.paths.trip = s.paths.trip ++ [⟨.highLimit, true⟩] ∧
            t = heldBackRequested (v.updPaths fun p => { p with trip := p.trip ++ [⟨.highLimit, true⟩] })))

/-! ### The cycle (chapters 8 and 9) -/

/-- Section 8.4 (R134), with the start a PLAN_APPEND in STARVED brings, its targets clamped and answered OK or CLAMPED (R131,
R132): a stage start makes the head the current stage with the next ordinal, clears its progress, and hands its settings to
HSTG, DRUM and MEST, the exhaust target clamped to the fire threshold less 10.0 °C, with the STAGE_START report and its event
flag; behind a CLOSED door the stage runs. Section 8.4 (R135): behind a door that is not CLOSED a DRY, TIMED or COOL stage
starts and pauses at once with cause DOOR, and a GUARD stage exits DOOR: to DONE after a FINAL record, to STARVED and from there
to PAUSED with an empty buffer, and otherwise to the next head's start. -/
def Obligations.StageStartInstallsTheStage : Prop :=
  (∀ (r : StageRec) (rest : List StageRec) (s t : State), s.cpx.plan = r :: rest → s.atu.door.settled = some .closed →
    t = startHead s →
    t.cpx = { s.cpx with stageActive := true, ordinal := bump 65535 s.cpx.ordinal, stageElapsed := 0, dryLatched := false } ∧
    t.hstg.settings = some ⟨r.kind, bump 65535 s.cpx.ordinal,
      if r.kind = .dry ∨ r.kind = .timed then
        some ⟨min r.exhaustTarget ((s.profile.fireThreshold : Int) - 100), r.inletLimit⟩ else none⟩ ∧
    (r.kind = .dry ∨ r.kind = .timed → t.hstg.heatEnable = true ∧ t.hstg.demand = s.hstg.demand) ∧
    (r.kind = .cool ∨ r.kind = .guard → t.hstg.heatEnable = false ∧ t.hstg.demand = 0) ∧
    t.drum.active = tableEntry s.drum r.pattern ∧ t.drum.activeIdx = r.pattern ∧
    t.drum.offset = (if r.pattern = s.drum.activeIdx then s.drum.offset else 0) ∧
    t.drum.reversalRun = 0 ∧ t.drum.tangleRun = 0 ∧ t.drum.iBase = none ∧ t.drum.baseSum = 0 ∧ t.drum.baseCount = 0 ∧
    t.drum.stageTangles = 0 ∧ t.drum.guardStage = decide (r.kind = .guard) ∧ t.drum.burstRevs = r.burstRevs ∧
    (r.kind ≠ .guard → t.drum.burst = false) ∧
    t.mest = { s.mest with
      stage := some ⟨r.kind, bump 65535 s.cpx.ordinal,
        if r.kind = .dry then some ⟨r.dryTarget, r.confirm, r.dryMinExhaust⟩ else none⟩
      b := 0, drySignalled := false, estimate := t.mest.estimate } ∧
    t.mest.estimate = estimateFor t.mest (60000 / t.drum.active.rpm) ∧
    (r.kind = .guard → t.atu.blower = .off ∧ t.drum.state ∉ [DrumState.surgeWait, .accel, .run, .decelReverse, .dwell]) ∧
    (r.kind ≠ .guard → t.atu.blower = .on ∧ (s.drum.state = .stopped → s.drum.stopConfirmed = true → t.drum.state = .surgeWait)) ∧
    t.link.flags.stageChanged = true ∧ t.trip = s.trip ∧ t.saa = s.saa ∧ t.efe = s.efe ∧ t.prof = s.prof ∧
    ∀ v : State, v = (if r.kind = .guard then lockLostLeaving s.drum s else s) →
      t.link = (raiseFlag .stageChanged (report .cpx .info 0x51
        (u16 (bump 65535 s.cpx.ordinal) ++ u8 r.kind.code ++ u8 r.pattern ++ u8 (rest.length + 1) ++ u8 s.cpx.lastExit.code)
        v)).link) ∧
  (∀ (r : StageRec) (rest : List StageRec) (s t : State), s.cpx.plan = r :: rest → s.atu.door.settled ≠ some .closed →
    t = startHead s →
    (r.kind ≠ .guard →
      t.cpx = { s.cpx with
        cycle := .paused, pauseCause := some .door, starve := none, stageActive := true, ordinal := bump 65535 s.cpx.ordinal,
        stageElapsed := 0, dryLatched := false } ∧
      t.hstg.settings = some ⟨r.kind, bump 65535 s.cpx.ordinal,
        if r.kind = .dry ∨ r.kind = .timed then
          some ⟨min r.exhaustTarget ((s.profile.fireThreshold : Int) - 100), r.inletLimit⟩ else none⟩ ∧
      t.hstg.heatEnable = false ∧ t.hstg.demand = 0 ∧ activeCount t.hstg = 0 ∧
      (s.atu.blower ≠ .on → t.atu.blower = .off) ∧ t.atu.door = s.atu.door ∧
      (t.drum.state = .stopped ∨ t.drum.state = .decelStop) ∧ t.drum.activeIdx = r.pattern ∧
      t.mest.stage = some ⟨r.kind, bump 65535 s.cpx.ordinal,
        if r.kind = .dry then some ⟨r.dryTarget, r.confirm, r.dryMinExhaust⟩ else none⟩ ∧ t.mest.b = 0 ∧
      t.trip = s.trip ∧ t.saa = s.saa ∧ t.efe = s.efe ∧ t.prof = s.prof ∧
      t.link = (report .cpx .info 0x50 [BitVec.ofNat 8 s.cpx.cycle.code, 5, 2] (lockLostLeaving s.drum
        (raiseFlag .stageChanged (report .cpx .info 0x51
          (u16 (bump 65535 s.cpx.ordinal) ++ u8 r.kind.code ++ u8 r.pattern ++ u8 (rest.length + 1) ++ u8 s.cpx.lastExit.code)
          s)))).link) ∧
    (r.kind = .guard →
      (r.final = true →
        t.cpx.cycle = .done ∧ t.cpx.endReason = .complete ∧ t.cpx.lastExit = .door ∧ t.cpx.plan = rest ∧
        t.cpx.stageActive = false) ∧
      (r.final = false → rest = [] →
        t.cpx.cycle = .paused ∧ t.cpx.pauseCause = some .door ∧ t.cpx.lastExit = .door ∧ t.cpx.plan = [] ∧
        t.cpx.stageActive = false ∧ t.cpx.starve = none ∧ t.cpx.ordinal = bump 65535 s.cpx.ordinal) ∧
      (r.final = false → rest ≠ [] →
        ∃ u : State, t = startHead u ∧ u.atu.door = s.atu.door ∧
          u.cpx = { s.cpx with
            stageActive := false, ordinal := bump 65535 s.cpx.ordinal, stageElapsed := 0, dryLatched := false, plan := rest,
            digest := crc16 (rest.flatMap stageBytes), lastExit := .door }))) ∧
  ∀ (tag : Byte) (records : List StageRec) (f : InFrame) (s u : State), u = atOwner f s →
    1 ≤ records.length → records.length ≤ 4 → (∀ r ∈ records, stageFits r) →
    (∀ i : Fin records.length, stageFault records[i.val] (decide (i.val + 1 = records.length)) = none) →
    requestDue 0x20 tag (records.flatMap stageBytes) f s → u.cpx.cycle = .starved → u.cpx.plan = [] →
    ∀ stored : List StageRec, stored = records.map (fun r =>
        if r.kind = .dry ∨ r.kind = .timed then
          { r with exhaustTarget := min r.exhaustTarget ((u.profile.fireThreshold : Int) - 100) } else r) →
    exec (.planAppend tag (records.flatMap stageBytes)) s = .next
      (answered 0x20 tag [if stored = records then 0x00 else 0x01]
        (startHead (report .cpx .info 0x50 [4, 3, 0]
          (u.updCpx fun c =>
            { c with plan := stored, digest := crc16 (stored.flatMap stageBytes), starve := none, cycle := .running }))))

/-- Sections 8.5 and 8.6 (R140, R142, R143, R144): ADVANCE retires the current stage of a RUNNING cycle and is refused BAD_STATE
elsewhere; a COOL stage past its min is retired COOLED by a valid exhaust conversion at or below its cool-to level, after ATU's
own judgements (log entry 12), with heat-enable clear as R94 leaves it (with it set, `ConversionsMoveTheirChannels` has the
demand in between); a retirement drops the head, a DRY stage that retires by TIME with the DRY_TIMEOUT report first, and leads
to DONE after a FINAL stage, to STARVED with an empty buffer, its STATE_CHANGE, STARVED warning and event flag following, and
otherwise to the start of the next stage. Behind a door that is not CLOSED the entry to STARVED goes on to PAUSED with cause
DOOR, and the start is the one `StageStartInstallsTheStage` gives (R135). -/
def Obligations.RetirementLeadsToDoneStarvedOrNext : Prop :=
  (∀ (tag : Byte) (f : InFrame) (s : State), requestDue 0x34 tag [] f s →
    ((atOwner f s).cpx.cycle = .running →
      exec (.advance tag []) s = .next (answered 0x34 tag [0x00] (retire .advance (atOwner f s)))) ∧
    ((atOwner f s).cpx.cycle ≠ .running → exec (.advance tag []) s = .next (answered 0x34 tag [0x11] (atOwner f s)))) ∧
  (∀ (value : Int) (valid : Bool) (r : StageRec) (rest : List StageRec) (s : State),
    s.cpx.plan = r :: rest → s.cpx.stageActive = true → s.cpx.cycle = .running →
    (r.kind = .cool → valid = true → value ≤ r.coolTo → r.minDuration ≤ s.cpx.stageElapsed →
      judgeCooled value valid s = retire .cooled s) ∧
    (r.kind ≠ .cool ∨ valid = false ∨ r.coolTo < value ∨ s.cpx.stageElapsed < r.minDuration → judgeCooled value valid s = s)) ∧
  (∀ (value : Int) (valid : Bool) (s : State), s.cpx.cycle ≠ .running ∨ s.cpx.stageActive = false → judgeCooled value valid s = s) ∧
  (∀ (raw : Int) (r : StageRec) (rest : List StageRec) (s : State),
    s.cpx.plan = r :: rest → s.cpx.stageActive = true → s.cpx.cycle = .running → r.kind = .cool → s.hstg.heatEnable = false →
    (-400 ≤ raw → raw ≤ 3000 → raw ≤ r.coolTo → r.minDuration ≤ s.cpx.stageElapsed →
      exec (.conversionComplete .exhaust raw) s = .next (retire .cooled (exhaustTaken raw s))) ∧
    (¬ (-400 ≤ raw ∧ raw ≤ 3000) ∨ r.coolTo < raw ∨ s.cpx.stageElapsed < r.minDuration →
      exec (.conversionComplete .exhaust raw) s = .next (exhaustTaken raw s))) ∧
  (∀ (reason : ExitReason) (r : StageRec) (rest : List StageRec) (s t : State),
    s.cpx.plan = r :: rest → s.atu.door.settled = some .closed → t = retire reason s →
    t.cpx.lastExit = reason ∧ t.cpx.plan = rest ∧ t.cpx.digest = crc16 (rest.flatMap stageBytes) ∧
    t.cpx.cycleElapsed = s.cpx.cycleElapsed ∧
    (r.final = true →
      t.cpx.cycle = .done ∧ t.cpx.endReason = .complete ∧ t.cpx.stageActive = false ∧ t.cpx.starve = none ∧
      t.cpx.ordinal = s.cpx.ordinal ∧ t.hstg.demand = 0 ∧ t.hstg.heatEnable = false ∧ activeCount t.hstg = 0 ∧
      t.mest.stage = none ∧ t.mest.estimate = none ∧ t.atu.blower ≠ .on ∧
      t.drum.state ∉ [DrumState.surgeWait, .accel, .run, .decelReverse, .dwell]) ∧
    (r.final = false → rest = [] →
      t.cpx.cycle = .starved ∧ t.cpx.stageActive = false ∧ t.cpx.starve = some ⟨s.profile.starveLimit, 0⟩ ∧
      t.cpx.ordinal = s.cpx.ordinal ∧ t.hstg.demand = 0 ∧ t.hstg.heatEnable = false ∧ t.mest.stage = none ∧
      t.mest.estimate = none ∧ t.drum = s.drum ∧ t.atu = s.atu ∧ t.link.flags.starved = true) ∧
    (r.final = false → rest ≠ [] →
      t.cpx.cycle = s.cpx.cycle ∧ t.cpx.stageActive = true ∧ t.cpx.ordinal = bump 65535 s.cpx.ordinal ∧
      t.cpx.stageElapsed = 0 ∧ t.cpx.dryLatched = false)) ∧
  ∀ (reason : ExitReason) (r : StageRec) (rest : List StageRec) (s : State), s.cpx.plan = r :: rest →
    ∀ v : State, v = (if r.kind = .dry ∧ reason = .time then
        report .cpx .info 0x52
          (u16 s.cpx.ordinal ++ (match s.mest.f with
            | some n => 0x01 :: u16 n
            | none => [0x00, 0x00, 0x00]) ++ u8 s.mest.b) s
      else s) →
    ∀ w : State, w = v.updCpx (fun c =>
        { c with stageActive := false, lastExit := reason, plan := rest, digest := crc16 (rest.flatMap stageBytes) }) →
      (r.final = true → retire reason s = enterDone .complete w) ∧
      (r.final = false → rest ≠ [] → retire reason s = startHead w) ∧
      (r.final = false → rest = [] →
        ∀ x : State, x = raiseFlag .starved (report .cpx .warning 0x53
            (u16 s.cpx.ordinal ++ u8 reason.code ++ u8 s.profile.starveLimit)
            (report .cpx .info 0x50 [BitVec.ofNat 8 s.cpx.cycle.code, 4, 0] w)) →
          (s.atu.door.settled = some .closed → (retire reason s).link = x.link) ∧
          (s.atu.door.settled ≠ some .closed →
            (retire reason s).cpx = { w.cpx with cycle := .paused, pauseCause := some .door, starve := none } ∧
            (retire reason s).link = (report .cpx .info 0x50 [4, 5, 2] (lockLostLeaving s.drum x)).link ∧
            (retire reason s).drum = (drumStop s).drum ∧ (retire reason s).atu = s.atu ∧
            activeCount (retire reason s).hstg = 0 ∧ (retire reason s).mest.stage = none))

/-- Sections 8.4 and 9.2 (R136, R156, R157): START and RESUME check in order and a refusal changes nothing; START begins a fresh
cycle with the head stage; RESUME clears a HELD HOST_SILENT entry and continues the stage, returns to STARVED, or starts the
head, with DRUM's baseline emptied and its run request in the two first cases. Each gives its STATE_CHANGE report, and a START
or a head that RESUME starts its STAGE_START after it (R127, R134). -/
def Obligations.StartAndResumeSetTheCycleToWork : Prop :=
  (∀ (tag : Byte) (f : InFrame) (s u : State), u = atOwner f s → requestDue 0x30 tag [] f s →
    (u.cpx.cycle ≠ .ready → exec (.start tag []) s = .next (answered 0x30 tag [0x11] u)) ∧
    (u.cpx.cycle = .ready → u.atu.door.settled ≠ some .closed → exec (.start tag []) s = .next (answered 0x30 tag [0x18] u)) ∧
    (u.cpx.cycle = .ready → u.atu.door.settled = some .closed → tripBars u.trip = true →
      exec (.start tag []) s = .next (answered 0x30 tag [0x19] u)) ∧
    (u.cpx.cycle = .ready → u.atu.door.settled = some .closed → tripBars u.trip = false → ∀ r rest, u.cpx.plan = r :: rest →
      ∃ t, exec (.start tag []) s = .next (answered 0x30 tag [0x00] t) ∧
        t.cpx = { u.cpx with
          cycle := .running, stageActive := true, ordinal := 1, stageElapsed := 0, cycleElapsed := 0, dryLatched := false,
          endReason := .none, pauseCause := none, lastExit := .none } ∧
        t.mest = ⟨none, 0, 0, false, some ⟨r.kind, 1,
          if r.kind = .dry then some ⟨r.dryTarget, r.confirm, r.dryMinExhaust⟩ else none⟩, [], none, 0, false⟩ ∧
        t.drum.history = [] ∧ t.drum.revNumber = u.drum.revNumber ∧ t.drum.activeIdx = r.pattern ∧
        t.hstg.heatEnable = decide (r.kind = .dry ∨ r.kind = .timed) ∧
        (r.kind ≠ .guard → t.atu.blower = .on) ∧ (r.kind = .guard → t.atu.blower = .off) ∧
        t.trip = u.trip ∧ t.saa = u.saa ∧ t.efe = u.efe ∧ t.prof = u.prof ∧
        ∀ v : State, v = report .cpx .info 0x50 [2, 3, 0] (u.updCpx fun c => { c with cycleElapsed := 0 }) →
          t.link = (raiseFlag .stageChanged (report .cpx .info 0x51
            (u16 1 ++ u8 r.kind.code ++ u8 r.pattern ++ u8 (rest.length + 1) ++ [0x00])
            (if r.kind = .guard then lockLostLeaving u.drum v else v))).link)) ∧
  ∀ (tag : Byte) (f : InFrame) (s u : State), u = atOwner f s → requestDue 0x32 tag [] f s →
    (u.cpx.cycle ≠ .paused → exec (.resume tag []) s = .next (answered 0x32 tag [0x11] u)) ∧
    (u.cpx.cycle = .paused → u.atu.door.settled ≠ some .closed → exec (.resume tag []) s = .next (answered 0x32 tag [0x18] u)) ∧
    (u.cpx.cycle = .paused → u.atu.door.settled = some .closed →
      (u.drum.state ≠ .stopped → exec (.resume tag []) s = .next (answered 0x32 tag [0x10] u)) ∧
      (u.drum.state = .stopped → u.trip.hostSilent.state = .active →
        exec (.resume tag []) s = .next (answered 0x32 tag [0x19] u)) ∧
      (u.drum.state = .stopped → u.trip.hostSilent.state ≠ .active →
        ∃ t, exec (.resume tag []) s = .next (answered 0x32 tag [0x00] t) ∧
          t.trip = { u.trip with hostSilent := { u.trip.hostSilent with state := .clear } } ∧
          t.saa = u.saa ∧ t.efe = u.efe ∧ t.prof = u.prof ∧ t.cpx.pauseCause = none ∧ t.cpx.plan = u.cpx.plan ∧
          (∀ r rest, u.cpx.plan = r :: rest → u.cpx.stageActive = true →
            t.cpx = { u.cpx with cycle := .running, pauseCause := none } ∧ t.mest = { u.mest with b := 0 } ∧
            t.link = (report .cpx .info 0x50 [5, 3, 0] u).link ∧
            (∀ v : State, v = u.updDrum (fun d => { d with baseSum := 0, baseCount := 0, iBase := none, tangleRun := 0 }) →
              (r.kind ≠ .guard → t.drum = (runRequest v).drum ∧ t.paths.drumToSaa = (runRequest v).paths.drumToSaa) ∧
              (r.kind = .guard → t.drum = v.drum)) ∧
            (r.kind = .dry ∨ r.kind = .timed → t.hstg.heatEnable = true) ∧
            (r.kind ≠ .guard → t.atu.blower = .on ∧ (u.drum.stopConfirmed = true → t.drum.state = .surgeWait) ∧
              (u.drum.stopConfirmed = false → t.drum.state = .stopped ∧ t.drum.runPending = true)) ∧
            (r.kind = .guard → t.atu.blower = .off ∧ t.drum.state = .stopped)) ∧
          (u.cpx.plan = [] →
            t.cpx = { u.cpx with cycle := .starved, pauseCause := none, starve := some ⟨u.profile.starveLimit, 0⟩ } ∧
            t.mest = { u.mest with b := 0 } ∧ t.hstg.heatEnable = false ∧ t.hstg.demand = 0 ∧ t.atu.blower = .on ∧
            t.link = (report .cpx .info 0x50 [5, 4, 0] u).link ∧
            (∀ v : State, v = u.updDrum (fun d => { d with baseSum := 0, baseCount := 0, iBase := none, tangleRun := 0 }) →
              (u.drum.guardStage = false →
                t.drum = (runRequest v).drum ∧ t.paths.drumToSaa = (runRequest v).paths.drumToSaa) ∧
              (u.drum.guardStage = true → t.drum = v.drum))) ∧
          (u.cpx.plan ≠ [] → u.cpx.stageActive = false →
            t.cpx = { u.cpx with
              cycle := .running, pauseCause := none, stageActive := true, ordinal := bump 65535 u.cpx.ordinal,
              stageElapsed := 0, dryLatched := false } ∧
            t = startHead (blowerRequest .on (report .cpx .info 0x50 [5, 3, 0]
              { u with
                cpx := { u.cpx with cycle := .running, pauseCause := none }
                trip := t.trip })))))

/-- Sections 8.7 and 9.1 (R145, R146, R148, R151, R152): PAUSE freezes a working cycle with cause HOST, ABORT ends one with end
reason ABORTED, CYCLE_CLOSE takes DONE, and FAULTED with every HALT- and SEVERE-class entry CLEAR, to IDLE; each BAD_STATE in
the other states, CYCLE_CLOSE with TRIPPED in FAULTED behind a standing entry. Each gives its STATE_CHANGE report (R127), with
LOCK_LOST where the drum leaves RUN locked (R14). That the pause cause is absent after an ABORT is the model's reading (log
entry 35). -/
def Obligations.PauseAbortAndCloseByCycleState : Prop :=
  (∀ (tag : Byte) (f : InFrame) (s u : State), u = atOwner f s → requestDue 0x31 tag [] f s →
    (u.cpx.cycle ≠ .running → u.cpx.cycle ≠ .starved → exec (.pause tag []) s = .next (answered 0x31 tag [0x11] u)) ∧
    (u.cpx.cycle = .running ∨ u.cpx.cycle = .starved →
      ∃ t, exec (.pause tag []) s = .next (answered 0x31 tag [0x00] t) ∧
        t.cpx = { u.cpx with cycle := .paused, pauseCause := some .host, starve := none } ∧
        t.hstg.heatEnable = false ∧ t.hstg.demand = 0 ∧ activeCount t.hstg = 0 ∧ t.drum = (drumStop u).drum ∧
        t.atu = (blowerRequest .runOn u).atu ∧ t.mest = u.mest ∧ t.trip = u.trip ∧ t.saa = u.saa ∧ t.efe = u.efe ∧
        t.prof = u.prof ∧
        t.link = (report .cpx .info 0x50 [BitVec.ofNat 8 u.cpx.cycle.code, 5, 1] (lockLostLeaving u.drum u)).link)) ∧
  (∀ (tag : Byte) (f : InFrame) (s u : State), u = atOwner f s → requestDue 0x33 tag [] f s →
    (CycleState.working u.cpx.cycle = false → exec (.abort tag []) s = .next (answered 0x33 tag [0x11] u)) ∧
    (CycleState.working u.cpx.cycle = true →
      ∃ t, exec (.abort tag []) s = .next (answered 0x33 tag [0x00] t) ∧
        t.cpx = { u.cpx with
          cycle := .done, endReason := .aborted, pauseCause := none, stageActive := false, starve := none } ∧
        t.hstg.heatEnable = false ∧ t.hstg.demand = 0 ∧ activeCount t.hstg = 0 ∧ t.drum = (drumStop u).drum ∧
        t.atu = (blowerRequest .runOn u).atu ∧ t.mest = { u.mest with stage := none, estimate := none } ∧
        t.trip = u.trip ∧ t.saa = u.saa ∧ t.efe = u.efe ∧ t.prof = u.prof ∧
        t.link = (lockLostLeaving u.drum (report .cpx .info 0x50 [BitVec.ofNat 8 u.cpx.cycle.code, 7, 3] u)).link)) ∧
  ∀ (tag : Byte) (f : InFrame) (s u : State), u = atOwner f s → requestDue 0x35 tag [] f s →
    (u.cpx.cycle ≠ .faulted → u.cpx.cycle ≠ .done → exec (.cycleClose tag []) s = .next (answered 0x35 tag [0x11] u)) ∧
    (u.cpx.cycle = .faulted → tripBars u.trip = true → exec (.cycleClose tag []) s = .next (answered 0x35 tag [0x19] u)) ∧
    (u.cpx.cycle = .done ∨ u.cpx.cycle = .faulted ∧ tripBars u.trip = false →
      ∃ t, exec (.cycleClose tag []) s = .next (answered 0x35 tag [0x00] t) ∧
        t.cpx = { u.cpx with
          cycle := .idle, plan := [], digest := 0xFFFF, ordinal := 0, stageElapsed := 0, cycleElapsed := 0,
          endReason := .none, stageActive := false, dryLatched := false } ∧
        t.mest = { u.mest with stage := none, estimate := none } ∧ t.hstg.settings = none ∧ t.hstg.heatEnable = false ∧
        t.hstg.elements = u.hstg.elements ∧ t.atu = u.atu ∧ t.drum = u.drum ∧ t.trip = u.trip ∧ t.saa = u.saa ∧
        t.efe = u.efe ∧ t.prof = u.prof ∧
        t.link = (report .cpx .info 0x50 [BitVec.ofNat 8 u.cpx.cycle.code, 1, 0]
          (u.updCpx fun c => { c with cycleElapsed := 0 })).link)

/-- Sections 8.1, 8.5 and 8.6 (R128, R137, R138, R141, R144): what the 1 s count, the starve timer's expiry and a dry-reached
signal do, by the cycle state and the current stage. That the starve timer expires once its count has reached its limit is read
from R144. That a signal of the current ordinal is discarded where the current stage is not DRY is the model's choice (log entry
38). -/
def Obligations.CountsAndSignalsJudgeTheStage : Prop :=
  (∀ s : State,
    (s.cpx.cycle ∉ [CycleState.running, .starved] → exec .oneSecondCount s = .next s) ∧
    (s.cpx.cycle = .starved →
      exec .oneSecondCount s = .next (s.updCpx fun c =>
        { c with
          cycleElapsed := bump 4294967295 c.cycleElapsed
          starve := c.starve.map fun t => ⟨t.limit, bump t.limit t.count⟩ })) ∧
    (∀ (r : StageRec) (rest : List StageRec) (v : State) (n : Nat),
      s.cpx.cycle = .running → s.cpx.plan = r :: rest → s.cpx.stageActive = true → n = bump 65535 s.cpx.stageElapsed →
      v = (s.updCpx fun c => { c with cycleElapsed := bump 4294967295 c.cycleElapsed, stageElapsed := n }) →
        (r.maxDuration ≤ n →
          exec .oneSecondCount s = .next (retire (if r.kind = .dry ∧ s.cpx.dryLatched = true then .dry else .time) v)) ∧
        (n < r.maxDuration → r.kind = .dry → s.cpx.dryLatched = true → r.minDuration ≤ n →
          exec .oneSecondCount s = .next (retire .dry v)) ∧
        (n < r.maxDuration → r.kind = .guard → 0 < n → n % r.guardInterval = 0 →
          exec .oneSecondCount s = .next (burstRequest v)) ∧
        (n < r.maxDuration → (r.kind = .dry → s.cpx.dryLatched = false ∨ n < r.minDuration) →
          (r.kind = .guard → n = 0 ∨ n % r.guardInterval ≠ 0) → exec .oneSecondCount s = .next v)) ∧
    (∀ tm, s.cpx.cycle = .starved → s.cpx.starve = some tm → tm.limit ≤ tm.count →
      ∃ t, exec .starveTimerExpiry s = .next t ∧ t.cpx.cycle = .done ∧ t.cpx.endReason = .starved ∧ t.cpx.starve = none ∧
        t.hstg.demand = 0 ∧ activeCount t.hstg = 0)) ∧
  (∀ s : State,
    (s.drum.state = .stopped → s.drum.burst = false → s.drum.guardStage = true →
      burstRequest s = runRequest (s.updDrum fun d => { d with burst := true, direction := .fwd, reversalRun := 0 })) ∧
    (s.drum.state ≠ .stopped ∨ s.drum.burst = true → burstRequest s = s)) ∧
  ∀ (n : Nat) (rest : List Nat) (s u : State), s.paths.dry = n :: rest → u = s.updPaths (fun p => { p with dry := rest }) →
    (∀ r stages, s.cpx.plan = r :: stages → s.cpx.stageActive = true → r.kind = .dry → n = s.cpx.ordinal →
      (s.cpx.cycle = .running → r.minDuration ≤ s.cpx.stageElapsed → exec (.dryReachedSignal n) s = .next (retire .dry u)) ∧
      (s.cpx.cycle = .running ∧ s.cpx.stageElapsed < r.minDuration ∨ s.cpx.cycle = .paused ∨ s.cpx.cycle = .faulted →
        exec (.dryReachedSignal n) s = .next (u.updCpx fun c => { c with dryLatched := true })) ∧
      (s.cpx.cycle ∉ [CycleState.running, .paused, .faulted] → exec (.dryReachedSignal n) s = .next u)) ∧
    (s.cpx.stageActive = false ∨ n ≠ s.cpx.ordinal → exec (.dryReachedSignal n) s = .next u) ∧
    (∀ r stages, s.cpx.plan = r :: stages → r.kind ≠ .dry → exec (.dryReachedSignal n) s = .next u)

/-- Section 8.1 (R127) and R130: every step keeps the stages held and the stage-active flag in agreement with the cycle state,
at most one FINAL stage held and that one the newest, and the digest covering the records held; reset has them so. -/
def Obligations.PlanAndStageAgreeWithTheCycle : Prop :=
  (planSound State.reset ∧ stageSound State.reset) ∧
    (∀ s t : State, planSound s → step s = .next t → planSound t) ∧
    ∀ s t : State, stageSound s → step s = .next t → stageSound t

/-- Sections 8.1, 8.5 to 8.7, 9.1, 9.2 and 10.3 (R127, R144 to R148, R151, R157, R168, R170), a reset aside: only its own events
take the cycle out of each state. RESUME alone ends a pause in work, CYCLE_CLOSE alone leaves FAULTED and DONE, START, RESUME
and a PLAN_APPEND in STARVED alone bring RUNNING. With stage and cycle in agreement, RUNNING, STARVED and PAUSED are left to
FAULTED by a HALT- or SEVERE-class condition alone, RUNNING and STARVED to PAUSED by PAUSE, the door, the host's silence (or the
delivery of a frame that brings TRIP its end, log entry 5) or an exit or append behind an open door, RUNNING to STARVED and DONE
by an exit of its stage, each of the three to DONE by ABORT, and STARVED to DONE by its timer. -/
def Obligations.CycleLeavesEachStateByItsEvents : Prop :=
  (∀ (c : Instr) (s t : State), isReset c = false → exec c s = .next t →
    (s.cpx.cycle = .idle → t.cpx.cycle ≠ .idle → t.cpx.cycle = .ready ∧ ∃ tag payload, c = .planAppend tag payload) ∧
    (s.cpx.cycle = .ready → t.cpx.cycle ≠ .ready → ∃ tag payload,
      (c = .planClear tag payload ∧ t.cpx.cycle = .idle) ∨ c = .start tag payload ∨
        (c = .contextLoad tag payload ∧ t.cpx.cycle = .paused)) ∧
    (s.cpx.cycle = .paused → t.cpx.cycle = .running ∨ t.cpx.cycle = .starved → ∃ tag payload, c = .resume tag payload) ∧
    (s.cpx.cycle = .faulted ∨ s.cpx.cycle = .done → t.cpx.cycle ≠ s.cpx.cycle →
      t.cpx.cycle = .idle ∧ ∃ tag payload, c = .cycleClose tag payload) ∧
    (s.cpx.cycle ≠ .running → t.cpx.cycle = .running → ∃ tag payload,
      c = .start tag payload ∨ c = .resume tag payload ∨ (c = .planAppend tag payload ∧ s.cpx.cycle = .starved))) ∧
  ∀ (c : Instr) (s t : State), isReset c = false → stageSound s → exec c s = .next t →
    (s.cpx.cycle = .running → t.cpx.cycle ≠ .running →
      t.cpx.cycle = .faulted ∧ faultsWork c ∨ t.cpx.cycle = .done ∧ (∃ tag payload, c = .abort tag payload) ∨
      t.cpx.cycle = .paused ∧ (takesSilence c s ∨ c = .debounceExpiry .door ∨ ∃ tag payload, c = .pause tag payload) ∨
      (t.cpx.cycle = .done ∨ t.cpx.cycle = .starved ∨ t.cpx.cycle = .paused ∧ s.atu.door.settled ≠ some .closed) ∧
        exitsStage c) ∧
    (s.cpx.cycle = .starved → t.cpx.cycle ≠ .starved →
      t.cpx.cycle = .faulted ∧ faultsWork c ∨ t.cpx.cycle = .done ∧ ((∃ tag payload, c = .abort tag payload) ∨ c = .starveTimerExpiry) ∨
      t.cpx.cycle = .paused ∧ (takesSilence c s ∨ c = .debounceExpiry .door ∨ ∃ tag payload, c = .pause tag payload) ∨
      (∃ tag payload, c = .planAppend tag payload) ∧
        (t.cpx.cycle = .running ∨ s.atu.door.settled ≠ some .closed ∧ (t.cpx.cycle = .paused ∨ t.cpx.cycle = .done))) ∧
    (s.cpx.cycle = .paused → t.cpx.cycle ≠ .paused →
      t.cpx.cycle = .faulted ∧ faultsWork c ∨ t.cpx.cycle = .done ∧ (∃ tag payload, c = .abort tag payload) ∨
      (t.cpx.cycle = .running ∨ t.cpx.cycle = .starved) ∧ ∃ tag payload, c = .resume tag payload)

/-! ### Trips (chapter 10) -/

/-- Sections 10.2 and 10.3 (R166 to R168, R170): a condition makes its entry ACTIVE, counts it, keeps the first occurrence and
sets the event flag; a HALT or SEVERE one faults a working cycle, stops heat and drum and puts the blower to run-on or OFF;
HOST_SILENT pauses RUNNING and STARVED; an end makes an ACTIVE entry HELD and touches nothing else. TRIP_ACTIVE carries the
cause, the class, the count after it and the cycle state read, ahead of the reports that the class effects bring. -/
def Obligations.TripConditionsActByTheirClass : Prop :=
  (∀ (c : TripCause) (s u : State),
    s.paths.trip.find? (fun m => decide (m.cause = c)) = some ⟨c, false⟩ →
    u = s.updPaths (fun p => { p with trip := p.trip.erase ⟨c, false⟩ }) →
    ((s.trip.get c).state = .active → exec (.tripCondition c) s = .next u) ∧
    ((s.trip.get c).state ≠ .active →
      ∃ t, exec (.tripCondition c) s = .next t ∧
        t.trip = s.trip.set c
          { state := .active
            count := bump 255 (s.trip.get c).count
            firstTime := some ((s.trip.get c).firstTime.getD s.cpx.cycleElapsed)
            firstOrdinal := if (s.trip.get c).firstTime = none then s.cpx.ordinal else (s.trip.get c).firstOrdinal } ∧
        t.link.flags.tripRaised = true ∧ t.saa = s.saa ∧ t.efe = s.efe ∧ t.prof = s.prof ∧ t.mest = s.mest ∧
        (∀ v : State, v = raiseFlag .tripRaised (report .trip .error 0x60
            [BitVec.ofNat 8 (causeCode c), BitVec.ofNat 8 (tripClass c).code, BitVec.ofNat 8 (bump 255 (s.trip.get c).count),
              BitVec.ofNat 8 s.cpx.cycle.code] s) →
          (tripClass c ≠ .pause → CycleState.working s.cpx.cycle = true →
            t.link = (lockLostLeaving s.drum (report .cpx .info 0x50 [BitVec.ofNat 8 s.cpx.cycle.code, 6, 0] v)).link) ∧
          (tripClass c = .pause → s.cpx.cycle = .running ∨ s.cpx.cycle = .starved →
            t.link = (report .cpx .info 0x50 [BitVec.ofNat 8 s.cpx.cycle.code, 5, 3] (lockLostLeaving s.drum v)).link) ∧
          (tripClass c ≠ .pause → CycleState.working s.cpx.cycle = false → t.link = v.link) ∧
          (tripClass c = .pause → s.cpx.cycle ≠ .running → s.cpx.cycle ≠ .starved → t.link = v.link)) ∧
        (tripClass c ≠ .pause → CycleState.working s.cpx.cycle = true →
          t.cpx = { s.cpx with cycle := .faulted, starve := none, pauseCause := none } ∧
          t.hstg.heatEnable = false ∧ t.hstg.demand = 0 ∧ activeCount t.hstg = 0 ∧ t.drum = (drumStop s).drum ∧
          t.atu.blower = (if tripClass c = .severe then .off
            else if s.atu.blower = .off then .off
            else if s.atu.door.settled = some .closed then .runOn else .off)) ∧
        (tripClass c ≠ .pause → CycleState.working s.cpx.cycle = false →
          t.cpx = s.cpx ∧ t.drum = s.drum ∧ t.atu.blower = if tripClass c = .severe then .off else s.atu.blower) ∧
        (tripClass c = .pause →
          (s.cpx.cycle = .running ∨ s.cpx.cycle = .starved →
            t.cpx = { s.cpx with cycle := .paused, pauseCause := some .silent, starve := none } ∧
            t.hstg.heatEnable = false ∧ activeCount t.hstg = 0 ∧ t.drum = (drumStop s).drum) ∧
          (s.cpx.cycle ≠ .running → s.cpx.cycle ≠ .starved →
            t.cpx = s.cpx ∧ t.hstg = s.hstg ∧ t.drum = s.drum ∧ t.atu = s.atu)))) ∧
  ∀ (c : TripCause) (s u : State),
    s.paths.trip.find? (fun m => decide (m.cause = c)) = some ⟨c, true⟩ →
    u = s.updPaths (fun p => { p with trip := p.trip.erase ⟨c, true⟩ }) →
    ((s.trip.get c).state ≠ .active → exec (.tripConditionEnd c) s = .next u) ∧
    ((s.trip.get c).state = .active →
      exec (.tripConditionEnd c) s = .next
        (report .trip .info 0x61 (BitVec.ofNat 8 (causeCode c) :: u8 (s.trip.get c).count)
          (u.updTrip fun t => t.set c { s.trip.get c with state := .held })))

/-- Section 10.3 (R171): a HALT- or SEVERE-class entry that is ACTIVE or HELD keeps the cycle out of RUNNING, STARVED and PAUSED
through every step; START, CONTEXT_LOAD and CYCLE_CLOSE in FAULTED are refused TRIPPED behind it; a condition taken in IDLE,
READY or DONE leaves the cycle in its state; and CYCLE_CLOSE takes FAULTED to IDLE once no such entry stands. -/
def Obligations.StandingTripKeepsTheCycleOutOfWork : Prop :=
  (∀ t : TripTable, tripBars t = true ↔
    ∃ c ∈ [TripCause.highLimit, .exhaustFire, .airflow, .drumStall, .sensor, .tach, .supplyExcess], (t.get c).state ≠ .clear) ∧
  tripsBarWork State.reset ∧ (∀ s t : State, tripsBarWork s → step s = .next t → tripsBarWork t) ∧
  (∀ (tag : Byte) (f : InFrame) (s u : State), u = atOwner f s → tripBars u.trip = true →
    (requestDue 0x30 tag [] f s → u.cpx.cycle = .ready → u.atu.door.settled = some .closed →
      exec (.start tag []) s = .next (answered 0x30 tag [0x19] u)) ∧
    (∀ payload, payload.length = 32 → requestDue 0x51 tag payload f s → u.cpx.cycle = .ready →
      exec (.contextLoad tag payload) s = .next (answered 0x51 tag [0x19] u)) ∧
    (requestDue 0x35 tag [] f s → u.cpx.cycle = .faulted →
      exec (.cycleClose tag []) s = .next (answered 0x35 tag [0x19] u))) ∧
  (∀ (c : TripCause) (s t : State), s.cpx.cycle ∈ [CycleState.idle, .ready, .done] → exec (.tripCondition c) s = .next t →
    t.cpx = s.cpx) ∧
  ∀ (tag : Byte) (f : InFrame) (s u : State), u = atOwner f s → requestDue 0x35 tag [] f s →
    u.cpx.cycle = .faulted ∧ tripBars u.trip = false ∨ u.cpx.cycle = .done →
      ∃ t, exec (.cycleClose tag []) s = .next (answered 0x35 tag [0x00] t) ∧ t.cpx.cycle = .idle

end
end

