-- ==== Sys2Proof/Laws/State.lean ====
section
/-! SUPPORT. What each update of one block's state reads back as, field by field, and the tables of elements and trip entries. -/

namespace Sys2Proof.Machine

@[simp] theorem State.updLink_link (s : State) (f : Link → Link) : (s.updLink f).link = f s.link := rfl
@[simp] theorem State.updLink_prof (s : State) (f : Link → Link) : (s.updLink f).prof = s.prof := rfl
@[simp] theorem State.updLink_atu (s : State) (f : Link → Link) : (s.updLink f).atu = s.atu := rfl
@[simp] theorem State.updLink_hstg (s : State) (f : Link → Link) : (s.updLink f).hstg = s.hstg := rfl
@[simp] theorem State.updLink_saa (s : State) (f : Link → Link) : (s.updLink f).saa = s.saa := rfl
@[simp] theorem State.updLink_drum (s : State) (f : Link → Link) : (s.updLink f).drum = s.drum := rfl
@[simp] theorem State.updLink_efe (s : State) (f : Link → Link) : (s.updLink f).efe = s.efe := rfl
@[simp] theorem State.updLink_mest (s : State) (f : Link → Link) : (s.updLink f).mest = s.mest := rfl
@[simp] theorem State.updLink_cpx (s : State) (f : Link → Link) : (s.updLink f).cpx = s.cpx := rfl
@[simp] theorem State.updLink_trip (s : State) (f : Link → Link) : (s.updLink f).trip = s.trip := rfl
@[simp] theorem State.updLink_paths (s : State) (f : Link → Link) : (s.updLink f).paths = s.paths := rfl
@[simp] theorem State.updLink_pending (s : State) (f : Link → Link) : (s.updLink f).pending = s.pending := rfl
@[simp] theorem State.updLink_freeCount (s : State) (f : Link → Link) : (s.updLink f).freeCount = s.freeCount := rfl

@[simp] theorem State.updProf_link (s : State) (f : Prof → Prof) : (s.updProf f).link = s.link := rfl
@[simp] theorem State.updProf_prof (s : State) (f : Prof → Prof) : (s.updProf f).prof = f s.prof := rfl
@[simp] theorem State.updProf_atu (s : State) (f : Prof → Prof) : (s.updProf f).atu = s.atu := rfl
@[simp] theorem State.updProf_hstg (s : State) (f : Prof → Prof) : (s.updProf f).hstg = s.hstg := rfl
@[simp] theorem State.updProf_saa (s : State) (f : Prof → Prof) : (s.updProf f).saa = s.saa := rfl
@[simp] theorem State.updProf_drum (s : State) (f : Prof → Prof) : (s.updProf f).drum = s.drum := rfl
@[simp] theorem State.updProf_efe (s : State) (f : Prof → Prof) : (s.updProf f).efe = s.efe := rfl
@[simp] theorem State.updProf_mest (s : State) (f : Prof → Prof) : (s.updProf f).mest = s.mest := rfl
@[simp] theorem State.updProf_cpx (s : State) (f : Prof → Prof) : (s.updProf f).cpx = s.cpx := rfl
@[simp] theorem State.updProf_trip (s : State) (f : Prof → Prof) : (s.updProf f).trip = s.trip := rfl
@[simp] theorem State.updProf_paths (s : State) (f : Prof → Prof) : (s.updProf f).paths = s.paths := rfl
@[simp] theorem State.updProf_pending (s : State) (f : Prof → Prof) : (s.updProf f).pending = s.pending := rfl
@[simp] theorem State.updProf_freeCount (s : State) (f : Prof → Prof) : (s.updProf f).freeCount = s.freeCount := rfl

@[simp] theorem State.updAtu_link (s : State) (f : Atu → Atu) : (s.updAtu f).link = s.link := rfl
@[simp] theorem State.updAtu_prof (s : State) (f : Atu → Atu) : (s.updAtu f).prof = s.prof := rfl
@[simp] theorem State.updAtu_atu (s : State) (f : Atu → Atu) : (s.updAtu f).atu = f s.atu := rfl
@[simp] theorem State.updAtu_hstg (s : State) (f : Atu → Atu) : (s.updAtu f).hstg = s.hstg := rfl
@[simp] theorem State.updAtu_saa (s : State) (f : Atu → Atu) : (s.updAtu f).saa = s.saa := rfl
@[simp] theorem State.updAtu_drum (s : State) (f : Atu → Atu) : (s.updAtu f).drum = s.drum := rfl
@[simp] theorem State.updAtu_efe (s : State) (f : Atu → Atu) : (s.updAtu f).efe = s.efe := rfl
@[simp] theorem State.updAtu_mest (s : State) (f : Atu → Atu) : (s.updAtu f).mest = s.mest := rfl
@[simp] theorem State.updAtu_cpx (s : State) (f : Atu → Atu) : (s.updAtu f).cpx = s.cpx := rfl
@[simp] theorem State.updAtu_trip (s : State) (f : Atu → Atu) : (s.updAtu f).trip = s.trip := rfl
@[simp] theorem State.updAtu_paths (s : State) (f : Atu → Atu) : (s.updAtu f).paths = s.paths := rfl
@[simp] theorem State.updAtu_pending (s : State) (f : Atu → Atu) : (s.updAtu f).pending = s.pending := rfl
@[simp] theorem State.updAtu_freeCount (s : State) (f : Atu → Atu) : (s.updAtu f).freeCount = s.freeCount := rfl

@[simp] theorem State.updHstg_link (s : State) (f : Hstg → Hstg) : (s.updHstg f).link = s.link := rfl
@[simp] theorem State.updHstg_prof (s : State) (f : Hstg → Hstg) : (s.updHstg f).prof = s.prof := rfl
@[simp] theorem State.updHstg_atu (s : State) (f : Hstg → Hstg) : (s.updHstg f).atu = s.atu := rfl
@[simp] theorem State.updHstg_hstg (s : State) (f : Hstg → Hstg) : (s.updHstg f).hstg = f s.hstg := rfl
@[simp] theorem State.updHstg_saa (s : State) (f : Hstg → Hstg) : (s.updHstg f).saa = s.saa := rfl
@[simp] theorem State.updHstg_drum (s : State) (f : Hstg → Hstg) : (s.updHstg f).drum = s.drum := rfl
@[simp] theorem State.updHstg_efe (s : State) (f : Hstg → Hstg) : (s.updHstg f).efe = s.efe := rfl
@[simp] theorem State.updHstg_mest (s : State) (f : Hstg → Hstg) : (s.updHstg f).mest = s.mest := rfl
@[simp] theorem State.updHstg_cpx (s : State) (f : Hstg → Hstg) : (s.updHstg f).cpx = s.cpx := rfl
@[simp] theorem State.updHstg_trip (s : State) (f : Hstg → Hstg) : (s.updHstg f).trip = s.trip := rfl
@[simp] theorem State.updHstg_paths (s : State) (f : Hstg → Hstg) : (s.updHstg f).paths = s.paths := rfl
@[simp] theorem State.updHstg_pending (s : State) (f : Hstg → Hstg) : (s.updHstg f).pending = s.pending := rfl
@[simp] theorem State.updHstg_freeCount (s : State) (f : Hstg → Hstg) : (s.updHstg f).freeCount = s.freeCount := rfl

@[simp] theorem State.updSaa_link (s : State) (f : Saa → Saa) : (s.updSaa f).link = s.link := rfl
@[simp] theorem State.updSaa_prof (s : State) (f : Saa → Saa) : (s.updSaa f).prof = s.prof := rfl
@[simp] theorem State.updSaa_atu (s : State) (f : Saa → Saa) : (s.updSaa f).atu = s.atu := rfl
@[simp] theorem State.updSaa_hstg (s : State) (f : Saa → Saa) : (s.updSaa f).hstg = s.hstg := rfl
@[simp] theorem State.updSaa_saa (s : State) (f : Saa → Saa) : (s.updSaa f).saa = f s.saa := rfl
@[simp] theorem State.updSaa_drum (s : State) (f : Saa → Saa) : (s.updSaa f).drum = s.drum := rfl
@[simp] theorem State.updSaa_efe (s : State) (f : Saa → Saa) : (s.updSaa f).efe = s.efe := rfl
@[simp] theorem State.updSaa_mest (s : State) (f : Saa → Saa) : (s.updSaa f).mest = s.mest := rfl
@[simp] theorem State.updSaa_cpx (s : State) (f : Saa → Saa) : (s.updSaa f).cpx = s.cpx := rfl
@[simp] theorem State.updSaa_trip (s : State) (f : Saa → Saa) : (s.updSaa f).trip = s.trip := rfl
@[simp] theorem State.updSaa_paths (s : State) (f : Saa → Saa) : (s.updSaa f).paths = s.paths := rfl
@[simp] theorem State.updSaa_pending (s : State) (f : Saa → Saa) : (s.updSaa f).pending = s.pending := rfl
@[simp] theorem State.updSaa_freeCount (s : State) (f : Saa → Saa) : (s.updSaa f).freeCount = s.freeCount := rfl

@[simp] theorem State.updDrum_link (s : State) (f : Drum → Drum) : (s.updDrum f).link = s.link := rfl
@[simp] theorem State.updDrum_prof (s : State) (f : Drum → Drum) : (s.updDrum f).prof = s.prof := rfl
@[simp] theorem State.updDrum_atu (s : State) (f : Drum → Drum) : (s.updDrum f).atu = s.atu := rfl
@[simp] theorem State.updDrum_hstg (s : State) (f : Drum → Drum) : (s.updDrum f).hstg = s.hstg := rfl
@[simp] theorem State.updDrum_saa (s : State) (f : Drum → Drum) : (s.updDrum f).saa = s.saa := rfl
@[simp] theorem State.updDrum_drum (s : State) (f : Drum → Drum) : (s.updDrum f).drum = f s.drum := rfl
@[simp] theorem State.updDrum_efe (s : State) (f : Drum → Drum) : (s.updDrum f).efe = s.efe := rfl
@[simp] theorem State.updDrum_mest (s : State) (f : Drum → Drum) : (s.updDrum f).mest = s.mest := rfl
@[simp] theorem State.updDrum_cpx (s : State) (f : Drum → Drum) : (s.updDrum f).cpx = s.cpx := rfl
@[simp] theorem State.updDrum_trip (s : State) (f : Drum → Drum) : (s.updDrum f).trip = s.trip := rfl
@[simp] theorem State.updDrum_paths (s : State) (f : Drum → Drum) : (s.updDrum f).paths = s.paths := rfl
@[simp] theorem State.updDrum_pending (s : State) (f : Drum → Drum) : (s.updDrum f).pending = s.pending := rfl
@[simp] theorem State.updDrum_freeCount (s : State) (f : Drum → Drum) : (s.updDrum f).freeCount = s.freeCount := rfl

@[simp] theorem State.updEfe_link (s : State) (f : Efe → Efe) : (s.updEfe f).link = s.link := rfl
@[simp] theorem State.updEfe_prof (s : State) (f : Efe → Efe) : (s.updEfe f).prof = s.prof := rfl
@[simp] theorem State.updEfe_atu (s : State) (f : Efe → Efe) : (s.updEfe f).atu = s.atu := rfl
@[simp] theorem State.updEfe_hstg (s : State) (f : Efe → Efe) : (s.updEfe f).hstg = s.hstg := rfl
@[simp] theorem State.updEfe_saa (s : State) (f : Efe → Efe) : (s.updEfe f).saa = s.saa := rfl
@[simp] theorem State.updEfe_drum (s : State) (f : Efe → Efe) : (s.updEfe f).drum = s.drum := rfl
@[simp] theorem State.updEfe_efe (s : State) (f : Efe → Efe) : (s.updEfe f).efe = f s.efe := rfl
@[simp] theorem State.updEfe_mest (s : State) (f : Efe → Efe) : (s.updEfe f).mest = s.mest := rfl
@[simp] theorem State.updEfe_cpx (s : State) (f : Efe → Efe) : (s.updEfe f).cpx = s.cpx := rfl
@[simp] theorem State.updEfe_trip (s : State) (f : Efe → Efe) : (s.updEfe f).trip = s.trip := rfl
@[simp] theorem State.updEfe_paths (s : State) (f : Efe → Efe) : (s.updEfe f).paths = s.paths := rfl
@[simp] theorem State.updEfe_pending (s : State) (f : Efe → Efe) : (s.updEfe f).pending = s.pending := rfl
@[simp] theorem State.updEfe_freeCount (s : State) (f : Efe → Efe) : (s.updEfe f).freeCount = s.freeCount := rfl

@[simp] theorem State.updMest_link (s : State) (f : Mest → Mest) : (s.updMest f).link = s.link := rfl
@[simp] theorem State.updMest_prof (s : State) (f : Mest → Mest) : (s.updMest f).prof = s.prof := rfl
@[simp] theorem State.updMest_atu (s : State) (f : Mest → Mest) : (s.updMest f).atu = s.atu := rfl
@[simp] theorem State.updMest_hstg (s : State) (f : Mest → Mest) : (s.updMest f).hstg = s.hstg := rfl
@[simp] theorem State.updMest_saa (s : State) (f : Mest → Mest) : (s.updMest f).saa = s.saa := rfl
@[simp] theorem State.updMest_drum (s : State) (f : Mest → Mest) : (s.updMest f).drum = s.drum := rfl
@[simp] theorem State.updMest_efe (s : State) (f : Mest → Mest) : (s.updMest f).efe = s.efe := rfl
@[simp] theorem State.updMest_mest (s : State) (f : Mest → Mest) : (s.updMest f).mest = f s.mest := rfl
@[simp] theorem State.updMest_cpx (s : State) (f : Mest → Mest) : (s.updMest f).cpx = s.cpx := rfl
@[simp] theorem State.updMest_trip (s : State) (f : Mest → Mest) : (s.updMest f).trip = s.trip := rfl
@[simp] theorem State.updMest_paths (s : State) (f : Mest → Mest) : (s.updMest f).paths = s.paths := rfl
@[simp] theorem State.updMest_pending (s : State) (f : Mest → Mest) : (s.updMest f).pending = s.pending := rfl
@[simp] theorem State.updMest_freeCount (s : State) (f : Mest → Mest) : (s.updMest f).freeCount = s.freeCount := rfl

@[simp] theorem State.updCpx_link (s : State) (f : Cpx → Cpx) : (s.updCpx f).link = s.link := rfl
@[simp] theorem State.updCpx_prof (s : State) (f : Cpx → Cpx) : (s.updCpx f).prof = s.prof := rfl
@[simp] theorem State.updCpx_atu (s : State) (f : Cpx → Cpx) : (s.updCpx f).atu = s.atu := rfl
@[simp] theorem State.updCpx_hstg (s : State) (f : Cpx → Cpx) : (s.updCpx f).hstg = s.hstg := rfl
@[simp] theorem State.updCpx_saa (s : State) (f : Cpx → Cpx) : (s.updCpx f).saa = s.saa := rfl
@[simp] theorem State.updCpx_drum (s : State) (f : Cpx → Cpx) : (s.updCpx f).drum = s.drum := rfl
@[simp] theorem State.updCpx_efe (s : State) (f : Cpx → Cpx) : (s.updCpx f).efe = s.efe := rfl
@[simp] theorem State.updCpx_mest (s : State) (f : Cpx → Cpx) : (s.updCpx f).mest = s.mest := rfl
@[simp] theorem State.updCpx_cpx (s : State) (f : Cpx → Cpx) : (s.updCpx f).cpx = f s.cpx := rfl
@[simp] theorem State.updCpx_trip (s : State) (f : Cpx → Cpx) : (s.updCpx f).trip = s.trip := rfl
@[simp] theorem State.updCpx_paths (s : State) (f : Cpx → Cpx) : (s.updCpx f).paths = s.paths := rfl
@[simp] theorem State.updCpx_pending (s : State) (f : Cpx → Cpx) : (s.updCpx f).pending = s.pending := rfl
@[simp] theorem State.updCpx_freeCount (s : State) (f : Cpx → Cpx) : (s.updCpx f).freeCount = s.freeCount := rfl

@[simp] theorem State.updTrip_link (s : State) (f : TripTable → TripTable) : (s.updTrip f).link = s.link := rfl
@[simp] theorem State.updTrip_prof (s : State) (f : TripTable → TripTable) : (s.updTrip f).prof = s.prof := rfl
@[simp] theorem State.updTrip_atu (s : State) (f : TripTable → TripTable) : (s.updTrip f).atu = s.atu := rfl
@[simp] theorem State.updTrip_hstg (s : State) (f : TripTable → TripTable) : (s.updTrip f).hstg = s.hstg := rfl
@[simp] theorem State.updTrip_saa (s : State) (f : TripTable → TripTable) : (s.updTrip f).saa = s.saa := rfl
@[simp] theorem State.updTrip_drum (s : State) (f : TripTable → TripTable) : (s.updTrip f).drum = s.drum := rfl
@[simp] theorem State.updTrip_efe (s : State) (f : TripTable → TripTable) : (s.updTrip f).efe = s.efe := rfl
@[simp] theorem State.updTrip_mest (s : State) (f : TripTable → TripTable) : (s.updTrip f).mest = s.mest := rfl
@[simp] theorem State.updTrip_cpx (s : State) (f : TripTable → TripTable) : (s.updTrip f).cpx = s.cpx := rfl
@[simp] theorem State.updTrip_trip (s : State) (f : TripTable → TripTable) : (s.updTrip f).trip = f s.trip := rfl
@[simp] theorem State.updTrip_paths (s : State) (f : TripTable → TripTable) : (s.updTrip f).paths = s.paths := rfl
@[simp] theorem State.updTrip_pending (s : State) (f : TripTable → TripTable) : (s.updTrip f).pending = s.pending := rfl
@[simp] theorem State.updTrip_freeCount (s : State) (f : TripTable → TripTable) : (s.updTrip f).freeCount = s.freeCount := rfl

@[simp] theorem State.updPaths_link (s : State) (f : Paths → Paths) : (s.updPaths f).link = s.link := rfl
@[simp] theorem State.updPaths_prof (s : State) (f : Paths → Paths) : (s.updPaths f).prof = s.prof := rfl
@[simp] theorem State.updPaths_atu (s : State) (f : Paths → Paths) : (s.updPaths f).atu = s.atu := rfl
@[simp] theorem State.updPaths_hstg (s : State) (f : Paths → Paths) : (s.updPaths f).hstg = s.hstg := rfl
@[simp] theorem State.updPaths_saa (s : State) (f : Paths → Paths) : (s.updPaths f).saa = s.saa := rfl
@[simp] theorem State.updPaths_drum (s : State) (f : Paths → Paths) : (s.updPaths f).drum = s.drum := rfl
@[simp] theorem State.updPaths_efe (s : State) (f : Paths → Paths) : (s.updPaths f).efe = s.efe := rfl
@[simp] theorem State.updPaths_mest (s : State) (f : Paths → Paths) : (s.updPaths f).mest = s.mest := rfl
@[simp] theorem State.updPaths_cpx (s : State) (f : Paths → Paths) : (s.updPaths f).cpx = s.cpx := rfl
@[simp] theorem State.updPaths_trip (s : State) (f : Paths → Paths) : (s.updPaths f).trip = s.trip := rfl
@[simp] theorem State.updPaths_paths (s : State) (f : Paths → Paths) : (s.updPaths f).paths = f s.paths := rfl
@[simp] theorem State.updPaths_pending (s : State) (f : Paths → Paths) : (s.updPaths f).pending = s.pending := rfl
@[simp] theorem State.updPaths_freeCount (s : State) (f : Paths → Paths) : (s.updPaths f).freeCount = s.freeCount := rfl

theorem State.profile_eq (s : State) : s.profile = s.prof.active := rfl

/-! ### Element records and trip entries -/

@[simp] theorem Elements.get_set_same (t : Elements) (e : Element) (r : ElementRec) : (t.set e r).get e = r := by
  cases e <;> rfl

theorem Elements.get_set_ne (t : Elements) {e e' : Element} (r : ElementRec) (h : e' ≠ e) : (t.set e r).get e' = t.get e' := by
  cases e <;> cases e' <;> first | rfl | exact absurd rfl h

theorem Elements.get_set (t : Elements) (e e' : Element) (r : ElementRec) :
    (t.set e r).get e' = if e' = e then r else t.get e' := by
  split
  · next h => subst h; simp
  · next h => exact t.get_set_ne r h

@[simp] theorem TripTable.get_set_same (t : TripTable) (c : TripCause) (e : TripEntry) : (t.set c e).get c = e := by
  cases c <;> rfl

theorem TripTable.get_set_ne (t : TripTable) {c c' : TripCause} (e : TripEntry) (h : c' ≠ c) :
    (t.set c e).get c' = t.get c' := by
  cases c <;> cases c' <;> first | rfl | exact absurd rfl h

theorem TripTable.get_set (t : TripTable) (c c' : TripCause) (e : TripEntry) :
    (t.set c e).get c' = if c' = c then e else t.get c' := by
  split
  · next h => subst h; simp
  · next h => exact t.get_set_ne e h

theorem mem_allElements (e : Element) : e ∈ allElements := by cases e <;> decide

theorem mem_allCauses (c : TripCause) : c ∈ allCauses := by cases c <;> decide

/-- One element's record after an update of one element's record. -/
theorem State.elem_updElem (s : State) (e e' : Element) (f : ElementRec → ElementRec) :
    (s.updElem e f).elem e' = if e' = e then f (s.elem e') else s.elem e' := by
  simp only [State.elem, State.updElem, State.updHstg_hstg, Elements.get_set]
  split
  · next h => rw [h]
  · rfl

end Sys2Proof.Machine
end

