-- ==== Sys2Proof/Laws/Frames.lean ====
section
/-! SUPPORT. The frame of every shared operation: the blocks' states it leaves as they were. A simp call with these lemmas reads an
untouched block through any chain of operations. -/

namespace Sys2Proof.Machine

/-- A fold of steps that each keep a reading keeps it. -/
theorem foldl_keeps {α β γ : Type} (g : β → γ) (f : β → α → β) (h : ∀ b a, g (f b a) = g b) (l : List α) (b : β) :
    g (l.foldl f b) = g b := by
  induction l generalizing b with
  | nil => rfl
  | cons a l ih => rw [List.foldl_cons, ih, h]

/-! ### Ops.lean -/

@[simp] theorem queueReport_frame (r : Report) (s : State) :
    (queueReport r s).prof = s.prof ∧ (queueReport r s).atu = s.atu ∧ (queueReport r s).hstg = s.hstg ∧
    (queueReport r s).saa = s.saa ∧ (queueReport r s).drum = s.drum ∧ (queueReport r s).efe = s.efe ∧
    (queueReport r s).mest = s.mest ∧ (queueReport r s).cpx = s.cpx ∧ (queueReport r s).trip = s.trip ∧
    (queueReport r s).paths = s.paths ∧ (queueReport r s).pending = s.pending ∧
    (queueReport r s).freeCount = s.freeCount := by
  simp [queueReport]

@[simp] theorem report_frame (src : Source) (sev : Severity) (code : Byte) (data : List Byte) (s : State) :
    (report src sev code data s).prof = s.prof ∧ (report src sev code data s).atu = s.atu ∧
    (report src sev code data s).hstg = s.hstg ∧ (report src sev code data s).saa = s.saa ∧
    (report src sev code data s).drum = s.drum ∧ (report src sev code data s).efe = s.efe ∧
    (report src sev code data s).mest = s.mest ∧ (report src sev code data s).cpx = s.cpx ∧
    (report src sev code data s).trip = s.trip ∧ (report src sev code data s).paths = s.paths ∧
    (report src sev code data s).pending = s.pending ∧ (report src sev code data s).freeCount = s.freeCount := by
  unfold report
  split <;> simp

@[simp] theorem raiseFlag_frame (g : EventFlag) (s : State) :
    (raiseFlag g s).prof = s.prof ∧ (raiseFlag g s).atu = s.atu ∧ (raiseFlag g s).hstg = s.hstg ∧
    (raiseFlag g s).saa = s.saa ∧ (raiseFlag g s).drum = s.drum ∧ (raiseFlag g s).efe = s.efe ∧
    (raiseFlag g s).mest = s.mest ∧ (raiseFlag g s).cpx = s.cpx ∧ (raiseFlag g s).trip = s.trip ∧
    (raiseFlag g s).paths = s.paths ∧ (raiseFlag g s).pending = s.pending ∧ (raiseFlag g s).freeCount = s.freeCount := by
  simp [raiseFlag]

@[simp] theorem sendToSaa_frame (m : HstgMsg) (s : State) :
    (sendToSaa m s).link = s.link ∧ (sendToSaa m s).prof = s.prof ∧ (sendToSaa m s).atu = s.atu ∧
    (sendToSaa m s).hstg = s.hstg ∧ (sendToSaa m s).saa = s.saa ∧ (sendToSaa m s).drum = s.drum ∧
    (sendToSaa m s).efe = s.efe ∧ (sendToSaa m s).mest = s.mest ∧ (sendToSaa m s).cpx = s.cpx ∧
    (sendToSaa m s).trip = s.trip ∧ (sendToSaa m s).pending = s.pending ∧ (sendToSaa m s).freeCount = s.freeCount := by
  simp [sendToSaa]

@[simp] theorem sendToHstg_frame (m : SaaMsg) (s : State) :
    (sendToHstg m s).link = s.link ∧ (sendToHstg m s).prof = s.prof ∧ (sendToHstg m s).atu = s.atu ∧
    (sendToHstg m s).hstg = s.hstg ∧ (sendToHstg m s).saa = s.saa ∧ (sendToHstg m s).drum = s.drum ∧
    (sendToHstg m s).efe = s.efe ∧ (sendToHstg m s).mest = s.mest ∧ (sendToHstg m s).cpx = s.cpx ∧
    (sendToHstg m s).trip = s.trip ∧ (sendToHstg m s).pending = s.pending ∧ (sendToHstg m s).freeCount = s.freeCount := by
  simp [sendToHstg]

@[simp] theorem sendDrumToSaa_frame (m : DrumMsg) (s : State) :
    (sendDrumToSaa m s).link = s.link ∧ (sendDrumToSaa m s).prof = s.prof ∧ (sendDrumToSaa m s).atu = s.atu ∧
    (sendDrumToSaa m s).hstg = s.hstg ∧ (sendDrumToSaa m s).saa = s.saa ∧ (sendDrumToSaa m s).drum = s.drum ∧
    (sendDrumToSaa m s).efe = s.efe ∧ (sendDrumToSaa m s).mest = s.mest ∧ (sendDrumToSaa m s).cpx = s.cpx ∧
    (sendDrumToSaa m s).trip = s.trip ∧ (sendDrumToSaa m s).pending = s.pending ∧
    (sendDrumToSaa m s).freeCount = s.freeCount := by
  simp [sendDrumToSaa]

@[simp] theorem sendToDrum_frame (n : Byte) (s : State) :
    (sendToDrum n s).link = s.link ∧ (sendToDrum n s).prof = s.prof ∧ (sendToDrum n s).atu = s.atu ∧
    (sendToDrum n s).hstg = s.hstg ∧ (sendToDrum n s).saa = s.saa ∧ (sendToDrum n s).drum = s.drum ∧
    (sendToDrum n s).efe = s.efe ∧ (sendToDrum n s).mest = s.mest ∧ (sendToDrum n s).cpx = s.cpx ∧
    (sendToDrum n s).trip = s.trip ∧ (sendToDrum n s).pending = s.pending ∧ (sendToDrum n s).freeCount = s.freeCount := by
  simp [sendToDrum]

@[simp] theorem sendDry_frame (n : Nat) (s : State) :
    (sendDry n s).link = s.link ∧ (sendDry n s).prof = s.prof ∧ (sendDry n s).atu = s.atu ∧ (sendDry n s).hstg = s.hstg ∧
    (sendDry n s).saa = s.saa ∧ (sendDry n s).drum = s.drum ∧ (sendDry n s).efe = s.efe ∧ (sendDry n s).mest = s.mest ∧
    (sendDry n s).cpx = s.cpx ∧ (sendDry n s).trip = s.trip ∧ (sendDry n s).pending = s.pending ∧
    (sendDry n s).freeCount = s.freeCount := by
  simp [sendDry]

@[simp] theorem handCondition_frame (c : TripCause) (s : State) :
    (handCondition c s).link = s.link ∧ (handCondition c s).prof = s.prof ∧ (handCondition c s).atu = s.atu ∧
    (handCondition c s).hstg = s.hstg ∧ (handCondition c s).saa = s.saa ∧ (handCondition c s).drum = s.drum ∧
    (handCondition c s).efe = s.efe ∧ (handCondition c s).mest = s.mest ∧ (handCondition c s).cpx = s.cpx ∧
    (handCondition c s).trip = s.trip ∧ (handCondition c s).pending = s.pending ∧
    (handCondition c s).freeCount = s.freeCount := by
  simp [handCondition]

@[simp] theorem handConditionEnd_frame (c : TripCause) (s : State) :
    (handConditionEnd c s).link = s.link ∧ (handConditionEnd c s).prof = s.prof ∧ (handConditionEnd c s).atu = s.atu ∧
    (handConditionEnd c s).hstg = s.hstg ∧ (handConditionEnd c s).saa = s.saa ∧ (handConditionEnd c s).drum = s.drum ∧
    (handConditionEnd c s).efe = s.efe ∧ (handConditionEnd c s).mest = s.mest ∧ (handConditionEnd c s).cpx = s.cpx ∧
    (handConditionEnd c s).trip = s.trip ∧ (handConditionEnd c s).pending = s.pending ∧
    (handConditionEnd c s).freeCount = s.freeCount := by
  simp [handConditionEnd]

@[simp] theorem putReply_frame (kind tag : Byte) (code : ReplyCode) (s : State) :
    (putReply kind tag code s).prof = s.prof ∧ (putReply kind tag code s).atu = s.atu ∧
    (putReply kind tag code s).hstg = s.hstg ∧ (putReply kind tag code s).saa = s.saa ∧
    (putReply kind tag code s).drum = s.drum ∧ (putReply kind tag code s).efe = s.efe ∧
    (putReply kind tag code s).mest = s.mest ∧ (putReply kind tag code s).cpx = s.cpx ∧
    (putReply kind tag code s).trip = s.trip ∧ (putReply kind tag code s).paths = s.paths ∧
    (putReply kind tag code s).pending = s.pending ∧ (putReply kind tag code s).freeCount = s.freeCount := by
  simp [putReply]

/-! ### Hstg.lean -/

@[simp] theorem State.updElem_frame (s : State) (e : Element) (f : ElementRec → ElementRec) :
    (s.updElem e f).link = s.link ∧ (s.updElem e f).prof = s.prof ∧ (s.updElem e f).atu = s.atu ∧
    (s.updElem e f).saa = s.saa ∧ (s.updElem e f).drum = s.drum ∧ (s.updElem e f).efe = s.efe ∧
    (s.updElem e f).mest = s.mest ∧ (s.updElem e f).cpx = s.cpx ∧ (s.updElem e f).trip = s.trip ∧
    (s.updElem e f).paths = s.paths ∧ (s.updElem e f).pending = s.pending ∧ (s.updElem e f).freeCount = s.freeCount := by
  simp [State.updElem]

@[simp] theorem setHeatEnable_frame (b : Bool) (s : State) :
    (setHeatEnable b s).link = s.link ∧ (setHeatEnable b s).prof = s.prof ∧ (setHeatEnable b s).atu = s.atu ∧
    (setHeatEnable b s).saa = s.saa ∧ (setHeatEnable b s).drum = s.drum ∧ (setHeatEnable b s).efe = s.efe ∧
    (setHeatEnable b s).mest = s.mest ∧ (setHeatEnable b s).cpx = s.cpx ∧ (setHeatEnable b s).trip = s.trip ∧
    (setHeatEnable b s).paths = s.paths ∧ (setHeatEnable b s).pending = s.pending ∧
    (setHeatEnable b s).freeCount = s.freeCount := by
  simp [setHeatEnable]

@[simp] theorem deenergize_frame (c : OffCause) (e : Element) (s : State) :
    (deenergize c e s).link = s.link ∧ (deenergize c e s).prof = s.prof ∧ (deenergize c e s).atu = s.atu ∧
    (deenergize c e s).saa = s.saa ∧ (deenergize c e s).drum = s.drum ∧ (deenergize c e s).efe = s.efe ∧
    (deenergize c e s).mest = s.mest ∧ (deenergize c e s).cpx = s.cpx ∧ (deenergize c e s).trip = s.trip ∧
    (deenergize c e s).paths = s.paths ∧ (deenergize c e s).pending = s.pending ∧
    (deenergize c e s).freeCount = s.freeCount := by
  simp [deenergize]

@[simp] theorem switchOff_frame (c : OffCause) (e : Element) (s : State) :
    (switchOff c e s).link = s.link ∧ (switchOff c e s).prof = s.prof ∧ (switchOff c e s).atu = s.atu ∧
    (switchOff c e s).saa = s.saa ∧ (switchOff c e s).drum = s.drum ∧ (switchOff c e s).efe = s.efe ∧
    (switchOff c e s).mest = s.mest ∧ (switchOff c e s).cpx = s.cpx ∧ (switchOff c e s).trip = s.trip ∧
    (switchOff c e s).pending = s.pending ∧ (switchOff c e s).freeCount = s.freeCount := by
  simp [switchOff]

@[simp] theorem dropWaiting_frame (e : Element) (s : State) :
    (dropWaiting e s).link = s.link ∧ (dropWaiting e s).prof = s.prof ∧ (dropWaiting e s).atu = s.atu ∧
    (dropWaiting e s).saa = s.saa ∧ (dropWaiting e s).drum = s.drum ∧ (dropWaiting e s).efe = s.efe ∧
    (dropWaiting e s).mest = s.mest ∧ (dropWaiting e s).cpx = s.cpx ∧ (dropWaiting e s).trip = s.trip ∧
    (dropWaiting e s).pending = s.pending ∧ (dropWaiting e s).freeCount = s.freeCount := by
  unfold dropWaiting
  split <;> simp

@[simp] theorem requestElement_frame (e : Element) (s : State) :
    (requestElement e s).link = s.link ∧ (requestElement e s).prof = s.prof ∧ (requestElement e s).atu = s.atu ∧
    (requestElement e s).saa = s.saa ∧ (requestElement e s).drum = s.drum ∧ (requestElement e s).efe = s.efe ∧
    (requestElement e s).mest = s.mest ∧ (requestElement e s).cpx = s.cpx ∧ (requestElement e s).trip = s.trip ∧
    (requestElement e s).pending = s.pending ∧ (requestElement e s).freeCount = s.freeCount := by
  simp [requestElement]

@[simp] theorem choose_frame (e : Element) (s : State) :
    (choose e s).link = s.link ∧ (choose e s).prof = s.prof ∧ (choose e s).atu = s.atu ∧ (choose e s).saa = s.saa ∧
    (choose e s).drum = s.drum ∧ (choose e s).efe = s.efe ∧ (choose e s).mest = s.mest ∧ (choose e s).cpx = s.cpx ∧
    (choose e s).trip = s.trip ∧ (choose e s).pending = s.pending ∧ (choose e s).freeCount = s.freeCount := by
  unfold choose
  simp only []
  (repeat' split) <;> (refine ⟨?_, ?_, ?_, ?_, ?_, ?_, ?_, ?_, ?_, ?_, ?_⟩ <;> simp [foldl_keeps])

@[simp] theorem removeExcess_frame (x : Nat) (s : State) :
    (removeExcess x s).link = s.link ∧ (removeExcess x s).prof = s.prof ∧ (removeExcess x s).atu = s.atu ∧
    (removeExcess x s).saa = s.saa ∧ (removeExcess x s).drum = s.drum ∧ (removeExcess x s).efe = s.efe ∧
    (removeExcess x s).mest = s.mest ∧ (removeExcess x s).cpx = s.cpx ∧ (removeExcess x s).trip = s.trip ∧
    (removeExcess x s).pending = s.pending ∧ (removeExcess x s).freeCount = s.freeCount := by
  unfold removeExcess
  simp only []
  (repeat' split) <;> (refine ⟨?_, ?_, ?_, ?_, ?_, ?_, ?_, ?_, ?_, ?_, ?_⟩ <;> simp [foldl_keeps])

@[simp] theorem chooseMore_frame (y : Nat) (s : State) :
    (chooseMore y s).link = s.link ∧ (chooseMore y s).prof = s.prof ∧ (chooseMore y s).atu = s.atu ∧
    (chooseMore y s).saa = s.saa ∧ (chooseMore y s).drum = s.drum ∧ (chooseMore y s).efe = s.efe ∧
    (chooseMore y s).mest = s.mest ∧ (chooseMore y s).cpx = s.cpx ∧ (chooseMore y s).trip = s.trip ∧
    (chooseMore y s).pending = s.pending ∧ (chooseMore y s).freeCount = s.freeCount := by
  unfold chooseMore
  exact ⟨foldl_keeps State.link _ (by simp) _ _, foldl_keeps State.prof _ (by simp) _ _, foldl_keeps State.atu _ (by
      simp) _ _, foldl_keeps State.saa _ (by simp) _ _, foldl_keeps State.drum _ (by simp) _ _, foldl_keeps State.efe _
      (by simp) _ _, foldl_keeps State.mest _ (by simp) _ _, foldl_keeps State.cpx _ (by simp) _ _, foldl_keeps
      State.trip _ (by simp) _ _, foldl_keeps State.pending _ (by simp) _ _, foldl_keeps State.freeCount _ (by simp) _
      _⟩

@[simp] theorem applyDemand_frame (s : State) :
    (applyDemand s).link = s.link ∧ (applyDemand s).prof = s.prof ∧ (applyDemand s).atu = s.atu ∧
    (applyDemand s).saa = s.saa ∧ (applyDemand s).drum = s.drum ∧ (applyDemand s).efe = s.efe ∧
    (applyDemand s).mest = s.mest ∧ (applyDemand s).cpx = s.cpx ∧ (applyDemand s).trip = s.trip ∧
    (applyDemand s).pending = s.pending ∧ (applyDemand s).freeCount = s.freeCount := by
  unfold applyDemand
  simp only []
  (repeat' split) <;> (refine ⟨?_, ?_, ?_, ?_, ?_, ?_, ?_, ?_, ?_, ?_, ?_⟩ <;> simp [foldl_keeps])

@[simp] theorem setDemand_frame (d : Nat) (s : State) :
    (setDemand d s).link = s.link ∧ (setDemand d s).prof = s.prof ∧ (setDemand d s).atu = s.atu ∧
    (setDemand d s).saa = s.saa ∧ (setDemand d s).drum = s.drum ∧ (setDemand d s).efe = s.efe ∧
    (setDemand d s).mest = s.mest ∧ (setDemand d s).cpx = s.cpx ∧ (setDemand d s).trip = s.trip ∧
    (setDemand d s).pending = s.pending ∧ (setDemand d s).freeCount = s.freeCount := by
  simp [setDemand]

@[simp] theorem stopElement_frame (e : Element) (s : State) :
    (stopElement e s).link = s.link ∧ (stopElement e s).prof = s.prof ∧ (stopElement e s).atu = s.atu ∧
    (stopElement e s).saa = s.saa ∧ (stopElement e s).drum = s.drum ∧ (stopElement e s).efe = s.efe ∧
    (stopElement e s).mest = s.mest ∧ (stopElement e s).cpx = s.cpx ∧ (stopElement e s).trip = s.trip ∧
    (stopElement e s).pending = s.pending ∧ (stopElement e s).freeCount = s.freeCount := by
  unfold stopElement
  split <;> simp

@[simp] theorem hstgStop_frame (b : Bool) (s : State) :
    (hstgStop b s).link = s.link ∧ (hstgStop b s).prof = s.prof ∧ (hstgStop b s).atu = s.atu ∧ (hstgStop b s).saa = s.saa ∧
    (hstgStop b s).drum = s.drum ∧ (hstgStop b s).efe = s.efe ∧ (hstgStop b s).mest = s.mest ∧ (hstgStop b s).cpx = s.cpx ∧
    (hstgStop b s).trip = s.trip ∧ (hstgStop b s).pending = s.pending ∧ (hstgStop b s).freeCount = s.freeCount := by
  unfold hstgStop
  simp only []
  (repeat' split) <;> (refine ⟨?_, ?_, ?_, ?_, ?_, ?_, ?_, ?_, ?_, ?_, ?_⟩ <;> simp [foldl_keeps])

@[simp] theorem hstgStageStart_frame (st : HeatSettings) (s : State) :
    (hstgStageStart st s).link = s.link ∧ (hstgStageStart st s).prof = s.prof ∧ (hstgStageStart st s).atu = s.atu ∧
    (hstgStageStart st s).saa = s.saa ∧ (hstgStageStart st s).drum = s.drum ∧ (hstgStageStart st s).efe = s.efe ∧
    (hstgStageStart st s).mest = s.mest ∧ (hstgStageStart st s).cpx = s.cpx ∧ (hstgStageStart st s).trip = s.trip ∧
    (hstgStageStart st s).pending = s.pending ∧ (hstgStageStart st s).freeCount = s.freeCount := by
  unfold hstgStageStart
  split <;> simp

@[simp] theorem hstgStarved_frame (s : State) :
    (hstgStarved s).link = s.link ∧ (hstgStarved s).prof = s.prof ∧ (hstgStarved s).atu = s.atu ∧
    (hstgStarved s).saa = s.saa ∧ (hstgStarved s).drum = s.drum ∧ (hstgStarved s).efe = s.efe ∧
    (hstgStarved s).mest = s.mest ∧ (hstgStarved s).cpx = s.cpx ∧ (hstgStarved s).trip = s.trip ∧
    (hstgStarved s).pending = s.pending ∧ (hstgStarved s).freeCount = s.freeCount := by
  simp [hstgStarved]

@[simp] theorem hstgResume_frame (b : Bool) (s : State) :
    (hstgResume b s).link = s.link ∧ (hstgResume b s).prof = s.prof ∧ (hstgResume b s).atu = s.atu ∧
    (hstgResume b s).saa = s.saa ∧ (hstgResume b s).drum = s.drum ∧ (hstgResume b s).efe = s.efe ∧
    (hstgResume b s).mest = s.mest ∧ (hstgResume b s).cpx = s.cpx ∧ (hstgResume b s).trip = s.trip ∧
    (hstgResume b s).pending = s.pending ∧ (hstgResume b s).freeCount = s.freeCount := by
  unfold hstgResume
  split <;> simp

@[simp] theorem hstgLoad_frame (st : HeatSettings) (e : Element) (s : State) :
    (hstgLoad st e s).link = s.link ∧ (hstgLoad st e s).prof = s.prof ∧ (hstgLoad st e s).atu = s.atu ∧
    (hstgLoad st e s).saa = s.saa ∧ (hstgLoad st e s).drum = s.drum ∧ (hstgLoad st e s).efe = s.efe ∧
    (hstgLoad st e s).mest = s.mest ∧ (hstgLoad st e s).cpx = s.cpx ∧ (hstgLoad st e s).trip = s.trip ∧
    (hstgLoad st e s).paths = s.paths ∧ (hstgLoad st e s).pending = s.pending ∧
    (hstgLoad st e s).freeCount = s.freeCount := by
  simp [hstgLoad]

@[simp] theorem hstgClose_frame (s : State) :
    (hstgClose s).link = s.link ∧ (hstgClose s).prof = s.prof ∧ (hstgClose s).atu = s.atu ∧ (hstgClose s).saa = s.saa ∧
    (hstgClose s).drum = s.drum ∧ (hstgClose s).efe = s.efe ∧ (hstgClose s).mest = s.mest ∧ (hstgClose s).cpx = s.cpx ∧
    (hstgClose s).trip = s.trip ∧ (hstgClose s).paths = s.paths ∧ (hstgClose s).pending = s.pending ∧
    (hstgClose s).freeCount = s.freeCount := by
  simp [hstgClose]

@[simp] theorem hstgExhaust_frame (v : Int) (s : State) :
    (hstgExhaust v s).link = s.link ∧ (hstgExhaust v s).prof = s.prof ∧ (hstgExhaust v s).atu = s.atu ∧
    (hstgExhaust v s).saa = s.saa ∧ (hstgExhaust v s).drum = s.drum ∧ (hstgExhaust v s).efe = s.efe ∧
    (hstgExhaust v s).mest = s.mest ∧ (hstgExhaust v s).cpx = s.cpx ∧ (hstgExhaust v s).trip = s.trip ∧
    (hstgExhaust v s).pending = s.pending ∧ (hstgExhaust v s).freeCount = s.freeCount := by
  unfold hstgExhaust
  split <;> simp

@[simp] theorem hstgInlet_frame (v : Int) (ok : Bool) (s : State) :
    (hstgInlet v ok s).prof = s.prof ∧ (hstgInlet v ok s).atu = s.atu ∧ (hstgInlet v ok s).saa = s.saa ∧
    (hstgInlet v ok s).drum = s.drum ∧ (hstgInlet v ok s).efe = s.efe ∧ (hstgInlet v ok s).mest = s.mest ∧
    (hstgInlet v ok s).cpx = s.cpx ∧ (hstgInlet v ok s).trip = s.trip ∧ (hstgInlet v ok s).pending = s.pending ∧
    (hstgInlet v ok s).freeCount = s.freeCount := by
  unfold hstgInlet
  (repeat' split) <;> simp

@[simp] theorem rerequest_frame (s : State) :
    (rerequest s).link = s.link ∧ (rerequest s).prof = s.prof ∧ (rerequest s).atu = s.atu ∧ (rerequest s).saa = s.saa ∧
    (rerequest s).drum = s.drum ∧ (rerequest s).efe = s.efe ∧ (rerequest s).mest = s.mest ∧ (rerequest s).cpx = s.cpx ∧
    (rerequest s).trip = s.trip ∧ (rerequest s).pending = s.pending ∧ (rerequest s).freeCount = s.freeCount := by
  unfold rerequest
  split
  · exact ⟨foldl_keeps State.link _ (by simp) _ _, foldl_keeps State.prof _ (by simp) _ _, foldl_keeps State.atu _ (by
      simp) _ _, foldl_keeps State.saa _ (by simp) _ _, foldl_keeps State.drum _ (by simp) _ _, foldl_keeps State.efe _
      (by simp) _ _, foldl_keeps State.mest _ (by simp) _ _, foldl_keeps State.cpx _ (by simp) _ _, foldl_keeps
      State.trip _ (by simp) _ _, foldl_keeps State.pending _ (by simp) _ _, foldl_keeps State.freeCount _ (by simp) _
      _⟩
  · simp

@[simp] theorem hstgProfile_frame (s : State) :
    (hstgProfile s).link = s.link ∧ (hstgProfile s).prof = s.prof ∧ (hstgProfile s).atu = s.atu ∧
    (hstgProfile s).saa = s.saa ∧ (hstgProfile s).drum = s.drum ∧ (hstgProfile s).efe = s.efe ∧
    (hstgProfile s).mest = s.mest ∧ (hstgProfile s).cpx = s.cpx ∧ (hstgProfile s).trip = s.trip ∧
    (hstgProfile s).paths = s.paths ∧ (hstgProfile s).pending = s.pending ∧ (hstgProfile s).freeCount = s.freeCount := by
  unfold hstgProfile
  exact ⟨foldl_keeps State.link _ (by simp) _ _, foldl_keeps State.prof _ (by simp) _ _, foldl_keeps State.atu _ (by
      simp) _ _, foldl_keeps State.saa _ (by simp) _ _, foldl_keeps State.drum _ (by simp) _ _, foldl_keeps State.efe _
      (by simp) _ _, foldl_keeps State.mest _ (by simp) _ _, foldl_keeps State.cpx _ (by simp) _ _, foldl_keeps
      State.trip _ (by simp) _ _, foldl_keeps State.paths _ (by simp) _ _, foldl_keeps State.pending _ (by simp) _ _,
      foldl_keeps State.freeCount _ (by simp) _ _⟩

@[simp] theorem energize_frame (e : Element) (s : State) :
    (energize e s).link = s.link ∧ (energize e s).prof = s.prof ∧ (energize e s).atu = s.atu ∧ (energize e s).saa = s.saa ∧
    (energize e s).drum = s.drum ∧ (energize e s).efe = s.efe ∧ (energize e s).mest = s.mest ∧ (energize e s).cpx = s.cpx ∧
    (energize e s).trip = s.trip ∧ (energize e s).paths = s.paths ∧ (energize e s).pending = s.pending ∧
    (energize e s).freeCount = s.freeCount := by
  simp [energize]

@[simp] theorem takeGrant_frame (e : Element) (s : State) :
    (takeGrant e s).link = s.link ∧ (takeGrant e s).prof = s.prof ∧ (takeGrant e s).atu = s.atu ∧
    (takeGrant e s).saa = s.saa ∧ (takeGrant e s).drum = s.drum ∧ (takeGrant e s).efe = s.efe ∧
    (takeGrant e s).mest = s.mest ∧ (takeGrant e s).cpx = s.cpx ∧ (takeGrant e s).trip = s.trip ∧
    (takeGrant e s).pending = s.pending ∧ (takeGrant e s).freeCount = s.freeCount := by
  unfold takeGrant
  (repeat' split) <;> simp

@[simp] theorem takeShed_frame (e : Element) (s : State) :
    (takeShed e s).link = s.link ∧ (takeShed e s).prof = s.prof ∧ (takeShed e s).atu = s.atu ∧ (takeShed e s).saa = s.saa ∧
    (takeShed e s).drum = s.drum ∧ (takeShed e s).efe = s.efe ∧ (takeShed e s).mest = s.mest ∧ (takeShed e s).cpx = s.cpx ∧
    (takeShed e s).trip = s.trip ∧ (takeShed e s).pending = s.pending ∧ (takeShed e s).freeCount = s.freeCount := by
  unfold takeShed
  split <;> simp

@[simp] theorem minOnExpires_frame (e : Element) (s : State) :
    (minOnExpires e s).link = s.link ∧ (minOnExpires e s).prof = s.prof ∧ (minOnExpires e s).atu = s.atu ∧
    (minOnExpires e s).saa = s.saa ∧ (minOnExpires e s).drum = s.drum ∧ (minOnExpires e s).efe = s.efe ∧
    (minOnExpires e s).mest = s.mest ∧ (minOnExpires e s).cpx = s.cpx ∧ (minOnExpires e s).trip = s.trip ∧
    (minOnExpires e s).pending = s.pending ∧ (minOnExpires e s).freeCount = s.freeCount := by
  unfold minOnExpires
  simp only []
  (repeat' split) <;> (refine ⟨?_, ?_, ?_, ?_, ?_, ?_, ?_, ?_, ?_, ?_, ?_⟩ <;> simp [foldl_keeps])

@[simp] theorem minOffExpires_frame (e : Element) (s : State) :
    (minOffExpires e s).link = s.link ∧ (minOffExpires e s).prof = s.prof ∧ (minOffExpires e s).atu = s.atu ∧
    (minOffExpires e s).saa = s.saa ∧ (minOffExpires e s).drum = s.drum ∧ (minOffExpires e s).efe = s.efe ∧
    (minOffExpires e s).mest = s.mest ∧ (minOffExpires e s).cpx = s.cpx ∧ (minOffExpires e s).trip = s.trip ∧
    (minOffExpires e s).pending = s.pending ∧ (minOffExpires e s).freeCount = s.freeCount := by
  unfold minOffExpires
  split <;> simp

/-! ### Saa.lean -/

@[simp] theorem grantElement_frame (e : Element) (i : Nat) (s : State) :
    (grantElement e i s).link = s.link ∧ (grantElement e i s).prof = s.prof ∧ (grantElement e i s).atu = s.atu ∧
    (grantElement e i s).hstg = s.hstg ∧ (grantElement e i s).drum = s.drum ∧ (grantElement e i s).efe = s.efe ∧
    (grantElement e i s).mest = s.mest ∧ (grantElement e i s).cpx = s.cpx ∧ (grantElement e i s).trip = s.trip ∧
    (grantElement e i s).pending = s.pending ∧ (grantElement e i s).freeCount = s.freeCount := by
  simp [grantElement]

@[simp] theorem serveHeads_frame (n : Nat) (s : State) :
    (serveHeads n s).link = s.link ∧ (serveHeads n s).prof = s.prof ∧ (serveHeads n s).atu = s.atu ∧
    (serveHeads n s).hstg = s.hstg ∧ (serveHeads n s).drum = s.drum ∧ (serveHeads n s).efe = s.efe ∧
    (serveHeads n s).mest = s.mest ∧ (serveHeads n s).cpx = s.cpx ∧ (serveHeads n s).trip = s.trip ∧
    (serveHeads n s).pending = s.pending ∧ (serveHeads n s).freeCount = s.freeCount := by
  induction n generalizing s with
  | zero => simp [serveHeads]
  | succ n ih => simp only [serveHeads]; split <;> (try split) <;> simp [ih]

@[simp] theorem serveQueue_frame (s : State) :
    (serveQueue s).link = s.link ∧ (serveQueue s).prof = s.prof ∧ (serveQueue s).atu = s.atu ∧ (serveQueue s).hstg = s.hstg ∧
    (serveQueue s).drum = s.drum ∧ (serveQueue s).efe = s.efe ∧ (serveQueue s).mest = s.mest ∧ (serveQueue s).cpx = s.cpx ∧
    (serveQueue s).trip = s.trip ∧ (serveQueue s).pending = s.pending ∧ (serveQueue s).freeCount = s.freeCount := by
  unfold serveQueue
  split <;> simp

@[simp] theorem shedEntry_frame (e : Element) (s : State) :
    (shedEntry e s).link = s.link ∧ (shedEntry e s).prof = s.prof ∧ (shedEntry e s).atu = s.atu ∧
    (shedEntry e s).hstg = s.hstg ∧ (shedEntry e s).drum = s.drum ∧ (shedEntry e s).efe = s.efe ∧
    (shedEntry e s).mest = s.mest ∧ (shedEntry e s).cpx = s.cpx ∧ (shedEntry e s).trip = s.trip ∧
    (shedEntry e s).pending = s.pending ∧ (shedEntry e s).freeCount = s.freeCount := by
  simp [shedEntry]

@[simp] theorem shedUntil_frame (need : Int) (es : List Element) (s : State) :
    (shedUntil need es s).link = s.link ∧ (shedUntil need es s).prof = s.prof ∧ (shedUntil need es s).atu = s.atu ∧
    (shedUntil need es s).hstg = s.hstg ∧ (shedUntil need es s).drum = s.drum ∧ (shedUntil need es s).efe = s.efe ∧
    (shedUntil need es s).mest = s.mest ∧ (shedUntil need es s).cpx = s.cpx ∧ (shedUntil need es s).trip = s.trip ∧
    (shedUntil need es s).pending = s.pending ∧ (shedUntil need es s).freeCount = s.freeCount := by
  induction es generalizing s with
  | nil => simp [shedUntil]
  | cons e es ih => simp only [shedUntil]; split <;> simp [ih]

@[simp] theorem grantSurge_frame (s : State) :
    (grantSurge s).link = s.link ∧ (grantSurge s).prof = s.prof ∧ (grantSurge s).atu = s.atu ∧ (grantSurge s).hstg = s.hstg ∧
    (grantSurge s).drum = s.drum ∧ (grantSurge s).efe = s.efe ∧ (grantSurge s).mest = s.mest ∧ (grantSurge s).cpx = s.cpx ∧
    (grantSurge s).trip = s.trip ∧ (grantSurge s).pending = s.pending ∧ (grantSurge s).freeCount = s.freeCount := by
  unfold grantSurge
  split <;> simp

@[simp] theorem recheckSurge_frame (s : State) :
    (recheckSurge s).link = s.link ∧ (recheckSurge s).prof = s.prof ∧ (recheckSurge s).atu = s.atu ∧
    (recheckSurge s).hstg = s.hstg ∧ (recheckSurge s).drum = s.drum ∧ (recheckSurge s).efe = s.efe ∧
    (recheckSurge s).mest = s.mest ∧ (recheckSurge s).cpx = s.cpx ∧ (recheckSurge s).trip = s.trip ∧
    (recheckSurge s).pending = s.pending ∧ (recheckSurge s).freeCount = s.freeCount := by
  unfold recheckSurge
  split <;> simp

@[simp] theorem surgeAsked_frame (n : Byte) (s : State) :
    (surgeAsked n s).link = s.link ∧ (surgeAsked n s).prof = s.prof ∧ (surgeAsked n s).atu = s.atu ∧
    (surgeAsked n s).hstg = s.hstg ∧ (surgeAsked n s).drum = s.drum ∧ (surgeAsked n s).efe = s.efe ∧
    (surgeAsked n s).mest = s.mest ∧ (surgeAsked n s).cpx = s.cpx ∧ (surgeAsked n s).trip = s.trip ∧
    (surgeAsked n s).pending = s.pending ∧ (surgeAsked n s).freeCount = s.freeCount := by
  unfold surgeAsked
  simp only []
  (repeat' split) <;> (refine ⟨?_, ?_, ?_, ?_, ?_, ?_, ?_, ?_, ?_, ?_, ?_⟩ <;> simp [foldl_keeps])

@[simp] theorem endSurge_frame (s : State) :
    (endSurge s).link = s.link ∧ (endSurge s).prof = s.prof ∧ (endSurge s).atu = s.atu ∧ (endSurge s).hstg = s.hstg ∧
    (endSurge s).drum = s.drum ∧ (endSurge s).efe = s.efe ∧ (endSurge s).mest = s.mest ∧ (endSurge s).cpx = s.cpx ∧
    (endSurge s).trip = s.trip ∧ (endSurge s).pending = s.pending ∧ (endSurge s).freeCount = s.freeCount := by
  simp [endSurge]

@[simp] theorem surgeReleased_frame (n : Byte) (s : State) :
    (surgeReleased n s).link = s.link ∧ (surgeReleased n s).prof = s.prof ∧ (surgeReleased n s).atu = s.atu ∧
    (surgeReleased n s).hstg = s.hstg ∧ (surgeReleased n s).drum = s.drum ∧ (surgeReleased n s).efe = s.efe ∧
    (surgeReleased n s).mest = s.mest ∧ (surgeReleased n s).cpx = s.cpx ∧ (surgeReleased n s).trip = s.trip ∧
    (surgeReleased n s).pending = s.pending ∧ (surgeReleased n s).freeCount = s.freeCount := by
  unfold surgeReleased
  split <;> simp

@[simp] theorem surgeWithdrawn_frame (n : Byte) (s : State) :
    (surgeWithdrawn n s).link = s.link ∧ (surgeWithdrawn n s).prof = s.prof ∧ (surgeWithdrawn n s).atu = s.atu ∧
    (surgeWithdrawn n s).hstg = s.hstg ∧ (surgeWithdrawn n s).drum = s.drum ∧ (surgeWithdrawn n s).efe = s.efe ∧
    (surgeWithdrawn n s).mest = s.mest ∧ (surgeWithdrawn n s).cpx = s.cpx ∧ (surgeWithdrawn n s).trip = s.trip ∧
    (surgeWithdrawn n s).pending = s.pending ∧ (surgeWithdrawn n s).freeCount = s.freeCount := by
  unfold surgeWithdrawn
  split <;> simp

@[simp] theorem elementAsked_frame (e : Element) (i : Nat) (s : State) :
    (elementAsked e i s).link = s.link ∧ (elementAsked e i s).prof = s.prof ∧ (elementAsked e i s).atu = s.atu ∧
    (elementAsked e i s).hstg = s.hstg ∧ (elementAsked e i s).drum = s.drum ∧ (elementAsked e i s).efe = s.efe ∧
    (elementAsked e i s).mest = s.mest ∧ (elementAsked e i s).cpx = s.cpx ∧ (elementAsked e i s).trip = s.trip ∧
    (elementAsked e i s).pending = s.pending ∧ (elementAsked e i s).freeCount = s.freeCount := by
  unfold elementAsked
  (repeat' split) <;> simp

@[simp] theorem elementWithdrawn_frame (e : Element) (s : State) :
    (elementWithdrawn e s).link = s.link ∧ (elementWithdrawn e s).prof = s.prof ∧ (elementWithdrawn e s).atu = s.atu ∧
    (elementWithdrawn e s).hstg = s.hstg ∧ (elementWithdrawn e s).drum = s.drum ∧ (elementWithdrawn e s).efe = s.efe ∧
    (elementWithdrawn e s).mest = s.mest ∧ (elementWithdrawn e s).cpx = s.cpx ∧ (elementWithdrawn e s).trip = s.trip ∧
    (elementWithdrawn e s).pending = s.pending ∧ (elementWithdrawn e s).freeCount = s.freeCount := by
  unfold elementWithdrawn
  (repeat' split) <;> simp

@[simp] theorem elementReleased_frame (e : Element) (s : State) :
    (elementReleased e s).link = s.link ∧ (elementReleased e s).prof = s.prof ∧ (elementReleased e s).atu = s.atu ∧
    (elementReleased e s).hstg = s.hstg ∧ (elementReleased e s).drum = s.drum ∧ (elementReleased e s).efe = s.efe ∧
    (elementReleased e s).mest = s.mest ∧ (elementReleased e s).cpx = s.cpx ∧ (elementReleased e s).trip = s.trip ∧
    (elementReleased e s).pending = s.pending ∧ (elementReleased e s).freeCount = s.freeCount := by
  unfold elementReleased
  simp only []
  (repeat' split) <;> (refine ⟨?_, ?_, ?_, ?_, ?_, ?_, ?_, ?_, ?_, ?_, ?_⟩ <;> simp [foldl_keeps])

@[simp] theorem elementFreed_frame (e : Element) (s : State) :
    (elementFreed e s).link = s.link ∧ (elementFreed e s).prof = s.prof ∧ (elementFreed e s).atu = s.atu ∧
    (elementFreed e s).hstg = s.hstg ∧ (elementFreed e s).drum = s.drum ∧ (elementFreed e s).efe = s.efe ∧
    (elementFreed e s).mest = s.mest ∧ (elementFreed e s).cpx = s.cpx ∧ (elementFreed e s).trip = s.trip ∧
    (elementFreed e s).pending = s.pending ∧ (elementFreed e s).freeCount = s.freeCount := by
  unfold elementFreed
  simp only []
  (repeat' split) <;> (refine ⟨?_, ?_, ?_, ?_, ?_, ?_, ?_, ?_, ?_, ?_, ?_⟩ <;> simp [foldl_keeps])

@[simp] theorem grantTimerExpires_frame (s : State) :
    (grantTimerExpires s).prof = s.prof ∧ (grantTimerExpires s).atu = s.atu ∧ (grantTimerExpires s).hstg = s.hstg ∧
    (grantTimerExpires s).drum = s.drum ∧ (grantTimerExpires s).efe = s.efe ∧ (grantTimerExpires s).mest = s.mest ∧
    (grantTimerExpires s).cpx = s.cpx ∧ (grantTimerExpires s).trip = s.trip ∧ (grantTimerExpires s).pending = s.pending ∧
    (grantTimerExpires s).freeCount = s.freeCount := by
  unfold grantTimerExpires
  simp only []
  (repeat' split) <;> (refine ⟨?_, ?_, ?_, ?_, ?_, ?_, ?_, ?_, ?_, ?_⟩ <;> simp [foldl_keeps])

@[simp] theorem allowanceLowered_frame (s : State) :
    (allowanceLowered s).prof = s.prof ∧ (allowanceLowered s).atu = s.atu ∧ (allowanceLowered s).hstg = s.hstg ∧
    (allowanceLowered s).drum = s.drum ∧ (allowanceLowered s).efe = s.efe ∧ (allowanceLowered s).mest = s.mest ∧
    (allowanceLowered s).cpx = s.cpx ∧ (allowanceLowered s).trip = s.trip ∧ (allowanceLowered s).pending = s.pending ∧
    (allowanceLowered s).freeCount = s.freeCount := by
  unfold allowanceLowered
  simp only []
  (repeat' split) <;> (refine ⟨?_, ?_, ?_, ?_, ?_, ?_, ?_, ?_, ?_, ?_⟩ <;> simp [foldl_keeps])

@[simp] theorem allowanceRaised_frame (s : State) :
    (allowanceRaised s).link = s.link ∧ (allowanceRaised s).prof = s.prof ∧ (allowanceRaised s).atu = s.atu ∧
    (allowanceRaised s).hstg = s.hstg ∧ (allowanceRaised s).drum = s.drum ∧ (allowanceRaised s).efe = s.efe ∧
    (allowanceRaised s).mest = s.mest ∧ (allowanceRaised s).cpx = s.cpx ∧ (allowanceRaised s).trip = s.trip ∧
    (allowanceRaised s).pending = s.pending ∧ (allowanceRaised s).freeCount = s.freeCount := by
  unfold allowanceRaised
  split <;> simp

/-- The account at a new profile is empty, and settling it touches SAA and the four paths of the current alone (R124). -/
@[simp] theorem settleAccount_frame (s : State) :
    (settleAccount s).link = s.link ∧ (settleAccount s).prof = s.prof ∧ (settleAccount s).atu = s.atu ∧
    (settleAccount s).hstg = s.hstg ∧ (settleAccount s).drum = s.drum ∧ (settleAccount s).efe = s.efe ∧
    (settleAccount s).mest = s.mest ∧ (settleAccount s).cpx = s.cpx ∧ (settleAccount s).trip = s.trip ∧
    (settleAccount s).pending = s.pending ∧ (settleAccount s).freeCount = s.freeCount ∧
    (settleAccount s).paths.trip = s.paths.trip ∧ (settleAccount s).paths.dry = s.paths.dry := by
  simp [settleAccount]

@[simp] theorem settleAccount_saa (s : State) :
    (settleAccount s).saa.grants = [] ∧ (settleAccount s).saa.queue = [] ∧ (settleAccount s).saa.surge = .idle ∧
    (settleAccount s).saa.grantTimer = none := by
  simp [settleAccount]

@[simp] theorem settleAccount_paths (s : State) :
    (settleAccount s).paths.hstgToSaa = [] ∧ (settleAccount s).paths.saaToHstg = [] ∧
    (settleAccount s).paths.drumToSaa = [] ∧ (settleAccount s).paths.saaToDrum = [] := by
  simp [settleAccount]

/-! ### Mest.lean -/

@[simp] theorem reestimate_frame (s : State) :
    (reestimate s).link = s.link ∧ (reestimate s).prof = s.prof ∧ (reestimate s).atu = s.atu ∧ (reestimate s).hstg = s.hstg ∧
    (reestimate s).saa = s.saa ∧ (reestimate s).drum = s.drum ∧ (reestimate s).efe = s.efe ∧ (reestimate s).cpx = s.cpx ∧
    (reestimate s).trip = s.trip ∧ (reestimate s).paths = s.paths ∧ (reestimate s).pending = s.pending ∧
    (reestimate s).freeCount = s.freeCount := by
  simp [reestimate]

@[simp] theorem mestStageStart_frame (st : MestStage) (s : State) :
    (mestStageStart st s).link = s.link ∧ (mestStageStart st s).prof = s.prof ∧ (mestStageStart st s).atu = s.atu ∧
    (mestStageStart st s).hstg = s.hstg ∧ (mestStageStart st s).saa = s.saa ∧ (mestStageStart st s).drum = s.drum ∧
    (mestStageStart st s).efe = s.efe ∧ (mestStageStart st s).cpx = s.cpx ∧ (mestStageStart st s).trip = s.trip ∧
    (mestStageStart st s).paths = s.paths ∧ (mestStageStart st s).pending = s.pending ∧
    (mestStageStart st s).freeCount = s.freeCount := by
  simp [mestStageStart]

@[simp] theorem mestWithdraw_frame (s : State) :
    (mestWithdraw s).link = s.link ∧ (mestWithdraw s).prof = s.prof ∧ (mestWithdraw s).atu = s.atu ∧
    (mestWithdraw s).hstg = s.hstg ∧ (mestWithdraw s).saa = s.saa ∧ (mestWithdraw s).drum = s.drum ∧
    (mestWithdraw s).efe = s.efe ∧ (mestWithdraw s).cpx = s.cpx ∧ (mestWithdraw s).trip = s.trip ∧
    (mestWithdraw s).paths = s.paths ∧ (mestWithdraw s).pending = s.pending ∧ (mestWithdraw s).freeCount = s.freeCount := by
  simp [mestWithdraw]

@[simp] theorem mestStart_frame (s : State) :
    (mestStart s).link = s.link ∧ (mestStart s).prof = s.prof ∧ (mestStart s).atu = s.atu ∧ (mestStart s).hstg = s.hstg ∧
    (mestStart s).saa = s.saa ∧ (mestStart s).drum = s.drum ∧ (mestStart s).efe = s.efe ∧ (mestStart s).cpx = s.cpx ∧
    (mestStart s).trip = s.trip ∧ (mestStart s).paths = s.paths ∧ (mestStart s).pending = s.pending ∧
    (mestStart s).freeCount = s.freeCount := by
  simp [mestStart]

@[simp] theorem mestResume_frame (s : State) :
    (mestResume s).link = s.link ∧ (mestResume s).prof = s.prof ∧ (mestResume s).atu = s.atu ∧ (mestResume s).hstg = s.hstg ∧
    (mestResume s).saa = s.saa ∧ (mestResume s).drum = s.drum ∧ (mestResume s).efe = s.efe ∧ (mestResume s).cpx = s.cpx ∧
    (mestResume s).trip = s.trip ∧ (mestResume s).paths = s.paths ∧ (mestResume s).pending = s.pending ∧
    (mestResume s).freeCount = s.freeCount := by
  simp [mestResume]

@[simp] theorem mestLoad_frame (st : MestStage) (v : Option Nat) (n : Nat) (b : Bool) (s : State) :
    (mestLoad st v n b s).link = s.link ∧ (mestLoad st v n b s).prof = s.prof ∧ (mestLoad st v n b s).atu = s.atu ∧
    (mestLoad st v n b s).hstg = s.hstg ∧ (mestLoad st v n b s).saa = s.saa ∧ (mestLoad st v n b s).drum = s.drum ∧
    (mestLoad st v n b s).efe = s.efe ∧ (mestLoad st v n b s).cpx = s.cpx ∧ (mestLoad st v n b s).trip = s.trip ∧
    (mestLoad st v n b s).paths = s.paths ∧ (mestLoad st v n b s).pending = s.pending ∧
    (mestLoad st v n b s).freeCount = s.freeCount := by
  simp [mestLoad]

@[simp] theorem mestTangle_frame (s : State) :
    (mestTangle s).link = s.link ∧ (mestTangle s).prof = s.prof ∧ (mestTangle s).atu = s.atu ∧ (mestTangle s).hstg = s.hstg ∧
    (mestTangle s).saa = s.saa ∧ (mestTangle s).drum = s.drum ∧ (mestTangle s).efe = s.efe ∧ (mestTangle s).cpx = s.cpx ∧
    (mestTangle s).trip = s.trip ∧ (mestTangle s).paths = s.paths ∧ (mestTangle s).pending = s.pending ∧
    (mestTangle s).freeCount = s.freeCount := by
  simp [mestTangle]

@[simp] theorem filterUpdate_frame (m : Nat) (s : State) :
    (filterUpdate m s).link = s.link ∧ (filterUpdate m s).prof = s.prof ∧ (filterUpdate m s).atu = s.atu ∧
    (filterUpdate m s).hstg = s.hstg ∧ (filterUpdate m s).saa = s.saa ∧ (filterUpdate m s).drum = s.drum ∧
    (filterUpdate m s).efe = s.efe ∧ (filterUpdate m s).cpx = s.cpx ∧ (filterUpdate m s).trip = s.trip ∧
    (filterUpdate m s).paths = s.paths ∧ (filterUpdate m s).pending = s.pending ∧
    (filterUpdate m s).freeCount = s.freeCount := by
  simp [filterUpdate]

@[simp] theorem signalDry_frame (d : DryTarget) (o v : Nat) (s : State) :
    (signalDry d o v s).prof = s.prof ∧ (signalDry d o v s).atu = s.atu ∧ (signalDry d o v s).hstg = s.hstg ∧
    (signalDry d o v s).saa = s.saa ∧ (signalDry d o v s).drum = s.drum ∧ (signalDry d o v s).efe = s.efe ∧
    (signalDry d o v s).cpx = s.cpx ∧ (signalDry d o v s).trip = s.trip ∧ (signalDry d o v s).pending = s.pending ∧
    (signalDry d o v s).freeCount = s.freeCount := by
  simp [signalDry]

@[simp] theorem judgeDry_frame (s : State) :
    (judgeDry s).prof = s.prof ∧ (judgeDry s).atu = s.atu ∧ (judgeDry s).hstg = s.hstg ∧ (judgeDry s).saa = s.saa ∧
    (judgeDry s).drum = s.drum ∧ (judgeDry s).efe = s.efe ∧ (judgeDry s).cpx = s.cpx ∧ (judgeDry s).trip = s.trip ∧
    (judgeDry s).pending = s.pending ∧ (judgeDry s).freeCount = s.freeCount := by
  unfold judgeDry
  simp only []
  (repeat' split) <;> (refine ⟨?_, ?_, ?_, ?_, ?_, ?_, ?_, ?_, ?_, ?_⟩ <;> simp [foldl_keeps])

@[simp] theorem trendStep_frame (s : State) :
    (trendStep s).link = s.link ∧ (trendStep s).prof = s.prof ∧ (trendStep s).atu = s.atu ∧ (trendStep s).hstg = s.hstg ∧
    (trendStep s).saa = s.saa ∧ (trendStep s).drum = s.drum ∧ (trendStep s).efe = s.efe ∧ (trendStep s).cpx = s.cpx ∧
    (trendStep s).trip = s.trip ∧ (trendStep s).paths = s.paths ∧ (trendStep s).pending = s.pending ∧
    (trendStep s).freeCount = s.freeCount := by
  unfold trendStep
  split <;> simp

@[simp] theorem foldValue_frame (m : Nat) (s : State) :
    (foldValue m s).prof = s.prof ∧ (foldValue m s).atu = s.atu ∧ (foldValue m s).hstg = s.hstg ∧
    (foldValue m s).saa = s.saa ∧ (foldValue m s).drum = s.drum ∧ (foldValue m s).efe = s.efe ∧ (foldValue m s).cpx = s.cpx ∧
    (foldValue m s).trip = s.trip ∧ (foldValue m s).pending = s.pending ∧ (foldValue m s).freeCount = s.freeCount := by
  simp [foldValue]

@[simp] theorem fold_frame (n : Nat) (cls : RevClass) (k w : Nat) (s : State) :
    (fold n cls k w s).1.prof = s.prof ∧ (fold n cls k w s).1.atu = s.atu ∧ (fold n cls k w s).1.hstg = s.hstg ∧
    (fold n cls k w s).1.saa = s.saa ∧ (fold n cls k w s).1.drum = s.drum ∧ (fold n cls k w s).1.efe = s.efe ∧
    (fold n cls k w s).1.cpx = s.cpx ∧ (fold n cls k w s).1.trip = s.trip ∧ (fold n cls k w s).1.pending = s.pending ∧
    (fold n cls k w s).1.freeCount = s.freeCount := by
  unfold fold
  simp only []
  (repeat' split) <;> (refine ⟨?_, ?_, ?_, ?_, ?_, ?_, ?_, ?_, ?_, ?_⟩ <;> simp [foldl_keeps])

/-! ### Drum.lean -/

@[simp] theorem loseLock_frame (s : State) :
    (loseLock s).prof = s.prof ∧ (loseLock s).atu = s.atu ∧ (loseLock s).hstg = s.hstg ∧ (loseLock s).saa = s.saa ∧
    (loseLock s).efe = s.efe ∧ (loseLock s).mest = s.mest ∧ (loseLock s).cpx = s.cpx ∧ (loseLock s).trip = s.trip ∧
    (loseLock s).paths = s.paths ∧ (loseLock s).pending = s.pending ∧ (loseLock s).freeCount = s.freeCount := by
  unfold loseLock
  split <;> simp

@[simp] theorem endMalformedRun_frame (s : State) :
    (endMalformedRun s).link = s.link ∧ (endMalformedRun s).prof = s.prof ∧ (endMalformedRun s).atu = s.atu ∧
    (endMalformedRun s).hstg = s.hstg ∧ (endMalformedRun s).saa = s.saa ∧ (endMalformedRun s).efe = s.efe ∧
    (endMalformedRun s).mest = s.mest ∧ (endMalformedRun s).cpx = s.cpx ∧ (endMalformedRun s).trip = s.trip ∧
    (endMalformedRun s).pending = s.pending ∧ (endMalformedRun s).freeCount = s.freeCount := by
  unfold endMalformedRun
  split <;> simp

@[simp] theorem endStall_frame (s : State) :
    (endStall s).link = s.link ∧ (endStall s).prof = s.prof ∧ (endStall s).atu = s.atu ∧ (endStall s).hstg = s.hstg ∧
    (endStall s).saa = s.saa ∧ (endStall s).efe = s.efe ∧ (endStall s).mest = s.mest ∧ (endStall s).cpx = s.cpx ∧
    (endStall s).trip = s.trip ∧ (endStall s).pending = s.pending ∧ (endStall s).freeCount = s.freeCount := by
  unfold endStall
  split <;> simp

@[simp] theorem enterStopped_frame (s : State) :
    (enterStopped s).link = s.link ∧ (enterStopped s).prof = s.prof ∧ (enterStopped s).atu = s.atu ∧
    (enterStopped s).hstg = s.hstg ∧ (enterStopped s).saa = s.saa ∧ (enterStopped s).efe = s.efe ∧
    (enterStopped s).mest = s.mest ∧ (enterStopped s).cpx = s.cpx ∧ (enterStopped s).trip = s.trip ∧
    (enterStopped s).pending = s.pending ∧ (enterStopped s).freeCount = s.freeCount := by
  simp [enterStopped]

@[simp] theorem enterSurgeWait_frame (s : State) :
    (enterSurgeWait s).link = s.link ∧ (enterSurgeWait s).prof = s.prof ∧ (enterSurgeWait s).atu = s.atu ∧
    (enterSurgeWait s).hstg = s.hstg ∧ (enterSurgeWait s).saa = s.saa ∧ (enterSurgeWait s).efe = s.efe ∧
    (enterSurgeWait s).mest = s.mest ∧ (enterSurgeWait s).cpx = s.cpx ∧ (enterSurgeWait s).trip = s.trip ∧
    (enterSurgeWait s).pending = s.pending ∧ (enterSurgeWait s).freeCount = s.freeCount := by
  simp [enterSurgeWait]

@[simp] theorem startFromRest_frame (s : State) :
    (startFromRest s).link = s.link ∧ (startFromRest s).prof = s.prof ∧ (startFromRest s).atu = s.atu ∧
    (startFromRest s).hstg = s.hstg ∧ (startFromRest s).saa = s.saa ∧ (startFromRest s).efe = s.efe ∧
    (startFromRest s).mest = s.mest ∧ (startFromRest s).cpx = s.cpx ∧ (startFromRest s).trip = s.trip ∧
    (startFromRest s).pending = s.pending ∧ (startFromRest s).freeCount = s.freeCount := by
  simp [startFromRest]

@[simp] theorem enterDecel_frame (b : Bool) (s : State) :
    (enterDecel b s).prof = s.prof ∧ (enterDecel b s).atu = s.atu ∧ (enterDecel b s).hstg = s.hstg ∧
    (enterDecel b s).saa = s.saa ∧ (enterDecel b s).efe = s.efe ∧ (enterDecel b s).mest = s.mest ∧
    (enterDecel b s).cpx = s.cpx ∧ (enterDecel b s).trip = s.trip ∧ (enterDecel b s).paths = s.paths ∧
    (enterDecel b s).pending = s.pending ∧ (enterDecel b s).freeCount = s.freeCount := by
  unfold enterDecel
  split <;> simp

@[simp] theorem endDwell_frame (s : State) :
    (endDwell s).link = s.link ∧ (endDwell s).prof = s.prof ∧ (endDwell s).atu = s.atu ∧ (endDwell s).hstg = s.hstg ∧
    (endDwell s).saa = s.saa ∧ (endDwell s).efe = s.efe ∧ (endDwell s).mest = s.mest ∧ (endDwell s).cpx = s.cpx ∧
    (endDwell s).trip = s.trip ∧ (endDwell s).pending = s.pending ∧ (endDwell s).freeCount = s.freeCount := by
  simp [endDwell]

@[simp] theorem enterDwell_frame (s : State) :
    (enterDwell s).link = s.link ∧ (enterDwell s).prof = s.prof ∧ (enterDwell s).atu = s.atu ∧ (enterDwell s).hstg = s.hstg ∧
    (enterDwell s).saa = s.saa ∧ (enterDwell s).efe = s.efe ∧ (enterDwell s).mest = s.mest ∧ (enterDwell s).cpx = s.cpx ∧
    (enterDwell s).trip = s.trip ∧ (enterDwell s).pending = s.pending ∧ (enterDwell s).freeCount = s.freeCount := by
  unfold enterDwell
  split <;> simp

@[simp] theorem runRequest_frame (s : State) :
    (runRequest s).link = s.link ∧ (runRequest s).prof = s.prof ∧ (runRequest s).atu = s.atu ∧ (runRequest s).hstg = s.hstg ∧
    (runRequest s).saa = s.saa ∧ (runRequest s).efe = s.efe ∧ (runRequest s).mest = s.mest ∧ (runRequest s).cpx = s.cpx ∧
    (runRequest s).trip = s.trip ∧ (runRequest s).pending = s.pending ∧ (runRequest s).freeCount = s.freeCount := by
  unfold runRequest
  (repeat' split) <;> simp

@[simp] theorem drumStop_frame (s : State) :
    (drumStop s).prof = s.prof ∧ (drumStop s).atu = s.atu ∧ (drumStop s).hstg = s.hstg ∧ (drumStop s).saa = s.saa ∧
    (drumStop s).efe = s.efe ∧ (drumStop s).mest = s.mest ∧ (drumStop s).cpx = s.cpx ∧ (drumStop s).trip = s.trip ∧
    (drumStop s).pending = s.pending ∧ (drumStop s).freeCount = s.freeCount := by
  unfold drumStop
  split <;> simp

@[simp] theorem burstRequest_frame (s : State) :
    (burstRequest s).link = s.link ∧ (burstRequest s).prof = s.prof ∧ (burstRequest s).atu = s.atu ∧
    (burstRequest s).hstg = s.hstg ∧ (burstRequest s).saa = s.saa ∧ (burstRequest s).efe = s.efe ∧
    (burstRequest s).mest = s.mest ∧ (burstRequest s).cpx = s.cpx ∧ (burstRequest s).trip = s.trip ∧
    (burstRequest s).pending = s.pending ∧ (burstRequest s).freeCount = s.freeCount := by
  unfold burstRequest
  split <;> simp

@[simp] theorem takeSurge_frame (n : Byte) (s : State) :
    (takeSurge n s).link = s.link ∧ (takeSurge n s).prof = s.prof ∧ (takeSurge n s).atu = s.atu ∧
    (takeSurge n s).hstg = s.hstg ∧ (takeSurge n s).saa = s.saa ∧ (takeSurge n s).efe = s.efe ∧
    (takeSurge n s).mest = s.mest ∧ (takeSurge n s).cpx = s.cpx ∧ (takeSurge n s).trip = s.trip ∧
    (takeSurge n s).pending = s.pending ∧ (takeSurge n s).freeCount = s.freeCount := by
  unfold takeSurge
  split <;> simp

@[simp] theorem stopDetected_frame (s : State) :
    (stopDetected s).link = s.link ∧ (stopDetected s).prof = s.prof ∧ (stopDetected s).atu = s.atu ∧
    (stopDetected s).hstg = s.hstg ∧ (stopDetected s).saa = s.saa ∧ (stopDetected s).efe = s.efe ∧
    (stopDetected s).mest = s.mest ∧ (stopDetected s).cpx = s.cpx ∧ (stopDetected s).trip = s.trip ∧
    (stopDetected s).pending = s.pending ∧ (stopDetected s).freeCount = s.freeCount := by
  unfold stopDetected
  simp only []
  (repeat' split) <;> (refine ⟨?_, ?_, ?_, ?_, ?_, ?_, ?_, ?_, ?_, ?_, ?_⟩ <;> simp [foldl_keeps])

@[simp] theorem drumStageStart_frame (k : StageKind) (i n : Nat) (s : State) :
    (drumStageStart k i n s).link = s.link ∧ (drumStageStart k i n s).prof = s.prof ∧ (drumStageStart k i n s).atu = s.atu ∧
    (drumStageStart k i n s).hstg = s.hstg ∧ (drumStageStart k i n s).saa = s.saa ∧ (drumStageStart k i n s).efe = s.efe ∧
    (drumStageStart k i n s).mest = s.mest ∧ (drumStageStart k i n s).cpx = s.cpx ∧ (drumStageStart k i n s).trip = s.trip ∧
    (drumStageStart k i n s).paths = s.paths ∧ (drumStageStart k i n s).pending = s.pending ∧
    (drumStageStart k i n s).freeCount = s.freeCount := by
  simp [drumStageStart]

@[simp] theorem drumLoad_frame (k : StageKind) (i n : Nat) (v : Int) (m : Nat) (d : Direction) (s : State) :
    (drumLoad k i n v m d s).link = s.link ∧ (drumLoad k i n v m d s).prof = s.prof ∧ (drumLoad k i n v m d s).atu = s.atu ∧
    (drumLoad k i n v m d s).hstg = s.hstg ∧ (drumLoad k i n v m d s).saa = s.saa ∧ (drumLoad k i n v m d s).efe = s.efe ∧
    (drumLoad k i n v m d s).mest = s.mest ∧ (drumLoad k i n v m d s).cpx = s.cpx ∧ (drumLoad k i n v m d s).trip = s.trip ∧
    (drumLoad k i n v m d s).paths = s.paths ∧ (drumLoad k i n v m d s).pending = s.pending ∧
    (drumLoad k i n v m d s).freeCount = s.freeCount := by
  simp [drumLoad]

@[simp] theorem drumResume_frame (s : State) :
    (drumResume s).link = s.link ∧ (drumResume s).prof = s.prof ∧ (drumResume s).atu = s.atu ∧ (drumResume s).hstg = s.hstg ∧
    (drumResume s).saa = s.saa ∧ (drumResume s).efe = s.efe ∧ (drumResume s).mest = s.mest ∧ (drumResume s).cpx = s.cpx ∧
    (drumResume s).trip = s.trip ∧ (drumResume s).paths = s.paths ∧ (drumResume s).pending = s.pending ∧
    (drumResume s).freeCount = s.freeCount := by
  simp [drumResume]

@[simp] theorem closeLock_frame (q : Measured) (s : State) :
    (closeLock q s).prof = s.prof ∧ (closeLock q s).atu = s.atu ∧ (closeLock q s).hstg = s.hstg ∧
    (closeLock q s).saa = s.saa ∧ (closeLock q s).efe = s.efe ∧ (closeLock q s).mest = s.mest ∧ (closeLock q s).cpx = s.cpx ∧
    (closeLock q s).trip = s.trip ∧ (closeLock q s).paths = s.paths ∧ (closeLock q s).pending = s.pending ∧
    (closeLock q s).freeCount = s.freeCount := by
  unfold closeLock
  split <;> simp

@[simp] theorem closeRegulate_frame (q : Measured) (s : State) :
    (closeRegulate q s).link = s.link ∧ (closeRegulate q s).prof = s.prof ∧ (closeRegulate q s).atu = s.atu ∧
    (closeRegulate q s).hstg = s.hstg ∧ (closeRegulate q s).saa = s.saa ∧ (closeRegulate q s).efe = s.efe ∧
    (closeRegulate q s).mest = s.mest ∧ (closeRegulate q s).cpx = s.cpx ∧ (closeRegulate q s).trip = s.trip ∧
    (closeRegulate q s).paths = s.paths ∧ (closeRegulate q s).pending = s.pending ∧
    (closeRegulate q s).freeCount = s.freeCount := by
  unfold closeRegulate
  split <;> simp

@[simp] theorem closeMalformed_frame (q : Measured) (s : State) :
    (closeMalformed q s).prof = s.prof ∧ (closeMalformed q s).atu = s.atu ∧ (closeMalformed q s).hstg = s.hstg ∧
    (closeMalformed q s).saa = s.saa ∧ (closeMalformed q s).efe = s.efe ∧ (closeMalformed q s).mest = s.mest ∧
    (closeMalformed q s).cpx = s.cpx ∧ (closeMalformed q s).trip = s.trip ∧ (closeMalformed q s).pending = s.pending ∧
    (closeMalformed q s).freeCount = s.freeCount := by
  unfold closeMalformed
  (repeat' split) <;> simp

@[simp] theorem closeHistory_frame (r : RevRecord) (s : State) :
    (closeHistory r s).link = s.link ∧ (closeHistory r s).prof = s.prof ∧ (closeHistory r s).atu = s.atu ∧
    (closeHistory r s).hstg = s.hstg ∧ (closeHistory r s).saa = s.saa ∧ (closeHistory r s).efe = s.efe ∧
    (closeHistory r s).mest = s.mest ∧ (closeHistory r s).cpx = s.cpx ∧ (closeHistory r s).trip = s.trip ∧
    (closeHistory r s).paths = s.paths ∧ (closeHistory r s).pending = s.pending ∧
    (closeHistory r s).freeCount = s.freeCount := by
  simp [closeHistory]

@[simp] theorem closeCount_frame (s : State) :
    (closeCount s).link = s.link ∧ (closeCount s).prof = s.prof ∧ (closeCount s).atu = s.atu ∧ (closeCount s).hstg = s.hstg ∧
    (closeCount s).saa = s.saa ∧ (closeCount s).efe = s.efe ∧ (closeCount s).mest = s.mest ∧ (closeCount s).cpx = s.cpx ∧
    (closeCount s).trip = s.trip ∧ (closeCount s).paths = s.paths ∧ (closeCount s).pending = s.pending ∧
    (closeCount s).freeCount = s.freeCount := by
  unfold closeCount
  split <;> simp

@[simp] theorem forceReversal_frame (q : Measured) (i : Nat) (s : State) :
    (forceReversal q i s).prof = s.prof ∧ (forceReversal q i s).atu = s.atu ∧ (forceReversal q i s).hstg = s.hstg ∧
    (forceReversal q i s).saa = s.saa ∧ (forceReversal q i s).efe = s.efe ∧ (forceReversal q i s).cpx = s.cpx ∧
    (forceReversal q i s).trip = s.trip ∧ (forceReversal q i s).paths = s.paths ∧ (forceReversal q i s).pending = s.pending ∧
    (forceReversal q i s).freeCount = s.freeCount := by
  unfold forceReversal
  simp only []
  (repeat' split) <;> (refine ⟨?_, ?_, ?_, ?_, ?_, ?_, ?_, ?_, ?_, ?_⟩ <;> simp [foldl_keeps])

@[simp] theorem closeTangle_frame (q : Measured) (s : State) :
    (closeTangle q s).1.prof = s.prof ∧ (closeTangle q s).1.atu = s.atu ∧ (closeTangle q s).1.hstg = s.hstg ∧
    (closeTangle q s).1.saa = s.saa ∧ (closeTangle q s).1.efe = s.efe ∧ (closeTangle q s).1.cpx = s.cpx ∧
    (closeTangle q s).1.trip = s.trip ∧ (closeTangle q s).1.paths = s.paths ∧ (closeTangle q s).1.pending = s.pending ∧
    (closeTangle q s).1.freeCount = s.freeCount := by
  unfold closeTangle
  (repeat' split) <;> simp

@[simp] theorem closeTurn_frame (b : Bool) (s : State) :
    (closeTurn b s).prof = s.prof ∧ (closeTurn b s).atu = s.atu ∧ (closeTurn b s).hstg = s.hstg ∧
    (closeTurn b s).saa = s.saa ∧ (closeTurn b s).efe = s.efe ∧ (closeTurn b s).mest = s.mest ∧ (closeTurn b s).cpx = s.cpx ∧
    (closeTurn b s).trip = s.trip ∧ (closeTurn b s).pending = s.pending ∧ (closeTurn b s).freeCount = s.freeCount := by
  unfold closeTurn
  (repeat' split) <;> simp

@[simp] theorem closeRevolution_frame (ms : Nat) (o : OpenRev) (m k w : Nat) (s : State) :
    (closeRevolution ms o m k w s).prof = s.prof ∧ (closeRevolution ms o m k w s).atu = s.atu ∧
    (closeRevolution ms o m k w s).hstg = s.hstg ∧ (closeRevolution ms o m k w s).saa = s.saa ∧
    (closeRevolution ms o m k w s).efe = s.efe ∧ (closeRevolution ms o m k w s).cpx = s.cpx ∧
    (closeRevolution ms o m k w s).trip = s.trip ∧ (closeRevolution ms o m k w s).pending = s.pending ∧
    (closeRevolution ms o m k w s).freeCount = s.freeCount := by
  simp [closeRevolution]

@[simp] theorem endAccel_frame (s : State) :
    (endAccel s).link = s.link ∧ (endAccel s).prof = s.prof ∧ (endAccel s).atu = s.atu ∧ (endAccel s).hstg = s.hstg ∧
    (endAccel s).saa = s.saa ∧ (endAccel s).efe = s.efe ∧ (endAccel s).mest = s.mest ∧ (endAccel s).cpx = s.cpx ∧
    (endAccel s).trip = s.trip ∧ (endAccel s).pending = s.pending ∧ (endAccel s).freeCount = s.freeCount := by
  unfold endAccel
  split <;> simp

@[simp] theorem drumMarker_frame (ms m k w : Nat) (s : State) :
    (drumMarker ms m k w s).prof = s.prof ∧ (drumMarker ms m k w s).atu = s.atu ∧ (drumMarker ms m k w s).hstg = s.hstg ∧
    (drumMarker ms m k w s).saa = s.saa ∧ (drumMarker ms m k w s).efe = s.efe ∧ (drumMarker ms m k w s).cpx = s.cpx ∧
    (drumMarker ms m k w s).trip = s.trip ∧ (drumMarker ms m k w s).pending = s.pending ∧
    (drumMarker ms m k w s).freeCount = s.freeCount := by
  unfold drumMarker
  simp only []
  (repeat' split) <;> (refine ⟨?_, ?_, ?_, ?_, ?_, ?_, ?_, ?_, ?_⟩ <;> simp [foldl_keeps])

@[simp] theorem stallExpires_frame (s : State) :
    (stallExpires s).link = s.link ∧ (stallExpires s).prof = s.prof ∧ (stallExpires s).atu = s.atu ∧
    (stallExpires s).hstg = s.hstg ∧ (stallExpires s).saa = s.saa ∧ (stallExpires s).efe = s.efe ∧
    (stallExpires s).mest = s.mest ∧ (stallExpires s).cpx = s.cpx ∧ (stallExpires s).trip = s.trip ∧
    (stallExpires s).pending = s.pending ∧ (stallExpires s).freeCount = s.freeCount := by
  unfold stallExpires
  (repeat' split) <;> simp

/-! ### Atu.lean -/

@[simp] theorem endAirflow_frame (s : State) :
    (endAirflow s).link = s.link ∧ (endAirflow s).prof = s.prof ∧ (endAirflow s).hstg = s.hstg ∧ (endAirflow s).saa = s.saa ∧
    (endAirflow s).drum = s.drum ∧ (endAirflow s).efe = s.efe ∧ (endAirflow s).mest = s.mest ∧ (endAirflow s).cpx = s.cpx ∧
    (endAirflow s).trip = s.trip ∧ (endAirflow s).pending = s.pending ∧ (endAirflow s).freeCount = s.freeCount := by
  unfold endAirflow
  split <;> simp

@[simp] theorem enterOff_frame (s : State) :
    (enterOff s).link = s.link ∧ (enterOff s).prof = s.prof ∧ (enterOff s).saa = s.saa ∧ (enterOff s).drum = s.drum ∧
    (enterOff s).efe = s.efe ∧ (enterOff s).mest = s.mest ∧ (enterOff s).cpx = s.cpx ∧ (enterOff s).trip = s.trip ∧
    (enterOff s).pending = s.pending ∧ (enterOff s).freeCount = s.freeCount := by
  unfold enterOff
  split <;> simp

@[simp] theorem enterOn_frame (s : State) :
    (enterOn s).link = s.link ∧ (enterOn s).prof = s.prof ∧ (enterOn s).hstg = s.hstg ∧ (enterOn s).saa = s.saa ∧
    (enterOn s).drum = s.drum ∧ (enterOn s).efe = s.efe ∧ (enterOn s).mest = s.mest ∧ (enterOn s).cpx = s.cpx ∧
    (enterOn s).trip = s.trip ∧ (enterOn s).paths = s.paths ∧ (enterOn s).pending = s.pending ∧
    (enterOn s).freeCount = s.freeCount := by
  simp [enterOn]

@[simp] theorem enterRunOn_frame (s : State) :
    (enterRunOn s).link = s.link ∧ (enterRunOn s).prof = s.prof ∧ (enterRunOn s).saa = s.saa ∧ (enterRunOn s).drum = s.drum ∧
    (enterRunOn s).efe = s.efe ∧ (enterRunOn s).mest = s.mest ∧ (enterRunOn s).cpx = s.cpx ∧ (enterRunOn s).trip = s.trip ∧
    (enterRunOn s).pending = s.pending ∧ (enterRunOn s).freeCount = s.freeCount := by
  simp [enterRunOn]

@[simp] theorem blowerRequest_frame (q : BlowerRequest) (s : State) :
    (blowerRequest q s).link = s.link ∧ (blowerRequest q s).prof = s.prof ∧ (blowerRequest q s).saa = s.saa ∧
    (blowerRequest q s).drum = s.drum ∧ (blowerRequest q s).efe = s.efe ∧ (blowerRequest q s).mest = s.mest ∧
    (blowerRequest q s).cpx = s.cpx ∧ (blowerRequest q s).trip = s.trip ∧ (blowerRequest q s).pending = s.pending ∧
    (blowerRequest q s).freeCount = s.freeCount := by
  unfold blowerRequest
  (repeat' split) <;> simp

@[simp] theorem raiseAirflow_frame (s : State) :
    (raiseAirflow s).link = s.link ∧ (raiseAirflow s).prof = s.prof ∧ (raiseAirflow s).hstg = s.hstg ∧
    (raiseAirflow s).saa = s.saa ∧ (raiseAirflow s).drum = s.drum ∧ (raiseAirflow s).efe = s.efe ∧
    (raiseAirflow s).mest = s.mest ∧ (raiseAirflow s).cpx = s.cpx ∧ (raiseAirflow s).trip = s.trip ∧
    (raiseAirflow s).pending = s.pending ∧ (raiseAirflow s).freeCount = s.freeCount := by
  unfold raiseAirflow
  split <;> simp

@[simp] theorem pressureConverted_frame (v : Int) (s : State) :
    (pressureConverted v s).link = s.link ∧ (pressureConverted v s).prof = s.prof ∧ (pressureConverted v s).saa = s.saa ∧
    (pressureConverted v s).drum = s.drum ∧ (pressureConverted v s).efe = s.efe ∧ (pressureConverted v s).mest = s.mest ∧
    (pressureConverted v s).cpx = s.cpx ∧ (pressureConverted v s).trip = s.trip ∧
    (pressureConverted v s).pending = s.pending ∧ (pressureConverted v s).freeCount = s.freeCount := by
  unfold pressureConverted
  simp only []
  (repeat' split) <;> (refine ⟨?_, ?_, ?_, ?_, ?_, ?_, ?_, ?_, ?_, ?_⟩ <;> simp [foldl_keeps])

@[simp] theorem judgeSensor_frame (n : Nat) (b : Bool) (s : State) :
    (judgeSensor n b s).link = s.link ∧ (judgeSensor n b s).prof = s.prof ∧ (judgeSensor n b s).hstg = s.hstg ∧
    (judgeSensor n b s).saa = s.saa ∧ (judgeSensor n b s).drum = s.drum ∧ (judgeSensor n b s).efe = s.efe ∧
    (judgeSensor n b s).mest = s.mest ∧ (judgeSensor n b s).cpx = s.cpx ∧ (judgeSensor n b s).trip = s.trip ∧
    (judgeSensor n b s).pending = s.pending ∧ (judgeSensor n b s).freeCount = s.freeCount := by
  unfold judgeSensor
  (repeat' split) <;> simp

@[simp] theorem judgeFire_frame (s : State) :
    (judgeFire s).link = s.link ∧ (judgeFire s).prof = s.prof ∧ (judgeFire s).hstg = s.hstg ∧ (judgeFire s).saa = s.saa ∧
    (judgeFire s).drum = s.drum ∧ (judgeFire s).efe = s.efe ∧ (judgeFire s).mest = s.mest ∧ (judgeFire s).cpx = s.cpx ∧
    (judgeFire s).trip = s.trip ∧ (judgeFire s).pending = s.pending ∧ (judgeFire s).freeCount = s.freeCount := by
  unfold judgeFire
  simp only []
  (repeat' split) <;> (refine ⟨?_, ?_, ?_, ?_, ?_, ?_, ?_, ?_, ?_, ?_, ?_⟩ <;> simp [foldl_keeps])

@[simp] theorem judgeRunOn_frame (s : State) :
    (judgeRunOn s).link = s.link ∧ (judgeRunOn s).prof = s.prof ∧ (judgeRunOn s).saa = s.saa ∧ (judgeRunOn s).drum = s.drum ∧
    (judgeRunOn s).efe = s.efe ∧ (judgeRunOn s).mest = s.mest ∧ (judgeRunOn s).cpx = s.cpx ∧ (judgeRunOn s).trip = s.trip ∧
    (judgeRunOn s).pending = s.pending ∧ (judgeRunOn s).freeCount = s.freeCount := by
  unfold judgeRunOn
  split <;> simp

@[simp] theorem lineConverted_frame (v : Int) (s : State) :
    (lineConverted v s).link = s.link ∧ (lineConverted v s).prof = s.prof ∧ (lineConverted v s).hstg = s.hstg ∧
    (lineConverted v s).saa = s.saa ∧ (lineConverted v s).drum = s.drum ∧ (lineConverted v s).efe = s.efe ∧
    (lineConverted v s).mest = s.mest ∧ (lineConverted v s).cpx = s.cpx ∧ (lineConverted v s).trip = s.trip ∧
    (lineConverted v s).pending = s.pending ∧ (lineConverted v s).freeCount = s.freeCount := by
  unfold lineConverted
  simp only []
  (repeat' split) <;> (refine ⟨?_, ?_, ?_, ?_, ?_, ?_, ?_, ?_, ?_, ?_, ?_⟩ <;> simp [foldl_keeps])

/-! ### Cpx.lean -/

@[simp] theorem reportChange_frame (o : CycleState) (s : State) :
    (reportChange o s).prof = s.prof ∧ (reportChange o s).atu = s.atu ∧ (reportChange o s).hstg = s.hstg ∧
    (reportChange o s).saa = s.saa ∧ (reportChange o s).drum = s.drum ∧ (reportChange o s).efe = s.efe ∧
    (reportChange o s).mest = s.mest ∧ (reportChange o s).cpx = s.cpx ∧ (reportChange o s).trip = s.trip ∧
    (reportChange o s).paths = s.paths ∧ (reportChange o s).pending = s.pending ∧
    (reportChange o s).freeCount = s.freeCount := by
  simp [reportChange]

@[simp] theorem enterCycle_frame (n : CycleState) (s : State) :
    (enterCycle n s).prof = s.prof ∧ (enterCycle n s).atu = s.atu ∧ (enterCycle n s).hstg = s.hstg ∧
    (enterCycle n s).saa = s.saa ∧ (enterCycle n s).drum = s.drum ∧ (enterCycle n s).efe = s.efe ∧
    (enterCycle n s).mest = s.mest ∧ (enterCycle n s).trip = s.trip ∧ (enterCycle n s).paths = s.paths ∧
    (enterCycle n s).pending = s.pending ∧ (enterCycle n s).freeCount = s.freeCount := by
  simp [enterCycle]

@[simp] theorem setPlan_frame (l : List StageRec) (s : State) :
    (setPlan l s).link = s.link ∧ (setPlan l s).prof = s.prof ∧ (setPlan l s).atu = s.atu ∧ (setPlan l s).hstg = s.hstg ∧
    (setPlan l s).saa = s.saa ∧ (setPlan l s).drum = s.drum ∧ (setPlan l s).efe = s.efe ∧ (setPlan l s).mest = s.mest ∧
    (setPlan l s).trip = s.trip ∧ (setPlan l s).paths = s.paths ∧ (setPlan l s).pending = s.pending ∧
    (setPlan l s).freeCount = s.freeCount := by
  simp [setPlan]

@[simp] theorem enterPaused_frame (c : PauseCause) (s : State) :
    (enterPaused c s).prof = s.prof ∧ (enterPaused c s).saa = s.saa ∧ (enterPaused c s).efe = s.efe ∧
    (enterPaused c s).mest = s.mest ∧ (enterPaused c s).trip = s.trip ∧ (enterPaused c s).pending = s.pending ∧
    (enterPaused c s).freeCount = s.freeCount := by
  unfold enterPaused
  split <;> simp

@[simp] theorem enterDone_frame (r : EndReason) (s : State) :
    (enterDone r s).prof = s.prof ∧ (enterDone r s).saa = s.saa ∧ (enterDone r s).efe = s.efe ∧
    (enterDone r s).trip = s.trip ∧ (enterDone r s).pending = s.pending ∧ (enterDone r s).freeCount = s.freeCount := by
  simp [enterDone]

@[simp] theorem enterStarved_frame (s : State) :
    (enterStarved s).prof = s.prof ∧ (enterStarved s).saa = s.saa ∧ (enterStarved s).efe = s.efe ∧
    (enterStarved s).trip = s.trip ∧ (enterStarved s).pending = s.pending ∧ (enterStarved s).freeCount = s.freeCount := by
  unfold enterStarved
  simp only []
  (repeat' split) <;> (refine ⟨?_, ?_, ?_, ?_, ?_, ?_⟩ <;> simp [foldl_keeps])

@[simp] theorem stageStarted_frame (r : StageRec) (s : State) :
    (stageStarted r s).prof = s.prof ∧ (stageStarted r s).saa = s.saa ∧ (stageStarted r s).efe = s.efe ∧
    (stageStarted r s).trip = s.trip ∧ (stageStarted r s).pending = s.pending ∧
    (stageStarted r s).freeCount = s.freeCount := by
  unfold stageStarted
  split <;> simp

@[simp] theorem dropHead_frame (r : ExitReason) (l : List StageRec) (s : State) :
    (dropHead r l s).link = s.link ∧ (dropHead r l s).prof = s.prof ∧ (dropHead r l s).atu = s.atu ∧
    (dropHead r l s).hstg = s.hstg ∧ (dropHead r l s).saa = s.saa ∧ (dropHead r l s).drum = s.drum ∧
    (dropHead r l s).efe = s.efe ∧ (dropHead r l s).mest = s.mest ∧ (dropHead r l s).trip = s.trip ∧
    (dropHead r l s).paths = s.paths ∧ (dropHead r l s).pending = s.pending ∧ (dropHead r l s).freeCount = s.freeCount := by
  simp [dropHead]

@[simp] theorem startStages_frame (l : List StageRec) (s : State) :
    (startStages l s).prof = s.prof ∧ (startStages l s).saa = s.saa ∧ (startStages l s).efe = s.efe ∧
    (startStages l s).trip = s.trip ∧ (startStages l s).pending = s.pending ∧ (startStages l s).freeCount = s.freeCount := by
  induction l generalizing s with
  | nil => simp [startStages]
  | cons r l ih =>
    simp only [startStages]
    split
    · simp
    · split
      · split
        · simp
        · split <;> simp [ih]
      · simp

@[simp] theorem startHead_frame (s : State) :
    (startHead s).prof = s.prof ∧ (startHead s).saa = s.saa ∧ (startHead s).efe = s.efe ∧ (startHead s).trip = s.trip ∧
    (startHead s).pending = s.pending ∧ (startHead s).freeCount = s.freeCount := by
  simp [startHead]

@[simp] theorem retire_frame (r : ExitReason) (s : State) :
    (retire r s).prof = s.prof ∧ (retire r s).saa = s.saa ∧ (retire r s).efe = s.efe ∧ (retire r s).trip = s.trip ∧
    (retire r s).pending = s.pending ∧ (retire r s).freeCount = s.freeCount := by
  unfold retire
  (repeat' split) <;> simp

@[simp] theorem judgeCooled_frame (v : Int) (ok : Bool) (s : State) :
    (judgeCooled v ok s).prof = s.prof ∧ (judgeCooled v ok s).saa = s.saa ∧ (judgeCooled v ok s).efe = s.efe ∧
    (judgeCooled v ok s).trip = s.trip ∧ (judgeCooled v ok s).pending = s.pending ∧
    (judgeCooled v ok s).freeCount = s.freeCount := by
  unfold judgeCooled
  (repeat' split) <;> simp

@[simp] theorem cpxDoorOpened_frame (s : State) :
    (cpxDoorOpened s).prof = s.prof ∧ (cpxDoorOpened s).saa = s.saa ∧ (cpxDoorOpened s).efe = s.efe ∧
    (cpxDoorOpened s).trip = s.trip ∧ (cpxDoorOpened s).pending = s.pending ∧ (cpxDoorOpened s).freeCount = s.freeCount := by
  unfold cpxDoorOpened
  (repeat' split) <;> simp

@[simp] theorem dryReached_frame (o : Nat) (s : State) :
    (dryReached o s).prof = s.prof ∧ (dryReached o s).saa = s.saa ∧ (dryReached o s).efe = s.efe ∧
    (dryReached o s).trip = s.trip ∧ (dryReached o s).pending = s.pending ∧ (dryReached o s).freeCount = s.freeCount := by
  unfold dryReached
  (repeat' split) <;> simp

@[simp] theorem cpxFault_frame (s : State) :
    (cpxFault s).prof = s.prof ∧ (cpxFault s).atu = s.atu ∧ (cpxFault s).hstg = s.hstg ∧ (cpxFault s).saa = s.saa ∧
    (cpxFault s).drum = s.drum ∧ (cpxFault s).efe = s.efe ∧ (cpxFault s).mest = s.mest ∧ (cpxFault s).trip = s.trip ∧
    (cpxFault s).paths = s.paths ∧ (cpxFault s).pending = s.pending ∧ (cpxFault s).freeCount = s.freeCount := by
  unfold cpxFault
  split <;> simp

@[simp] theorem cpxSilence_frame (s : State) :
    (cpxSilence s).prof = s.prof ∧ (cpxSilence s).saa = s.saa ∧ (cpxSilence s).efe = s.efe ∧ (cpxSilence s).mest = s.mest ∧
    (cpxSilence s).trip = s.trip ∧ (cpxSilence s).pending = s.pending ∧ (cpxSilence s).freeCount = s.freeCount := by
  unfold cpxSilence
  split <;> simp

@[simp] theorem judgeCount_frame (s : State) :
    (judgeCount s).prof = s.prof ∧ (judgeCount s).saa = s.saa ∧ (judgeCount s).efe = s.efe ∧ (judgeCount s).trip = s.trip ∧
    (judgeCount s).pending = s.pending ∧ (judgeCount s).freeCount = s.freeCount := by
  unfold judgeCount
  simp only []
  (repeat' split) <;> (refine ⟨?_, ?_, ?_, ?_, ?_, ?_⟩ <;> simp [foldl_keeps])

@[simp] theorem countSecond_frame (s : State) :
    (countSecond s).prof = s.prof ∧ (countSecond s).saa = s.saa ∧ (countSecond s).efe = s.efe ∧
    (countSecond s).trip = s.trip ∧ (countSecond s).pending = s.pending ∧ (countSecond s).freeCount = s.freeCount := by
  unfold countSecond
  split <;> simp

@[simp] theorem starveExpires_frame (s : State) :
    (starveExpires s).prof = s.prof ∧ (starveExpires s).saa = s.saa ∧ (starveExpires s).efe = s.efe ∧
    (starveExpires s).trip = s.trip ∧ (starveExpires s).pending = s.pending ∧ (starveExpires s).freeCount = s.freeCount := by
  unfold starveExpires
  (repeat' split) <;> simp

@[simp] theorem closeCycle_frame (s : State) :
    (closeCycle s).prof = s.prof ∧ (closeCycle s).atu = s.atu ∧ (closeCycle s).saa = s.saa ∧ (closeCycle s).drum = s.drum ∧
    (closeCycle s).efe = s.efe ∧ (closeCycle s).trip = s.trip ∧ (closeCycle s).paths = s.paths ∧
    (closeCycle s).pending = s.pending ∧ (closeCycle s).freeCount = s.freeCount := by
  simp [closeCycle]

@[simp] theorem resumeStage_frame (r : StageRec) (s : State) :
    (resumeStage r s).prof = s.prof ∧ (resumeStage r s).saa = s.saa ∧ (resumeStage r s).efe = s.efe ∧
    (resumeStage r s).trip = s.trip ∧ (resumeStage r s).pending = s.pending ∧ (resumeStage r s).freeCount = s.freeCount := by
  unfold resumeStage
  split <;> simp

@[simp] theorem resumeStarved_frame (s : State) :
    (resumeStarved s).prof = s.prof ∧ (resumeStarved s).saa = s.saa ∧ (resumeStarved s).efe = s.efe ∧
    (resumeStarved s).trip = s.trip ∧ (resumeStarved s).pending = s.pending ∧ (resumeStarved s).freeCount = s.freeCount := by
  unfold resumeStarved
  simp only []
  (repeat' split) <;> (refine ⟨?_, ?_, ?_, ?_, ?_, ?_⟩ <;> simp [foldl_keeps])

@[simp] theorem resumeHead_frame (s : State) :
    (resumeHead s).prof = s.prof ∧ (resumeHead s).saa = s.saa ∧ (resumeHead s).efe = s.efe ∧ (resumeHead s).trip = s.trip ∧
    (resumeHead s).pending = s.pending ∧ (resumeHead s).freeCount = s.freeCount := by
  simp [resumeHead]

@[simp] theorem loadContext_frame (c : ContextRec) (l : LoadedContext) (r : StageRec) (s : State) :
    (loadContext c l r s).prof = s.prof ∧ (loadContext c l r s).atu = s.atu ∧ (loadContext c l r s).saa = s.saa ∧
    (loadContext c l r s).efe = s.efe ∧ (loadContext c l r s).trip = s.trip ∧ (loadContext c l r s).paths = s.paths ∧
    (loadContext c l r s).pending = s.pending ∧ (loadContext c l r s).freeCount = s.freeCount := by
  simp [loadContext]

/-! ### Air.lean -/

@[simp] theorem exhaustConverted_frame (v : Int) (s : State) :
    (exhaustConverted v s).prof = s.prof ∧ (exhaustConverted v s).saa = s.saa ∧ (exhaustConverted v s).efe = s.efe ∧
    (exhaustConverted v s).trip = s.trip ∧ (exhaustConverted v s).pending = s.pending ∧
    (exhaustConverted v s).freeCount = s.freeCount := by
  unfold exhaustConverted
  simp only []
  (repeat' split) <;> (refine ⟨?_, ?_, ?_, ?_, ?_, ?_⟩ <;> simp [foldl_keeps])

@[simp] theorem inletConverted_frame (v : Int) (s : State) :
    (inletConverted v s).prof = s.prof ∧ (inletConverted v s).saa = s.saa ∧ (inletConverted v s).drum = s.drum ∧
    (inletConverted v s).efe = s.efe ∧ (inletConverted v s).mest = s.mest ∧ (inletConverted v s).cpx = s.cpx ∧
    (inletConverted v s).trip = s.trip ∧ (inletConverted v s).pending = s.pending ∧
    (inletConverted v s).freeCount = s.freeCount := by
  simp [inletConverted]

@[simp] theorem doorOpened_frame (s : State) :
    (doorOpened s).prof = s.prof ∧ (doorOpened s).saa = s.saa ∧ (doorOpened s).efe = s.efe ∧ (doorOpened s).trip = s.trip ∧
    (doorOpened s).pending = s.pending ∧ (doorOpened s).freeCount = s.freeCount := by
  unfold doorOpened
  split <;> simp

@[simp] theorem doorDebounced_frame (s : State) :
    (doorDebounced s).prof = s.prof ∧ (doorDebounced s).saa = s.saa ∧ (doorDebounced s).efe = s.efe ∧
    (doorDebounced s).trip = s.trip ∧ (doorDebounced s).pending = s.pending ∧ (doorDebounced s).freeCount = s.freeCount := by
  unfold doorDebounced
  simp only []
  (repeat' split) <;> (refine ⟨?_, ?_, ?_, ?_, ?_, ?_⟩ <;> simp [foldl_keeps])

@[simp] theorem highLimitDebounced_frame (s : State) :
    (highLimitDebounced s).link = s.link ∧ (highLimitDebounced s).prof = s.prof ∧ (highLimitDebounced s).saa = s.saa ∧
    (highLimitDebounced s).drum = s.drum ∧ (highLimitDebounced s).efe = s.efe ∧ (highLimitDebounced s).mest = s.mest ∧
    (highLimitDebounced s).cpx = s.cpx ∧ (highLimitDebounced s).trip = s.trip ∧ (highLimitDebounced s).pending = s.pending ∧
    (highLimitDebounced s).freeCount = s.freeCount := by
  unfold highLimitDebounced
  simp only []
  (repeat' split) <;> (refine ⟨?_, ?_, ?_, ?_, ?_, ?_, ?_, ?_, ?_, ?_⟩ <;> simp [foldl_keeps])

/-! ### Trip.lean -/

@[simp] theorem stopEffects_frame (b : Bool) (s : State) :
    (stopEffects b s).prof = s.prof ∧ (stopEffects b s).saa = s.saa ∧ (stopEffects b s).efe = s.efe ∧
    (stopEffects b s).mest = s.mest ∧ (stopEffects b s).trip = s.trip ∧ (stopEffects b s).pending = s.pending ∧
    (stopEffects b s).freeCount = s.freeCount := by
  unfold stopEffects
  (repeat' split) <;> simp

@[simp] theorem classEffects_frame (c : TripCause) (s : State) :
    (classEffects c s).prof = s.prof ∧ (classEffects c s).saa = s.saa ∧ (classEffects c s).efe = s.efe ∧
    (classEffects c s).mest = s.mest ∧ (classEffects c s).trip = s.trip ∧ (classEffects c s).pending = s.pending ∧
    (classEffects c s).freeCount = s.freeCount := by
  unfold classEffects
  split <;> simp

@[simp] theorem takeCondition_frame (c : TripCause) (s : State) :
    (takeCondition c s).prof = s.prof ∧ (takeCondition c s).saa = s.saa ∧ (takeCondition c s).efe = s.efe ∧
    (takeCondition c s).mest = s.mest ∧ (takeCondition c s).pending = s.pending ∧
    (takeCondition c s).freeCount = s.freeCount := by
  unfold takeCondition
  split <;> simp

@[simp] theorem takeConditionEnd_frame (c : TripCause) (s : State) :
    (takeConditionEnd c s).prof = s.prof ∧ (takeConditionEnd c s).atu = s.atu ∧ (takeConditionEnd c s).hstg = s.hstg ∧
    (takeConditionEnd c s).saa = s.saa ∧ (takeConditionEnd c s).drum = s.drum ∧ (takeConditionEnd c s).efe = s.efe ∧
    (takeConditionEnd c s).mest = s.mest ∧ (takeConditionEnd c s).cpx = s.cpx ∧ (takeConditionEnd c s).paths = s.paths ∧
    (takeConditionEnd c s).pending = s.pending ∧ (takeConditionEnd c s).freeCount = s.freeCount := by
  unfold takeConditionEnd
  split <;> simp

@[simp] theorem tripTakes_frame (m : TripMsg) (s : State) :
    (tripTakes m s).prof = s.prof ∧ (tripTakes m s).saa = s.saa ∧ (tripTakes m s).efe = s.efe ∧
    (tripTakes m s).mest = s.mest ∧ (tripTakes m s).pending = s.pending ∧ (tripTakes m s).freeCount = s.freeCount := by
  simp only [tripTakes]; split <;> simp

@[simp] theorem settleSilence_frame (n : Nat) (ms : List TripMsg) (s : State) :
    (settleSilence n ms s).prof = s.prof ∧ (settleSilence n ms s).saa = s.saa ∧ (settleSilence n ms s).efe = s.efe ∧
    (settleSilence n ms s).mest = s.mest ∧ (settleSilence n ms s).pending = s.pending ∧
    (settleSilence n ms s).freeCount = s.freeCount := by
  induction ms generalizing s n with
  | nil => cases n <;> simp [settleSilence]
  | cons m ms ih =>
    cases n with
    | zero => simp [settleSilence]
    | succ n =>
      by_cases h : s.paths.trip.find? (fun x => decide (x.cause = m.cause)) = some m <;>
        by_cases hc : m.cause = .hostSilent <;> simp_all [settleSilence, takeTripMsg]

@[simp] theorem settleFor_frame (f : InFrame) (s : State) :
    (settleFor f s).prof = s.prof ∧ (settleFor f s).saa = s.saa ∧ (settleFor f s).efe = s.efe ∧
    (settleFor f s).mest = s.mest ∧ (settleFor f s).pending = s.pending ∧ (settleFor f s).freeCount = s.freeCount :=
  settleSilence_frame _ _ _

/-! ### Link.lean -/

@[simp] theorem badFrame_frame (r : BadReason) (s : State) :
    (badFrame r s).prof = s.prof ∧ (badFrame r s).atu = s.atu ∧ (badFrame r s).hstg = s.hstg ∧ (badFrame r s).saa = s.saa ∧
    (badFrame r s).drum = s.drum ∧ (badFrame r s).efe = s.efe ∧ (badFrame r s).mest = s.mest ∧ (badFrame r s).cpx = s.cpx ∧
    (badFrame r s).trip = s.trip ∧ (badFrame r s).paths = s.paths ∧ (badFrame r s).pending = s.pending ∧
    (badFrame r s).freeCount = s.freeCount := by
  simp [badFrame]

@[simp] theorem hearHost_frame (s : State) :
    (hearHost s).prof = s.prof ∧ (hearHost s).atu = s.atu ∧ (hearHost s).hstg = s.hstg ∧ (hearHost s).saa = s.saa ∧
    (hearHost s).drum = s.drum ∧ (hearHost s).efe = s.efe ∧ (hearHost s).mest = s.mest ∧ (hearHost s).cpx = s.cpx ∧
    (hearHost s).trip = s.trip ∧ (hearHost s).pending = s.pending ∧ (hearHost s).freeCount = s.freeCount := by
  unfold hearHost
  split <;> simp

@[simp] theorem admit_frame (l : List Byte) (s : State) :
    (admitFrame l s).prof = s.prof ∧ (admitFrame l s).atu = s.atu ∧ (admitFrame l s).hstg = s.hstg ∧ (admitFrame l s).saa = s.saa ∧
    (admitFrame l s).drum = s.drum ∧ (admitFrame l s).efe = s.efe ∧ (admitFrame l s).mest = s.mest ∧ (admitFrame l s).cpx = s.cpx ∧
    (admitFrame l s).trip = s.trip ∧ (admitFrame l s).pending = s.pending ∧ (admitFrame l s).freeCount = s.freeCount := by
  unfold admitFrame
  simp only []
  (repeat' split) <;> (refine ⟨?_, ?_, ?_, ?_, ?_, ?_, ?_, ?_, ?_, ?_, ?_⟩ <;> simp [foldl_keeps])

@[simp] theorem receive_frame (b : Byte) (s : State) :
    (receive b s).prof = s.prof ∧ (receive b s).atu = s.atu ∧ (receive b s).hstg = s.hstg ∧ (receive b s).saa = s.saa ∧
    (receive b s).drum = s.drum ∧ (receive b s).efe = s.efe ∧ (receive b s).mest = s.mest ∧ (receive b s).cpx = s.cpx ∧
    (receive b s).trip = s.trip ∧ (receive b s).pending = s.pending ∧ (receive b s).freeCount = s.freeCount := by
  unfold receive
  (repeat' split) <;> simp

@[simp] theorem answerBusy_frame (s : State) :
    (answerBusy s).prof = s.prof ∧ (answerBusy s).atu = s.atu ∧ (answerBusy s).hstg = s.hstg ∧ (answerBusy s).saa = s.saa ∧
    (answerBusy s).drum = s.drum ∧ (answerBusy s).efe = s.efe ∧ (answerBusy s).mest = s.mest ∧ (answerBusy s).cpx = s.cpx ∧
    (answerBusy s).trip = s.trip ∧ (answerBusy s).paths = s.paths ∧ (answerBusy s).pending = s.pending ∧
    (answerBusy s).freeCount = s.freeCount := by
  unfold answerBusy
  split <;> simp

@[simp] theorem sendReply_frame (r : OutFrame) (s : State) :
    (sendReply r s).prof = s.prof ∧ (sendReply r s).atu = s.atu ∧ (sendReply r s).hstg = s.hstg ∧
    (sendReply r s).saa = s.saa ∧ (sendReply r s).drum = s.drum ∧ (sendReply r s).efe = s.efe ∧
    (sendReply r s).mest = s.mest ∧ (sendReply r s).cpx = s.cpx ∧ (sendReply r s).trip = s.trip ∧
    (sendReply r s).paths = s.paths ∧ (sendReply r s).pending = s.pending ∧ (sendReply r s).freeCount = s.freeCount := by
  simp [sendReply]

@[simp] theorem sendReport_frame (r : Report) (l : List Report) (s : State) :
    (sendReport r l s).prof = s.prof ∧ (sendReport r l s).atu = s.atu ∧ (sendReport r l s).hstg = s.hstg ∧
    (sendReport r l s).saa = s.saa ∧ (sendReport r l s).drum = s.drum ∧ (sendReport r l s).efe = s.efe ∧
    (sendReport r l s).mest = s.mest ∧ (sendReport r l s).cpx = s.cpx ∧ (sendReport r l s).trip = s.trip ∧
    (sendReport r l s).paths = s.paths ∧ (sendReport r l s).pending = s.pending ∧
    (sendReport r l s).freeCount = s.freeCount := by
  simp [sendReport]

@[simp] theorem frameBoundary_frame (s : State) :
    (frameBoundary s).prof = s.prof ∧ (frameBoundary s).atu = s.atu ∧ (frameBoundary s).hstg = s.hstg ∧
    (frameBoundary s).saa = s.saa ∧ (frameBoundary s).drum = s.drum ∧ (frameBoundary s).efe = s.efe ∧
    (frameBoundary s).mest = s.mest ∧ (frameBoundary s).cpx = s.cpx ∧ (frameBoundary s).trip = s.trip ∧
    (frameBoundary s).paths = s.paths ∧ (frameBoundary s).pending = s.pending ∧
    (frameBoundary s).freeCount = s.freeCount := by
  unfold frameBoundary
  simp only []
  (repeat' split) <;> (refine ⟨?_, ?_, ?_, ?_, ?_, ?_, ?_, ?_, ?_, ?_, ?_, ?_⟩ <;> simp [foldl_keeps])

/-! ### Prof.lean -/

@[simp] theorem applyProfile_frame (p : Profile) (s : State) :
    (applyProfile p s).atu = s.atu ∧ (applyProfile p s).saa = s.saa ∧ (applyProfile p s).efe = s.efe ∧
    (applyProfile p s).mest = s.mest ∧ (applyProfile p s).cpx = s.cpx ∧ (applyProfile p s).trip = s.trip ∧
    (applyProfile p s).paths = s.paths ∧ (applyProfile p s).pending = s.pending ∧
    (applyProfile p s).freeCount = s.freeCount := by
  simp [applyProfile]

@[simp] theorem verifyStore_frame (l : List Byte) (s : State) :
    (verifyStore l s).atu = s.atu ∧ (verifyStore l s).hstg = s.hstg ∧ (verifyStore l s).saa = s.saa ∧
    (verifyStore l s).drum = s.drum ∧ (verifyStore l s).efe = s.efe ∧ (verifyStore l s).mest = s.mest ∧
    (verifyStore l s).cpx = s.cpx ∧ (verifyStore l s).trip = s.trip ∧ (verifyStore l s).paths = s.paths ∧
    (verifyStore l s).pending = s.pending ∧ (verifyStore l s).freeCount = s.freeCount := by
  unfold verifyStore
  (repeat' split) <;> simp

end Sys2Proof.Machine
end

