-- ==== Sys2Proof/WellFormed.lean ====
section
/-! DEFINITION. Which commands are well formed: the operand ranges the spec gives that a constructor's types do not already
enforce. -/

namespace Sys2Proof

/-- A frame's payload is LEN - 2 bytes with LEN at most 200 (R180, R190). -/
def payloadFits (payload : List Byte) : Bool := payload.length ≤ 198

/-- The operand checks of a command. -/
def Instr.wellFormed : Instr → Bool
  | .unknownKindRequest kind _ payload => payloadFits payload && !(knownKinds.contains kind)
  | .probe _ p | .profileSet _ p | .profileGet _ p | .profileStore _ p | .allowanceSet _ p
  | .reportLevelSet _ p | .linkReset _ p | .nop _ p | .patternSet _ p | .patternGet _ p
  | .planAppend _ p | .planClear _ p | .planGet _ p | .start _ p | .pause _ p | .resume _ p
  | .abort _ p | .advance _ p | .cycleClose _ p | .statusGet _ p | .historyGet _ p
  | .trendGet _ p | .tripGet _ p | .tripClear _ p | .contextGet _ p | .contextLoad _ p => payloadFits p
  -- the line-current channel carries 0..6553.5 A (R74)
  | .conversionComplete .lineCurrent raw => decide (0 ≤ raw ∧ raw ≤ 65535)
  | .conversionComplete .exhaust _ | .conversionComplete .inlet _ | .conversionComplete .pressure _ => true
  -- an element request is made for a fitted element's current, 1..1000 (R99, R195)
  | .elementRequest _ current => decide (1 ≤ current ∧ current ≤ 1000)
  -- a dry-reached signal carries a stage ordinal, 0..65535 (R134)
  | .dryReachedSignal ordinal => decide (ordinal ≤ 65535)
  | .rxByte _ | .gapTimerExpiry | .txFrameBoundary | .silenceTimerExpiry | .tachPulse _ _ | .indexMarker _
  | .stopDetectExpiry | .accelTimerExpiry | .dwellExpiry | .stallTimerExpiry | .surgeGrant _
  | .inputLevelChange _ _ | .debounceExpiry _ | .graceTimerExpiry | .lowFlowExpiry | .runOnTimerExpiry
  | .minOnExpiry _ | .minOffExpiry _ | .elementGrant _ | .shed _ | .elementWithdrawal _ | .elementRelease _
  | .onFreeNotice _ | .surgeRequest _ | .surgeRelease _ | .surgeWithdrawal _ | .grantTimerExpiry
  | .oneSecondCount | .starveTimerExpiry | .tripCondition _ | .tripConditionEnd _ | .storeVerify _
  | .powerOn | .brownOut | .pinReset | .linkResetFollows => true

end Sys2Proof
end

