-- ==== Sys2Proof/Laws/PerInstr.lean ====
section
/-! SUPPORT. Per-command lemmas: a well-formed request is the command the request index (11.3) names for the frame it delivers. -/

namespace Sys2Proof.Laws

/-- The KIND, the TAG and the payload of the frame a request command delivers; no frame for any other command. -/
def frameOf : Instr → Option (Byte × Byte × List Byte)
  | .unknownKindRequest k t p => some (k, t, p)
  | .probe t p => some (0x01, t, p)
  | .profileSet t p => some (0x02, t, p)
  | .profileGet t p => some (0x03, t, p)
  | .profileStore t p => some (0x04, t, p)
  | .allowanceSet t p => some (0x05, t, p)
  | .reportLevelSet t p => some (0x06, t, p)
  | .linkReset t p => some (0x07, t, p)
  | .nop t p => some (0x0F, t, p)
  | .patternSet t p => some (0x10, t, p)
  | .patternGet t p => some (0x11, t, p)
  | .planAppend t p => some (0x20, t, p)
  | .planClear t p => some (0x21, t, p)
  | .planGet t p => some (0x22, t, p)
  | .start t p => some (0x30, t, p)
  | .pause t p => some (0x31, t, p)
  | .resume t p => some (0x32, t, p)
  | .abort t p => some (0x33, t, p)
  | .advance t p => some (0x34, t, p)
  | .cycleClose t p => some (0x35, t, p)
  | .statusGet t p => some (0x40, t, p)
  | .historyGet t p => some (0x41, t, p)
  | .trendGet t p => some (0x42, t, p)
  | .tripGet t p => some (0x43, t, p)
  | .tripClear t p => some (0x44, t, p)
  | .contextGet t p => some (0x50, t, p)
  | .contextLoad t p => some (0x51, t, p)
  | .rxByte _ | .gapTimerExpiry | .txFrameBoundary | .silenceTimerExpiry | .tachPulse _ _ | .indexMarker _
  | .stopDetectExpiry | .accelTimerExpiry | .dwellExpiry | .stallTimerExpiry | .surgeGrant _ | .conversionComplete _ _
  | .inputLevelChange _ _ | .debounceExpiry _ | .graceTimerExpiry | .lowFlowExpiry | .runOnTimerExpiry | .minOnExpiry _
  | .minOffExpiry _ | .elementGrant _ | .shed _ | .elementRequest _ _ | .elementWithdrawal _ | .elementRelease _
  | .onFreeNotice _ | .surgeRequest _ | .surgeRelease _ | .surgeWithdrawal _ | .grantTimerExpiry | .oneSecondCount
  | .starveTimerExpiry | .dryReachedSignal _ | .tripCondition _ | .tripConditionEnd _ | .storeVerify _ | .powerOn
  | .brownOut | .pinReset | .linkResetFollows => none

/-- A well-formed request is what `commandOfFrame` names for its own frame, and its payload fits a frame. -/
def Delivery.Statement (i : Instr) : Prop :=
  i.wellFormed = true → ∀ k t p, frameOf i = some (k, t, p) → commandOfFrame k t p = i ∧ p.length ≤ 198

theorem Delivery.rxByte : ∀ a, Delivery.Statement (.rxByte a) := by
  intro a _ _ _ _ h; exact nomatch h

theorem Delivery.gapTimerExpiry : Delivery.Statement .gapTimerExpiry := by
  intro _ _ _ _ h; exact nomatch h

theorem Delivery.txFrameBoundary : Delivery.Statement .txFrameBoundary := by
  intro _ _ _ _ h; exact nomatch h

theorem Delivery.silenceTimerExpiry : Delivery.Statement .silenceTimerExpiry := by
  intro _ _ _ _ h; exact nomatch h

theorem Delivery.tachPulse : ∀ a b, Delivery.Statement (.tachPulse a b) := by
  intro a b _ _ _ _ h; exact nomatch h

theorem Delivery.indexMarker : ∀ a, Delivery.Statement (.indexMarker a) := by
  intro a _ _ _ _ h; exact nomatch h

theorem Delivery.stopDetectExpiry : Delivery.Statement .stopDetectExpiry := by
  intro _ _ _ _ h; exact nomatch h

theorem Delivery.accelTimerExpiry : Delivery.Statement .accelTimerExpiry := by
  intro _ _ _ _ h; exact nomatch h

theorem Delivery.dwellExpiry : Delivery.Statement .dwellExpiry := by
  intro _ _ _ _ h; exact nomatch h

theorem Delivery.stallTimerExpiry : Delivery.Statement .stallTimerExpiry := by
  intro _ _ _ _ h; exact nomatch h

theorem Delivery.surgeGrant : ∀ a, Delivery.Statement (.surgeGrant a) := by
  intro a _ _ _ _ h; exact nomatch h

theorem Delivery.conversionComplete : ∀ a b, Delivery.Statement (.conversionComplete a b) := by
  intro a b _ _ _ _ h; exact nomatch h

theorem Delivery.inputLevelChange : ∀ a b, Delivery.Statement (.inputLevelChange a b) := by
  intro a b _ _ _ _ h; exact nomatch h

theorem Delivery.debounceExpiry : ∀ a, Delivery.Statement (.debounceExpiry a) := by
  intro a _ _ _ _ h; exact nomatch h

theorem Delivery.graceTimerExpiry : Delivery.Statement .graceTimerExpiry := by
  intro _ _ _ _ h; exact nomatch h

theorem Delivery.lowFlowExpiry : Delivery.Statement .lowFlowExpiry := by
  intro _ _ _ _ h; exact nomatch h

theorem Delivery.runOnTimerExpiry : Delivery.Statement .runOnTimerExpiry := by
  intro _ _ _ _ h; exact nomatch h

theorem Delivery.minOnExpiry : ∀ a, Delivery.Statement (.minOnExpiry a) := by
  intro a _ _ _ _ h; exact nomatch h

theorem Delivery.minOffExpiry : ∀ a, Delivery.Statement (.minOffExpiry a) := by
  intro a _ _ _ _ h; exact nomatch h

theorem Delivery.elementGrant : ∀ a, Delivery.Statement (.elementGrant a) := by
  intro a _ _ _ _ h; exact nomatch h

theorem Delivery.shed : ∀ a, Delivery.Statement (.shed a) := by
  intro a _ _ _ _ h; exact nomatch h

theorem Delivery.elementRequest : ∀ a b, Delivery.Statement (.elementRequest a b) := by
  intro a b _ _ _ _ h; exact nomatch h

theorem Delivery.elementWithdrawal : ∀ a, Delivery.Statement (.elementWithdrawal a) := by
  intro a _ _ _ _ h; exact nomatch h

theorem Delivery.elementRelease : ∀ a, Delivery.Statement (.elementRelease a) := by
  intro a _ _ _ _ h; exact nomatch h

theorem Delivery.onFreeNotice : ∀ a, Delivery.Statement (.onFreeNotice a) := by
  intro a _ _ _ _ h; exact nomatch h

theorem Delivery.surgeRequest : ∀ a, Delivery.Statement (.surgeRequest a) := by
  intro a _ _ _ _ h; exact nomatch h

theorem Delivery.surgeRelease : ∀ a, Delivery.Statement (.surgeRelease a) := by
  intro a _ _ _ _ h; exact nomatch h

theorem Delivery.surgeWithdrawal : ∀ a, Delivery.Statement (.surgeWithdrawal a) := by
  intro a _ _ _ _ h; exact nomatch h

theorem Delivery.grantTimerExpiry : Delivery.Statement .grantTimerExpiry := by
  intro _ _ _ _ h; exact nomatch h

theorem Delivery.oneSecondCount : Delivery.Statement .oneSecondCount := by
  intro _ _ _ _ h; exact nomatch h

theorem Delivery.starveTimerExpiry : Delivery.Statement .starveTimerExpiry := by
  intro _ _ _ _ h; exact nomatch h

theorem Delivery.dryReachedSignal : ∀ a, Delivery.Statement (.dryReachedSignal a) := by
  intro a _ _ _ _ h; exact nomatch h

theorem Delivery.tripCondition : ∀ a, Delivery.Statement (.tripCondition a) := by
  intro a _ _ _ _ h; exact nomatch h

theorem Delivery.tripConditionEnd : ∀ a, Delivery.Statement (.tripConditionEnd a) := by
  intro a _ _ _ _ h; exact nomatch h

theorem Delivery.storeVerify : ∀ a, Delivery.Statement (.storeVerify a) := by
  intro a _ _ _ _ h; exact nomatch h

theorem Delivery.powerOn : Delivery.Statement .powerOn := by
  intro _ _ _ _ h; exact nomatch h

theorem Delivery.brownOut : Delivery.Statement .brownOut := by
  intro _ _ _ _ h; exact nomatch h

theorem Delivery.pinReset : Delivery.Statement .pinReset := by
  intro _ _ _ _ h; exact nomatch h

theorem Delivery.linkResetFollows : Delivery.Statement .linkResetFollows := by
  intro _ _ _ _ h; exact nomatch h

/-- A request whose KIND the index lists. -/
theorem request_named {i : Instr} {kind : Byte} {tag : Byte} {payload : List Byte} (hf : frameOf i = some (kind, tag, payload))
    (hc : commandOfFrame kind tag payload = i) (hw : i.wellFormed = true → payloadFits payload = true) :
    Delivery.Statement i := by
  intro h k t p hk
  obtain ⟨rfl, rfl, rfl⟩ : kind = k ∧ tag = t ∧ payload = p := by simpa [hf] using hk
  exact ⟨hc, by simpa [payloadFits] using hw h⟩

theorem Delivery.probe (t : Byte) (p : List Byte) : Delivery.Statement (.probe t p) := request_named rfl rfl id

theorem Delivery.profileSet (t : Byte) (p : List Byte) : Delivery.Statement (.profileSet t p) := request_named rfl rfl id

theorem Delivery.profileGet (t : Byte) (p : List Byte) : Delivery.Statement (.profileGet t p) := request_named rfl rfl id

theorem Delivery.profileStore (t : Byte) (p : List Byte) : Delivery.Statement (.profileStore t p) := request_named rfl rfl id

theorem Delivery.allowanceSet (t : Byte) (p : List Byte) : Delivery.Statement (.allowanceSet t p) := request_named rfl rfl id

theorem Delivery.reportLevelSet (t : Byte) (p : List Byte) : Delivery.Statement (.reportLevelSet t p) := request_named rfl rfl id

theorem Delivery.linkReset (t : Byte) (p : List Byte) : Delivery.Statement (.linkReset t p) := request_named rfl rfl id

theorem Delivery.nop (t : Byte) (p : List Byte) : Delivery.Statement (.nop t p) := request_named rfl rfl id

theorem Delivery.patternSet (t : Byte) (p : List Byte) : Delivery.Statement (.patternSet t p) := request_named rfl rfl id

theorem Delivery.patternGet (t : Byte) (p : List Byte) : Delivery.Statement (.patternGet t p) := request_named rfl rfl id

theorem Delivery.planAppend (t : Byte) (p : List Byte) : Delivery.Statement (.planAppend t p) := request_named rfl rfl id

theorem Delivery.planClear (t : Byte) (p : List Byte) : Delivery.Statement (.planClear t p) := request_named rfl rfl id

theorem Delivery.planGet (t : Byte) (p : List Byte) : Delivery.Statement (.planGet t p) := request_named rfl rfl id

theorem Delivery.start (t : Byte) (p : List Byte) : Delivery.Statement (.start t p) := request_named rfl rfl id

theorem Delivery.pause (t : Byte) (p : List Byte) : Delivery.Statement (.pause t p) := request_named rfl rfl id

theorem Delivery.resume (t : Byte) (p : List Byte) : Delivery.Statement (.resume t p) := request_named rfl rfl id

theorem Delivery.abort (t : Byte) (p : List Byte) : Delivery.Statement (.abort t p) := request_named rfl rfl id

theorem Delivery.advance (t : Byte) (p : List Byte) : Delivery.Statement (.advance t p) := request_named rfl rfl id

theorem Delivery.cycleClose (t : Byte) (p : List Byte) : Delivery.Statement (.cycleClose t p) := request_named rfl rfl id

theorem Delivery.statusGet (t : Byte) (p : List Byte) : Delivery.Statement (.statusGet t p) := request_named rfl rfl id

theorem Delivery.historyGet (t : Byte) (p : List Byte) : Delivery.Statement (.historyGet t p) := request_named rfl rfl id

theorem Delivery.trendGet (t : Byte) (p : List Byte) : Delivery.Statement (.trendGet t p) := request_named rfl rfl id

theorem Delivery.tripGet (t : Byte) (p : List Byte) : Delivery.Statement (.tripGet t p) := request_named rfl rfl id

theorem Delivery.tripClear (t : Byte) (p : List Byte) : Delivery.Statement (.tripClear t p) := request_named rfl rfl id

theorem Delivery.contextGet (t : Byte) (p : List Byte) : Delivery.Statement (.contextGet t p) := request_named rfl rfl id

theorem Delivery.contextLoad (t : Byte) (p : List Byte) : Delivery.Statement (.contextLoad t p) := request_named rfl rfl id

theorem Delivery.unknownKindRequest (k t : Byte) (p : List Byte) : Delivery.Statement (.unknownKindRequest k t p) := by
  intro h k' t' p' hk
  obtain ⟨rfl, rfl, rfl⟩ : k = k' ∧ t = t' ∧ p = p' := by simpa [frameOf] using hk
  obtain ⟨hp, hn⟩ : payloadFits p = true ∧ knownKinds.contains k = false := by simpa [Instr.wellFormed] using h
  refine ⟨?_, by simpa [payloadFits] using hp⟩
  clear h hk
  revert hn
  revert k
  intro k
  have key : ∀ n : Nat, n = k.toNat → knownKinds.contains k = false → commandOfFrame k t p = .unknownKindRequest k t p := by
    intro n hn hk
    unfold commandOfFrame
    split <;> first
      | rfl
      | (rename_i hc; exact absurd hk (by
          have : k = BitVec.ofNat 8 k.toNat := by simp
          rw [this, hc]; decide))
  exact key _ rfl

end Sys2Proof.Laws
end

