-- ==== Sys2Proof/Laws/Requests.lean ====
section
/-! SUPPORT. What the shared operations of Ops.lean and the delivery of a request can do, said once: a statement cites these instead of
unfolding them. -/

namespace Sys2Proof.Machine

/-! ### Reports -/

theorem report_discarded {src : Source} {sev : Severity} {code : Byte} {data : List Byte} {s : State}
    (h : s.link.level < sev.code) : report src sev code data s = s := by
  simp [report, Nat.not_le.mpr h]

theorem report_queued {src : Source} {sev : Severity} {code : Byte} {data : List Byte} {s : State}
    (h : sev.code ≤ s.link.level) (hl : s.link.reports.length < 8) :
    report src sev code data s =
      s.updLink fun l => { l with reports := l.reports ++ [⟨src, sev, code, s.cpx.cycleElapsed, data⟩] } := by
  simp [report, h, queueReport, State.updLink, Config.reportCapacity, hl]

theorem report_lost {src : Source} {sev : Severity} {code : Byte} {data : List Byte} {s : State}
    (h : sev.code ≤ s.link.level) (hl : 8 ≤ s.link.reports.length) :
    report src sev code data s = s.updLink fun l => { l with lost := bump 255 l.lost } := by
  simp [report, h, queueReport, State.updLink, Config.reportCapacity, Nat.not_lt.mpr hl]

/-- A report changes nothing of LINK but the report queue and the lost count. -/
theorem report_link (src : Source) (sev : Severity) (code : Byte) (data : List Byte) (s : State) :
    ∃ reports lost, (report src sev code data s).link = { s.link with reports := reports, lost := lost } := by
  unfold report queueReport
  by_cases h : sev.code ≤ s.link.level
  · by_cases hl : s.link.reports.length < Config.reportCapacity
    · exact ⟨s.link.reports ++ [⟨src, sev, code, s.cpx.cycleElapsed, data⟩], s.link.lost, by simp [h, hl]⟩
    · exact ⟨s.link.reports, bump 255 s.link.lost, by simp [h, hl]⟩
  · exact ⟨s.link.reports, s.link.lost, by simp [h]⟩

/-! ### The re-request of held-back elements (R101) -/

@[simp] theorem requestedAgain_state (r : ElementRec) : (requestedAgain r).state = r.state := by
  unfold requestedAgain; split <;> rfl

theorem requestedAgain_waiting {r : ElementRec} (h : r.state = .waitGrant) : (requestedAgain r).requested = true := by
  simp [requestedAgain, h]

theorem requestedAgain_other {r : ElementRec} (h : r.state ≠ .waitGrant) : requestedAgain r = r := by
  simp [requestedAgain, h]

/-- Behind a closed gate nothing requests again. -/
theorem heldBackRequested_closed {s : State} (h : energizeGate s.atu = false) : heldBackRequested s = s := by
  simp [heldBackRequested, h]

/-- The re-request touches the element records and what HSTG hands SAA alone. -/
@[simp] theorem heldBackRequested_frame (s : State) :
    (heldBackRequested s).link = s.link ∧ (heldBackRequested s).prof = s.prof ∧ (heldBackRequested s).atu = s.atu ∧
    (heldBackRequested s).saa = s.saa ∧ (heldBackRequested s).drum = s.drum ∧ (heldBackRequested s).efe = s.efe ∧
    (heldBackRequested s).mest = s.mest ∧ (heldBackRequested s).cpx = s.cpx ∧ (heldBackRequested s).trip = s.trip ∧
    (heldBackRequested s).paths.trip = s.paths.trip ∧ (heldBackRequested s).pending = s.pending ∧
    (heldBackRequested s).freeCount = s.freeCount := by
  unfold heldBackRequested; split <;> simp

/-- No element changes its state at a re-request. -/
theorem heldBackRequested_state (s : State) (e : Element) : ((heldBackRequested s).elem e).state = (s.elem e).state := by
  unfold heldBackRequested
  split
  · cases e <;> exact requestedAgain_state _
  · rfl

/-! ### The profile applied and the reset of LINK -/

/-- Masking touches the filter exponent alone, so every other field reads through. -/
@[simp] theorem Profile.masked_filterExp (p : Profile) : (Profile.masked p).filterExp = p.filterExp % 8 := rfl
@[simp] theorem Profile.current_masked (p : Profile) (e : Element) : Profile.current (Profile.masked p) e = Profile.current p e := by
  cases e <;> rfl
@[simp] theorem Profile.masked_maxAdjust (p : Profile) : (Profile.masked p).maxAdjust = p.maxAdjust := rfl
@[simp] theorem Profile.masked_silenceTimeout (p : Profile) : (Profile.masked p).silenceTimeout = p.silenceTimeout := rfl
@[simp] theorem Profile.masked_allowance (p : Profile) : (Profile.masked p).allowance = p.allowance := rfl
@[simp] theorem Profile.masked_baseLoad (p : Profile) : (Profile.masked p).baseLoad = p.baseLoad := rfl
@[simp] theorem Profile.masked_windowStart (p : Profile) : (Profile.masked p).windowStart = p.windowStart := rfl
@[simp] theorem Profile.masked_windowLen (p : Profile) : (Profile.masked p).windowLen = p.windowLen := rfl

/-- What a load leaves in force never has an exponent above 7 (R57). -/
theorem loadStore_exponent (stored : List Byte) : (loadStore stored).1.filterExp ≤ 7 := by
  unfold loadStore
  split
  · decide
  · split
    · decide
    · exact Nat.le_of_lt_succ (Nat.mod_lt _ (by decide))

/-- The replies owed are sent exactly when the last was taken and slot, queue and line are empty (R182). -/
theorem repliesSent_iff (l : Link) :
    repliesSent l = true ↔ l.closing = .replyTaken ∧ l.slot = none ∧ l.inbound = [] ∧ l.line = none := by
  simp [repliesSent, and_assoc]

theorem execLinkResetFollows_due {s : State} (h : repliesSent s.link = true) :
    execLinkResetFollows s = .next (resetPart .link s) := by
  simp [execLinkResetFollows, h]

theorem execLinkResetFollows_not_due {s : State} (h : repliesSent s.link = false) : execLinkResetFollows s = .next s := by
  simp [execLinkResetFollows, h]

/-! ### Messages -/

theorem takeHstgMsg_due {m : HstgMsg} {rest : List HstgMsg} {act : State → State} {s : State}
    (h : s.paths.hstgToSaa = m :: rest) :
    takeHstgMsg m act s = act (s.updPaths fun p => { p with hstgToSaa := rest }) := by
  simp [takeHstgMsg, h]

theorem takeHstgMsg_not_due {m : HstgMsg} {act : State → State} {s : State} (h : s.paths.hstgToSaa.head? ≠ some m) :
    takeHstgMsg m act s = s := by
  unfold takeHstgMsg
  split <;> simp_all

theorem takeSaaMsg_due {m : SaaMsg} {rest : List SaaMsg} {act : State → State} {s : State} (h : s.paths.saaToHstg = m :: rest) :
    takeSaaMsg m act s = act (s.updPaths fun p => { p with saaToHstg := rest }) := by
  simp [takeSaaMsg, h]

theorem takeSaaMsg_not_due {m : SaaMsg} {act : State → State} {s : State} (h : s.paths.saaToHstg.head? ≠ some m) :
    takeSaaMsg m act s = s := by
  unfold takeSaaMsg
  split <;> simp_all

theorem takeDrumMsg_due {m : DrumMsg} {rest : List DrumMsg} {act : State → State} {s : State} (h : s.paths.drumToSaa = m :: rest) :
    takeDrumMsg m act s = act (s.updPaths fun p => { p with drumToSaa := rest }) := by
  simp [takeDrumMsg, h]

theorem takeDrumMsg_not_due {m : DrumMsg} {act : State → State} {s : State} (h : s.paths.drumToSaa.head? ≠ some m) :
    takeDrumMsg m act s = s := by
  unfold takeDrumMsg
  split <;> simp_all

theorem takeSurgeGrant_due {n : Byte} {rest : List Byte} {act : State → State} {s : State} (h : s.paths.saaToDrum = n :: rest) :
    takeSurgeGrant n act s = act (s.updPaths fun p => { p with saaToDrum := rest }) := by
  simp [takeSurgeGrant, h]

theorem takeSurgeGrant_not_due {n : Byte} {act : State → State} {s : State} (h : s.paths.saaToDrum.head? ≠ some n) :
    takeSurgeGrant n act s = s := by
  unfold takeSurgeGrant
  split <;> simp_all

theorem takeDry_due {n : Nat} {rest : List Nat} {act : State → State} {s : State} (h : s.paths.dry = n :: rest) :
    takeDry n act s = act (s.updPaths fun p => { p with dry := rest }) := by
  simp [takeDry, h]

theorem takeDry_not_due {n : Nat} {act : State → State} {s : State} (h : s.paths.dry.head? ≠ some n) : takeDry n act s = s := by
  unfold takeDry
  split <;> simp_all

theorem takeTripMsg_due {m : TripMsg} {act : State → State} {s : State}
    (h : s.paths.trip.find? (fun x => decide (x.cause = m.cause)) = some m) :
    takeTripMsg m act s = act (s.updPaths fun p => { p with trip := p.trip.erase m }) := by
  simp [takeTripMsg, h]

theorem takeTripMsg_not_due {m : TripMsg} {act : State → State} {s : State} (h : m ∉ s.paths.trip) : takeTripMsg m act s = s := by
  unfold takeTripMsg
  split
  · exact absurd (List.mem_of_find?_eq_some ‹_›) h
  · rfl

/-- A frame by whose check no host silence had ended that TRIP has still to take finds the state as it was (R174). -/
theorem settleFor_none {f : InFrame} {s : State} (h : endsDue f s = 0) : settleFor f s = s := by
  unfold settleFor
  rw [h]
  cases s.paths.trip <;> rfl

/-- With no HOST_SILENT end in flight nothing is due. -/
theorem endsDue_none {f : InFrame} {s : State} (h : (⟨.hostSilent, true⟩ : TripMsg) ∉ s.paths.trip) : endsDue f s = 0 := by
  have : s.paths.trip.filter (fun m => decide (m = ⟨.hostSilent, true⟩)) = [] :=
    List.filter_eq_nil_iff.mpr fun m hm e => h (of_decide_eq_true e ▸ hm)
  simp [endsDue, this]

/-! ### Requests -/

theorem dueFrame_of_head {kind tag : Byte} {payload : List Byte} {f : InFrame} {l : Link} (hs : l.slot = none)
    (hf : l.inbound.head? = some f) (hk : f.kind = kind) (ht : f.tag = tag) (hp : f.payload = payload) :
    dueFrame kind tag payload l = some (f, l.inbound.drop 1) := by
  unfold dueFrame
  cases hi : l.inbound with
  | nil => simp [hi] at hf
  | cons g rest =>
    have : g = f := by simpa [hi] using hf
    subst this
    simp [hs, hk, ht, hp]

theorem dueFrame_none {kind tag : Byte} {payload : List Byte} {l : Link}
    (h : l.slot ≠ none ∨ ∀ f rest, l.inbound = f :: rest → ¬ (f.kind = kind ∧ f.tag = tag ∧ f.payload = payload)) :
    dueFrame kind tag payload l = none := by
  unfold dueFrame
  split
  · next f rest hs hi =>
    have := h.resolve_left (by simp [hs]) f rest hi
    simp [this]
  · rfl

/-- A due request of an admitted length: its owner acts on the state at its delivery, and the reply enters the slot (R182). -/
theorem serve_due {kind tag : Byte} {payload : List Byte} {f : InFrame} {owner : State → State × ReplyCode} {s : State}
    (h : requestDue kind tag payload f s) (hl : lengthAllowed kind payload.length = true) :
    serve kind tag payload owner s =
      answered kind tag (owner (atOwner f s)).2.payload (owner (atOwner f s)).1 := by
  obtain ⟨hs, hc, hf, hk, ht, hp⟩ := h
  simp [serve, dueFrame_of_head hs hf hk ht hp, hc, hl, putReply, answered, atOwner, dequeued, State.updLink]

/-- A due request of a length the index does not give is answered BAD_LENGTH (R182). -/
theorem serve_bad_length {kind tag : Byte} {payload : List Byte} {f : InFrame} {owner : State → State × ReplyCode} {s : State}
    (h : requestDue kind tag payload f s) (hl : lengthAllowed kind payload.length = false) :
    serve kind tag payload owner s = answered kind tag [0x13] (dequeued s) := by
  obtain ⟨hs, hc, hf, hk, ht, hp⟩ := h
  simp [serve, dueFrame_of_head hs hf hk ht hp, hc, hl, putReply, answered, dequeued, State.updLink, ReplyCode.payload]

/-- A frame delivered while LINK closes for a reset is answered BUSY (R182). -/
theorem serve_closing {kind tag : Byte} {payload : List Byte} {f : InFrame} {owner : State → State × ReplyCode} {s : State}
    (hs : s.link.slot = none) (hc : s.link.closing ≠ .open) (hf : s.link.inbound.head? = some f) (hk : f.kind = kind)
    (ht : f.tag = tag) (hp : f.payload = payload) :
    serve kind tag payload owner s = answered kind tag [0x10] (dequeued s) := by
  simp [serve, dueFrame_of_head hs hf hk ht hp, hc, putReply, answered, dequeued, State.updLink, ReplyCode.payload]

/-- A frame that is not due changes nothing (log entry 1). -/
theorem serve_not_due {kind tag : Byte} {payload : List Byte} {owner : State → State × ReplyCode} {s : State}
    (h : s.link.slot ≠ none ∨ ∀ f rest, s.link.inbound = f :: rest → ¬ (f.kind = kind ∧ f.tag = tag ∧ f.payload = payload)) :
    serve kind tag payload owner s = s := by
  simp [serve, dueFrame_none h]

end Sys2Proof.Machine
end

