-- ==== Sys2Proof/Tests/Slice0.lean ====
section
/-! SUPPORT. Our own tests: the ill-formed terms that WellFormed refuses, one-step checks against the manual's tables and worked
examples, and states that meet the hypotheses of the statements. Expected values come from the manual or are computed by hand. -/

namespace Sys2Proof.Tests

open Sys2Proof.Machine

/-! ### Helpers -/

/-- The state a command answers. -/
def after : Result → State
  | .next s => s
  | .fault _ => .reset
  | .refused _ => .reset

/-- A state with one frame waiting. -/
def inbox (kind tag : Byte) (payload : List Byte) (s : State) : State :=
  s.updLink fun l => { l with inbound := [⟨kind, tag, payload, 0⟩] }

/-- The frame `inbox` holds. -/
abbrev frame (kind tag : Byte) (payload : List Byte) : InFrame := ⟨kind, tag, payload, 0⟩

/-- The state after one frame of TAG 9 is delivered. -/
def sent (kind : Byte) (payload : List Byte) (s : State) : State :=
  after (exec (commandOfFrame kind 9 payload) (inbox kind 9 payload s))

/-- The payload of the reply in the slot. -/
def reply (s : State) : List Byte := (s.link.slot.map (·.payload)).getD []

/-- The reply to one frame of TAG 9. -/
def answer (kind : Byte) (payload : List Byte) (s : State) : List Byte := reply (sent kind payload s)

/-- Door and thermostat settled CLOSED. -/
def closedUp (s : State) : State :=
  s.updAtu fun a => { a with door := ⟨.closed, some .closed, none⟩, highLimit := ⟨.closed, some .closed, none⟩ }

/-- Blower ON with airflow proven, door and thermostat CLOSED: the gate is open. -/
def blowing (s : State) : State := (closedUp s).updAtu fun a => { a with blower := .on, airflowProven := true }

/-- A plan held, with its digest. -/
def holding (plan : List StageRec) (s : State) : State :=
  s.updCpx fun c => { c with plan := plan, digest := planDigest plan }

/-- A cycle in a state with a plan; with `active` its head is the current stage, with ordinal 1. -/
def cycling (cycle : CycleState) (active : Bool) (plan : List StageRec) (s : State) : State :=
  (holding plan s).updCpx fun c =>
    { c with cycle := cycle, stageActive := active, ordinal := if active then 1 else 0 }

/-- A message of HSTG's in flight to SAA. -/
def asking (m : HstgMsg) (s : State) : State := s.updPaths fun p => { p with hstgToSaa := [m] }

/-- A condition or an end in flight to TRIP. -/
def raising (c : TripCause) (ends : Bool) (s : State) : State := s.updPaths fun p => { p with trip := [⟨c, ends⟩] }

/-- Every element record with this state. -/
def elements (st : ElementState) (s : State) : State :=
  s.updHstg fun h =>
    { h with elements := ⟨{ h.elements.r1 with state := st }, { h.elements.r2 with state := st }, { h.elements.r3 with state := st },
        { h.elements.r4 with state := st }⟩ }

/-- Stage A of the worked sequence of 8.6. -/
def stageA : StageRec := ⟨.dry, false, 1, 780, 1800, 600, 3, 550, 900, 3600, 0, 0, 0⟩
/-- Stage B of the same, its target above the clamp. -/
def stageB : StageRec := ⟨.timed, false, 1, 1150, 1900, 0, 0, 0, 0, 600, 0, 0, 0⟩
/-- Stage C of the same. -/
def stageC : StageRec := ⟨.cool, false, 2, 0, 0, 0, 0, 0, 120, 900, 400, 0, 0⟩
/-- Stage D of the same. -/
def stageD : StageRec := ⟨.guard, true, 2, 0, 0, 0, 0, 0, 0, 1800, 0, 300, 6⟩

/-- A frame waiting with the slot empty and LINK open is due. -/
theorem inbox_due (kind tag : Byte) (payload : List Byte) (s : State) (hs : s.link.slot = none) (hc : s.link.closing = .open) :
    requestDue kind tag payload (frame kind tag payload) (inbox kind tag payload s) := ⟨hs, hc, rfl, rfl, rfl, rfl⟩

/-! ### WellFormed refuses each ill-formed term -/

set_option maxRecDepth 8000 in
theorem test_payload_too_long : (Instr.nop 0 (List.replicate 199 0)).wellFormed = false := by decide
theorem test_known_kind_is_not_unknown : (Instr.unknownKindRequest 0x40 0 []).wellFormed = false := by decide
theorem test_line_current_below : (Instr.conversionComplete .lineCurrent (-1)).wellFormed = false := by decide
theorem test_line_current_above : (Instr.conversionComplete .lineCurrent 65536).wellFormed = false := by decide
theorem test_request_current_zero : (Instr.elementRequest .e1 0).wellFormed = false := by decide
theorem test_request_current_above : (Instr.elementRequest .e1 1001).wellFormed = false := by decide
theorem test_ordinal_above : (Instr.dryReachedSignal 65536).wellFormed = false := by decide
set_option maxRecDepth 8000 in
theorem test_well_formed_terms :
    (Instr.nop 0 (List.replicate 198 0)).wellFormed = true ∧ (Instr.unknownKindRequest 0x99 0 []).wellFormed = true ∧
      (Instr.elementRequest .e4 1000).wellFormed = true ∧ (Instr.conversionComplete .lineCurrent 65535).wellFormed = true := by
  decide

/-! ### The step and the decoder -/

theorem test_step_takes_the_front :
    (after (step { State.reset with pending := [.silenceTimerExpiry, .powerOn] })).pending = [.powerOn] := by decide
theorem test_step_idles : (after (step State.reset)).pending = [] := by decide
/-- No row of the table gives bits (log entry 36). -/
theorem test_no_word_spells_a_command : decodeTableWord 16 0x7E = none := rfl

/-! ### The link (chapter 11) -/

set_option maxRecDepth 8000 in
/-- The catalogue check value of CRC-16 with polynomial 0x1021, initial value 0xFFFF (R181). -/
theorem test_crc_check_value : crc16 [0x31, 0x32, 0x33, 0x34, 0x35, 0x36, 0x37, 0x38, 0x39] = 0x29B1 := by decide

set_option maxRecDepth 8000 in
/-- R190: a NOP with TAG 7 on the line, its CRC 0xC225 computed by hand. -/
theorem test_nop_frame_received :
    (after (receiveAll [0x7E, 0x02, 0x0F, 0x07, 0xC2, 0x25] State.reset)).link.inbound = [frame 0x0F 7 []] := by decide
set_option maxRecDepth 8000 in
/-- R190: REPORT_LEVEL_SET 3 with TAG 1, CRC 0xAEEE. -/
theorem test_level_frame_received :
    (after (receiveAll [0x7E, 0x03, 0x06, 0x01, 0x03, 0xAE, 0xEE] State.reset)).link.inbound = [frame 0x06 1 [3]] := by
  decide
/-- R180: LEN 2 and 200 are taken, 1 and 201 are bad frames. -/
theorem test_length_bounds :
    ((after (receiveAll [0x7E, 2] State.reset)).link.rx = .body 2 [] ∧
      (after (receiveAll [0x7E, 200] State.reset)).link.rx = .body 200 []) ∧
    (after (receiveAll [0x7E, 1] State.reset)).link.badFrames = 1 ∧
      (after (receiveAll [0x7E, 201] State.reset)).link.badFrames = 1 := by decide
theorem test_gap_abandons_the_frame :
    (after (exec .gapTimerExpiry (after (receiveAll [0x7E, 2] State.reset)))).link.rx = .hunt := by decide
set_option maxRecDepth 8000 in
/-- The hypotheses of `ReceiverActsOnEachByteByItsState`, clause by clause, at the bounds of LEN and of the body. -/
theorem test_witness_receiver :
    State.reset.link.rx = .hunt ∧ (2 : Byte).toNat = 2 ∧ (200 : Byte).toNat ≤ 200 ∧ (201 : Byte).toNat > 200 ∧
      (after (receiveAll [0x7E] State.reset)).link.rx = .length ∧
      (after (receiveAll [0x7E, 2, 0x0F] State.reset)).link.rx = .body 2 [0x0F] ∧
      (after (receiveAll [0x7E, 2, 0x0F, 7] State.reset)).link.rx = .check 2 [0x0F, 7] none ∧
      (after (receiveAll [0x7E, 2, 0x0F, 7, 0xC2] State.reset)).link.rx = .check 2 [0x0F, 7] (some 0xC2) ∧
      crcBytes (crc16 [2, 0x0F, 7]) = [0xC2, 0x25] ∧
      (after (receiveAll [0x7E] State.reset)).link.gapTimer ≠ none := by decide
set_option maxRecDepth 8000 in
/-- The hypotheses of `GoodFrameIsHeardThenQueued` with 3 and with 4 frames held, and with the OK reply of a LINK_RESET taken; a frame
with an end of a silence to find taken at TRIP, and one that the end passed. -/
theorem test_witness_good_frame :
    (∀ n ∈ [3, 4], ∃ s : State, s.link.rx = .check 2 [0x0F, 7] (some 0xC2) ∧ s.link.inbound.length = n ∧
      s.link.closing ≠ .replyTaken ∧ crcBytes (crc16 [2, 0x0F, 7]) = [0xC2, 0x25]) ∧
    (∃ s : State, s.link.rx = .check 2 [0x0F, 7] (some 0xC2) ∧ s.link.closing = .replyTaken) ∧
    (∃ s : State, s.link.silence ≠ none) ∧
    ∃ s : State, silenceSound s ∧ s.link.silentRaised = false ∧ (frame 0x32 1 []).laterEnds = 0 ∧
      (s.paths.trip.filter fun m => decide (m = ⟨.hostSilent, true⟩)).length = 1 ∧
      0 < 1 ∧ 1 ≤ (frame 0x32 1 []).passedByEnd.laterEnds :=
  ⟨fun n _ => ⟨State.reset.updLink fun l =>
      { l with rx := .check 2 [0x0F, 7] (some 0xC2), inbound := List.replicate n (frame 0x0F 1 []) },
      rfl, by simp [State.updLink], nofun, by decide⟩,
    ⟨State.reset.updLink fun l => { l with rx := .check 2 [0x0F, 7] (some 0xC2), closing := .replyTaken }, rfl, rfl⟩,
    ⟨State.reset.updLink fun l => { l with silence := some 30000 }, nofun⟩,
    ⟨State.reset.updPaths fun p => { p with trip := [⟨.hostSilent, false⟩, ⟨.hostSilent, true⟩] },
      by unfold silenceSound; decide, by decide⟩⟩
set_option maxRecDepth 8000 in
/-- The hypotheses of `FrameOnTheLineIsReceivedAsSent`, with an empty payload and with the longest. -/
theorem test_witness_frame_on_the_line :
    ([] : List Byte).length ≤ 198 ∧ (List.replicate 198 (0x7E : Byte)).length ≤ 198 ∧ State.reset.link.rx = .hunt ∧
      State.reset.link.closing ≠ .replyTaken ∧ State.reset.link.inbound.length < 4 := by decide
/-- R184: the reply goes before the reports. -/
theorem test_reply_goes_first :
    (after (exec .txFrameBoundary (sent 0x0F [] State.reset))).link.reports.length = 2 ∧
      (after (exec .txFrameBoundary (sent 0x0F [] State.reset))).link.slot = none ∧
      (after (exec .txFrameBoundary State.reset)).link.reports.length = 1 := by decide
/-- The hypotheses of `TransmitterAndReportQueue`: reports lost and none, a delivery due, an idle line, a full and a filtered queue. -/
theorem test_witness_transmitter :
    State.reset.link.closing = .open ∧ State.reset.link.lost = 0 ∧ State.reset.link.reports.length = 2 ∧
      (sent 0x0F [] State.reset).link.slot.isSome = true ∧ (inbox 0x0F 1 [] State.reset).link.inbound ≠ [] ∧
      (State.reset.updLink fun l => { l with lost := 3 }).link.lost ≠ 0 ∧
      (State.reset.updLink fun l => { l with reports := [] }).link.reports = [] ∧
      State.reset.link.level < Severity.info.code ∧ Severity.warning.code ≤ State.reset.link.level ∧
      7 < 8 ∧ (State.reset.updLink fun l => { l with reports := List.replicate 8 (profileDefaultedReport 1) }).link.reports.length = 8 := by
  decide
/-- R174: silence hands TRIP the condition. -/
theorem test_silence_hands_trip :
    (after (exec .silenceTimerExpiry (State.reset.updLink fun l => { l with silence := some 30000 }))).paths.trip =
      [⟨.hostSilent, false⟩] := by decide
/-- R182: UNKNOWN_KIND and BAD_LENGTH. -/
theorem test_link_refuses : answer 0x99 [] State.reset = [0x14] ∧ answer 0x41 [] State.reset = [0x13] := by decide
/-- The hypotheses of `RequestsRefusedByLinkBeforeTheirOwner`. -/
theorem test_witness_refused_by_link :
    requestDue 0x99 1 [] (frame 0x99 1 []) (inbox 0x99 1 [] State.reset) ∧ (∀ row ∈ requestLengths, row.1 ≠ (0x99 : Byte)) ∧
      requestDue 0x41 1 [] (frame 0x41 1 []) (inbox 0x41 1 [] State.reset) ∧
      (∃ row ∈ requestLengths, row.1 = (0x41 : Byte) ∧ ([] : List Byte).length ∉ row.2) ∧
      (State.reset.updLink fun l => { l with closing := .accepted, inbound := [frame 0x0F 1 []] }).link.closing ≠ .open :=
  ⟨inbox_due _ _ _ _ rfl rfl, by decide, inbox_due _ _ _ _ rfl rfl, by decide +kernel, by decide +kernel⟩
/-- R187: the level 3 is taken and 4 refused. -/
theorem test_report_level :
    (sent 0x06 [3] State.reset).link.level = 3 ∧ answer 0x06 [3] State.reset = [0] ∧ answer 0x06 [4] State.reset = [0x12, 1, 0] := by
  decide
theorem test_nop : answer 0x0F [] State.reset = [0] := by decide
theorem test_probe : answer 0x01 [] State.reset = [0, 0x02, 0x40, 0x41, 1, 2, 1] := by decide
/-- R188: 93 bytes, IDLE, base account 0 granted, blower OFF, and the four elements in OFF_HOLD. -/
theorem test_status :
    (answer 0x40 [] State.reset).length = 93 ∧ byteAt (answer 0x40 [] State.reset) 1 = 1 ∧
      byteAt (answer 0x40 [] State.reset) 39 = 2 ∧ wordAt (answer 0x40 [] State.reset) 77 = 600 := by decide
theorem test_witness_link_requests :
    requestDue 0x0F 1 [] (frame 0x0F 1 []) (inbox 0x0F 1 [] State.reset) ∧
      requestDue 0x06 1 [3] (frame 0x06 1 [3]) (inbox 0x06 1 [3] State.reset) ∧
      requestDue 0x06 1 [4] (frame 0x06 1 [4]) (inbox 0x06 1 [4] State.reset) ∧
      requestDue 0x01 1 [] (frame 0x01 1 []) (inbox 0x01 1 [] State.reset) ∧
      requestDue 0x40 1 [] (frame 0x40 1 []) (inbox 0x40 1 [] State.reset) :=
  ⟨inbox_due _ _ _ _ rfl rfl, inbox_due _ _ _ _ rfl rfl, inbox_due _ _ _ _ rfl rfl, inbox_due _ _ _ _ rfl rfl,
    inbox_due _ _ _ _ rfl rfl⟩
/-- R182, R200: with the enable off LINK_RESET is DENIED; with it on the reset waits for the last byte of the OK reply. -/
theorem test_link_reset :
    answer 0x07 [] State.reset = [0x1B] ∧
    (let sending := after (exec .txFrameBoundary (sent 0x07 []
       (State.reset.updProf fun q => { q with active := { q.active with linkResetEnable := 1 } })))
     (after (exec .linkResetFollows sending)).prof.lastReset = .powerOn ∧
       (after (exec .linkResetFollows (after (exec .txFrameBoundary sending)))).prof.lastReset = .link) := by decide
/-- The hypotheses of `LinkResetClosesThenResets`: enable off, on with a write in flight, on without, both closings, and the last
reply on the line and off it. -/
theorem test_witness_link_reset :
    requestDue 0x07 1 [] (frame 0x07 1 []) (inbox 0x07 1 [] State.reset) ∧ State.reset.profile.linkResetEnable ≠ 1 ∧
      (State.reset.updProf fun q => { q with active := { q.active with linkResetEnable := 1 }, write := some [] }).prof.write ≠ none ∧
      ((State.reset.updProf fun q => { q with active := { q.active with linkResetEnable := 1 } }).profile.linkResetEnable = 1 ∧
        State.reset.prof.write = none) ∧
      (State.reset.updLink fun l => { l with closing := .accepted, slot := some ⟨0x87, 1, [0]⟩ }).link.closing ≠ .open ∧
      (∀ line ∈ [none, some [(0x7E : Byte)]],
        let s := State.reset.updLink fun l => { l with closing := .replyTaken, line := line }
        s.link.closing = .replyTaken ∧ s.link.slot = none ∧ s.link.inbound = [] ∧ s.link.line = line ∧ closingSound s) :=
  ⟨inbox_due _ _ _ _ rfl rfl, by decide, by decide +kernel, by decide +kernel, by decide +kernel,
    fun _ _ => ⟨rfl, rfl, rfl, rfl, fun _ => rfl⟩⟩

/-! ### Rings, tables and the plan (chapters 1, 2, 4, 8) -/

/-- A record with a revolution number. -/
def revNo (n : Nat) : RevRecord := ⟨n, .fwd, 1500, 24, .run, true, .steady, 400, 8, 4, some 507, .folded⟩

/-- R19: c = min(n, held), newest first; 0 and 9 are refused with field 1. -/
theorem test_history_get :
    (answer 0x41 [8] (State.reset.updDrum fun d => { d with history := [revNo 5, revNo 6] })).take 4 = [0, 2, 0, 6] ∧
      answer 0x41 [0] State.reset = [0x12, 1, 0] ∧ answer 0x41 [9] State.reset = [0x12, 1, 0] := by decide
/-- R68: oldest first. -/
theorem test_trend_get :
    answer 0x42 [] (State.reset.updMest fun m => { m with trend := [2400, 2210] }) = [0, 2, 0x09, 0x60, 0x08, 0xA2] := by decide
/-- The hypotheses of `HistoryAndTrendReadTheRings` at the bounds of n and with wrong lengths. -/
theorem test_witness_rings :
    (∀ n ∈ ([0, 1, 8, 9] : List Byte), requestDue 0x41 1 [n] (frame 0x41 1 [n]) (inbox 0x41 1 [n] State.reset)) ∧
      requestDue 0x41 1 [] (frame 0x41 1 []) (inbox 0x41 1 [] State.reset) ∧
      requestDue 0x42 1 [] (frame 0x42 1 []) (inbox 0x42 1 [] State.reset) ∧
      requestDue 0x42 1 [0] (frame 0x42 1 [0]) (inbox 0x42 1 [0] State.reset) :=
  ⟨fun _ _ => inbox_due _ _ _ _ rfl rfl, inbox_due _ _ _ _ rfl rfl, inbox_due _ _ _ _ rfl rfl, inbox_due _ _ _ _ rfl rfl⟩

/-- R26: rpm 9 becomes 10, reverse 0 becomes 1, dwell 256 becomes 255, nominal 1024 becomes 1023; CLAMPED. -/
theorem test_pattern_set_clamps :
    (sent 0x10 [7, 0, 9, 0, 0, 1, 0, 4, 0] State.reset).drum.table[7] = ⟨10, 0, 1, 255, 1023⟩ ∧
      answer 0x10 [7, 0, 9, 0, 0, 1, 0, 4, 0] State.reset = [1] := by decide
/-- R25: the first entry past index 7 is the second of a span starting at 7; start 8 is refused; an index in use is INUSE. -/
theorem test_pattern_set_refuses :
    answer 0x10 (7 :: List.replicate 16 0) State.reset = [0x12, 1, 2] ∧
      answer 0x10 (8 :: List.replicate 8 0) State.reset = [0x12, 1, 0] ∧
      answer 0x10 (0 :: List.replicate 8 0) (cycling .running true [stageA] State.reset) = [0x15] := by decide
/-- R27. -/
theorem test_pattern_get :
    answer 0x11 [7, 1] State.reset = [0, 7, 1, 0, 40, 12, 12, 0, 20, 2, 0] ∧ answer 0x11 [7, 2] State.reset = [0x12, 2, 0] ∧
      answer 0x11 [8, 1] State.reset = [0x12, 1, 0] := by decide
/-- The hypotheses of `PatternTableIsWrittenClampedAndRead`: a start of 8, a span past 7, one ending at 7, a protected index, and
the reads at their bounds. -/
theorem test_witness_patterns :
    (1 ≤ [Pattern.afterReset].length ∧ [Pattern.afterReset].length ≤ 8 ∧ ∀ p ∈ [Pattern.afterReset], patternFits p) ∧
      (∀ start : Byte, requestDue 0x10 1 (start :: [Pattern.afterReset].flatMap patternBytes)
        (frame 0x10 1 (start :: [Pattern.afterReset].flatMap patternBytes))
        (inbox 0x10 1 (start :: [Pattern.afterReset].flatMap patternBytes) (cycling .running true [stageA] State.reset))) ∧
      (7 < (8 : Byte).toNat ∧ (7 : Byte).toNat ≤ 7 ∧ 8 < (7 : Byte).toNat + [Pattern.afterReset, Pattern.afterReset].length ∧
        (7 : Byte).toNat + [Pattern.afterReset].length ≤ 8) ∧
      (CycleState.working (cycling .running true [stageA] State.reset).cpx.cycle = true ∧
        (cycling .running true [stageA] State.reset).drum.activeIdx = (0 : Byte).toNat) ∧
      ∀ sc ∈ ([(8, 1), (7, 0), (7, 2), (7, 1), (0, 8)] : List (Byte × Byte)),
        requestDue 0x11 1 [sc.1, sc.2] (frame 0x11 1 [sc.1, sc.2]) (inbox 0x11 1 [sc.1, sc.2] State.reset) :=
  ⟨⟨by decide, by decide, by unfold patternFits; decide⟩, fun _ => inbox_due _ _ _ _ rfl rfl, by decide, by decide,
    fun _ _ => inbox_due _ _ _ _ rfl rfl⟩

/-- R133: PLAN_CLEAR in READY leads to IDLE with digest 0xFFFF, and is refused in RUNNING. -/
theorem test_plan_clear :
    (sent 0x21 [] (cycling .ready false [stageA] State.reset)).cpx.cycle = .idle ∧
      (sent 0x21 [] (cycling .ready false [stageA] State.reset)).cpx.digest = 0xFFFF ∧
      answer 0x21 [] (cycling .running true [stageA] State.reset) = [0x11] := by decide
set_option maxRecDepth 8000 in
/-- R133, R191: the 20 bytes of stage A, written out, and its digest 0x3FE2, computed by hand. -/
theorem test_plan_get :
    answer 0x22 [0, 8] (cycling .ready false [stageA] State.reset) =
      [0, 1, 0x3F, 0xE2, 0, 1, 1, 1, 3, 0x0C, 7, 8, 2, 0x58, 3, 2, 0x26, 3, 0x84, 0x0E, 0x10, 0, 0, 0, 0, 0] := by decide
/-- The hypotheses of `PlanClearAndPlanGet`: IDLE, READY and another state; the bounds of start and count; wrong lengths. -/
theorem test_witness_plan_reads :
    (∀ c ∈ [CycleState.idle, .ready, .running], requestDue 0x21 1 [] (frame 0x21 1 []) (inbox 0x21 1 [] (cycling c true [stageA] State.reset)) ∧
      (atOwner (frame 0x21 1 []) (inbox 0x21 1 [] (cycling c true [stageA] State.reset))).cpx.cycle = c) ∧
      requestDue 0x21 1 [0] (frame 0x21 1 [0]) (inbox 0x21 1 [0] State.reset) ∧
      (∀ sc ∈ ([(16, 1), (15, 0), (15, 9), (15, 8), (0, 1)] : List (Byte × Byte)),
        requestDue 0x22 1 [sc.1, sc.2] (frame 0x22 1 [sc.1, sc.2]) (inbox 0x22 1 [sc.1, sc.2] State.reset)) ∧
      requestDue 0x22 1 [] (frame 0x22 1 []) (inbox 0x22 1 [] State.reset) :=
  ⟨fun _ _ => ⟨inbox_due _ _ _ _ rfl rfl, rfl⟩, inbox_due _ _ _ _ rfl rfl, fun _ _ => inbox_due _ _ _ _ rfl rfl,
    inbox_due _ _ _ _ rfl rfl⟩
/-- 8.6: A and B appended in IDLE: B's 115.0 °C is stored as 110.0 °C, CLAMPED, READY. -/
theorem test_plan_append_clamps :
    answer 0x20 ([stageA, stageB].flatMap stageBytes) State.reset = [1] ∧
      ((sent 0x20 ([stageA, stageB].flatMap stageBytes) State.reset).cpx.plan.map (·.exhaustTarget)) = [780, 1100] ∧
      (sent 0x20 ([stageA, stageB].flatMap stageBytes) State.reset).cpx.cycle = .ready := by decide
/-- R131: FULL at 17, FINAL_SEEN, and a FINAL record that is not the last of its request, field 2 at index 1. -/
theorem test_plan_append_refuses :
    answer 0x20 (stageBytes stageA) (cycling .ready false (List.replicate 16 stageA) State.reset) = [0x16] ∧
      answer 0x20 (stageBytes stageA) (cycling .ready false [stageD] State.reset) = [0x17] ∧
      answer 0x20 ([stageD, stageA].flatMap stageBytes) State.reset = [0x12, 2, 1] := by decide
/-- The hypotheses of `PlanAppendJoinsTheTail`: FAULTED, a full buffer and one with room for one, a FINAL stage held, a record out
of range and records in range, in IDLE and READY; and an unknown kind after a good record. -/
theorem test_witness_plan_append :
    ((∀ r ∈ [stageA, stageC], stageFits r) ∧ (∀ r ∈ [stageD, stageA], stageFits r)) ∧
      (∀ c, requestDue 0x20 1 ([stageA, stageC].flatMap stageBytes) (frame 0x20 1 ([stageA, stageC].flatMap stageBytes))
        (inbox 0x20 1 ([stageA, stageC].flatMap stageBytes) (cycling c false [] State.reset)) ∧
        (atOwner (frame 0x20 1 ([stageA, stageC].flatMap stageBytes))
          (inbox 0x20 1 ([stageA, stageC].flatMap stageBytes) (cycling c false [] State.reset))).cpx.cycle = c) ∧
      (16 < (List.replicate 15 stageA).length + 2 ∧ (List.replicate 14 stageA).length + 2 ≤ 16 ∧
        (∃ r ∈ [stageD], r.final = true) ∧ (∀ r ∈ List.replicate 14 stageA, r.final = false)) ∧
      stageFault stageD false = some 2 ∧ (∀ i : Fin 2, stageFault [stageA, stageC][i.val] (decide (i.val + 1 = 2)) = none) ∧
      (∀ r ∈ [stageA], stageFits r ∧ stageFault r false = none) ∧ (List.replicate 20 (0 : Byte)).length = 20 ∧
      byteAt (List.replicate 20 0) 0 % 128 = 0 ∧
      requestDue 0x20 1 ([stageA].flatMap stageBytes ++ List.replicate 20 0 ++ [])
        (frame 0x20 1 ([stageA].flatMap stageBytes ++ List.replicate 20 0 ++ []))
        (inbox 0x20 1 ([stageA].flatMap stageBytes ++ List.replicate 20 0 ++ []) State.reset) :=
  ⟨by unfold stageFits; decide, fun _ => ⟨inbox_due _ _ _ _ rfl rfl, rfl⟩, by decide, by decide, by decide,
    by unfold stageFits; decide, by decide, by decide, inbox_due _ _ _ _ rfl rfl⟩

/-! ### The Trip Table and the context (chapters 9, 10) -/

/-- A Trip Table with HIGH_LIMIT in a state, once occurred at 100 s in stage 2. -/
def tripped (st : TripState) (s : State) : State := s.updTrip fun t => { t with highLimit := ⟨st, 1, some 100, 2⟩ }

/-- R176: ten bytes per entry, HIGH_LIMIT first. -/
theorem test_trip_get :
    (answer 0x43 [] (tripped .held State.reset)).take 11 = [0, 1, 2, 1, 1, 0, 0, 0, 100, 0, 2] ∧
      (answer 0x43 [] State.reset).length = 81 := by decide
/-- R177: HELD to CLEAR with its history, ACTIVE is STILL_ACTIVE, 9 is refused. -/
theorem test_trip_clear :
    (sent 0x44 [1] (tripped .held State.reset)).trip.highLimit = ⟨.clear, 1, some 100, 2⟩ ∧
      answer 0x44 [0xFF] (tripped .active State.reset) = [0x1A] ∧ answer 0x44 [9] State.reset = [0x12, 1, 0] := by decide
/-- R178, arising and clear of a HELD entry: the clear first gives CLEAR, and the condition then ACTIVE with a new count; the condition
first gives STILL_ACTIVE. -/
theorem test_trip_clear_crossing :
    let s := (State.reset.updTrip fun t => { t with hostSilent := ⟨.held, 1, some 3, 1⟩ }).updPaths fun p =>
      { p with trip := [⟨.hostSilent, false⟩] }
    ((sent 0x44 [8] s).trip.hostSilent.state = .clear ∧
      (after (exec (.tripCondition .hostSilent) (sent 0x44 [8] s))).trip.hostSilent = ⟨.active, 2, some 3, 1⟩) ∧
      answer 0x44 [8] (after (exec (.tripCondition .hostSilent) s)) = [0x1A] := by decide
/-- The hypotheses of `TripGetReturnsTheTable` and of `TripClearTakesHeldToClear`, at the bounds of the cause byte. -/
theorem test_witness_trips :
    requestDue 0x43 1 [] (frame 0x43 1 []) (inbox 0x43 1 [] State.reset) ∧
      requestDue 0x43 1 [0] (frame 0x43 1 [0]) (inbox 0x43 1 [0] State.reset) ∧
      (∀ b ∈ ([0, 1, 8, 9, 254, 255] : List Byte), requestDue 0x44 1 [b] (frame 0x44 1 [b]) (inbox 0x44 1 [b] (tripped .active State.reset))) ∧
      ((1 : Byte).toNat = causeCode .highLimit ∧ (8 : Byte).toNat = causeCode .hostSilent) ∧
      ((atOwner (frame 0x44 1 [1]) (inbox 0x44 1 [1] (tripped .active State.reset))).trip.get .highLimit).state = .active ∧
      ((atOwner (frame 0x44 1 [1]) (inbox 0x44 1 [1] (tripped .held State.reset))).trip.get .highLimit).state ≠ .active :=
  ⟨inbox_due _ _ _ _ rfl rfl, inbox_due _ _ _ _ rfl rfl, fun _ _ => inbox_due _ _ _ _ rfl rfl, by decide, by decide, by decide⟩

/-- A context record that fits a READY cycle holding stage A. -/
def contextA : ContextRec := ⟨1, 1, (planDigest [stageA]).toNat, 4, 100, 5000, 1, 700, 0, -40, 2, 3, 1, 1⟩

set_option maxRecDepth 60000 in
/-- R160, R162: what CONTEXT_GET answers in PAUSED is loaded by CONTEXT_LOAD in READY, into PAUSED. -/
theorem test_context_get_then_load :
    (answer 0x50 [] (cycling .paused true [stageA] State.reset)).length = 33 ∧
      (sent 0x51 ((answer 0x50 [] (cycling .paused true [stageA] State.reset)).drop 1)
        (cycling .ready false [stageA] State.reset)).cpx.pauseCause = some .restored := by decide
set_option maxRecDepth 60000 in
/-- R161: a wrong check value, version, plan, elapsed and field, reasons 1 to 5; R162: what a load restores. -/
theorem test_context_load :
    (answer 0x51 ((contextBytes contextA).set 31 0xFF) (cycling .ready false [stageA] State.reset) = [0x1C, 1] ∧
      answer 0x51 (contextBytes { contextA with version := 2 }) (cycling .ready false [stageA] State.reset) = [0x1C, 2] ∧
      answer 0x51 (contextBytes { contextA with held := 2 }) (cycling .ready false [stageA] State.reset) = [0x1C, 3] ∧
      answer 0x51 (contextBytes { contextA with stageElapsed := 3601 }) (cycling .ready false [stageA] State.reset) = [0x1C, 4] ∧
      answer 0x51 (contextBytes { contextA with offset := -41 }) (cycling .ready false [stageA] State.reset) = [0x1C, 5]) ∧
      (sent 0x51 (contextBytes contextA) (cycling .ready false [stageA] State.reset)).drum.offset = -40 ∧
      (sent 0x51 (contextBytes contextA) (cycling .ready false [stageA] State.reset)).hstg.pointer = .e4 := by decide
/-- The hypotheses of `ContextGetReturnsTheRecord`: PAUSED with and without a current stage, F absent and
present, another state, a payload. -/
theorem test_witness_context_get :
    (∀ b, requestDue 0x50 1 [] (frame 0x50 1 []) (inbox 0x50 1 [] (cycling .paused b [stageA] State.reset)) ∧
      (atOwner (frame 0x50 1 []) (inbox 0x50 1 [] (cycling .paused b [stageA] State.reset))).cpx.stageActive = b) ∧
      (∀ b (f : Option Nat), (atOwner (frame 0x50 1 [])
        ((inbox 0x50 1 [] (cycling .paused b [stageA] State.reset)).updMest fun m => { m with f := f })).mest.f = f) ∧
      requestDue 0x50 1 [] (frame 0x50 1 []) (inbox 0x50 1 [] State.reset) ∧
      requestDue 0x50 1 [0] (frame 0x50 1 [0]) (inbox 0x50 1 [0] State.reset) :=
  ⟨fun _ => ⟨inbox_due _ _ _ _ rfl rfl, rfl⟩, fun _ _ => rfl, inbox_due _ _ _ _ rfl rfl, inbox_due _ _ _ _ rfl rfl⟩
set_option maxRecDepth 60000 in
/-- The hypotheses of `ContextLoadChecksThenRestores`: a record that passes, its fields at their bounds, in READY with no entry
standing; and the states of the two first refusals. -/
theorem test_witness_context_load :
    (contextBytes contextA).length = 32 ∧ contextOf (contextBytes contextA) = contextA ∧
      (crc16 ((contextBytes contextA).take 30)).toNat = wordAt (contextBytes contextA) 30 ∧
      requestDue 0x51 1 (contextBytes contextA) (frame 0x51 1 (contextBytes contextA))
        (inbox 0x51 1 (contextBytes contextA) (cycling .ready false [stageA] State.reset)) ∧
      (cycling .ready false [stageA] State.reset).cpx.cycle = .ready ∧
      tripBars (cycling .ready false [stageA] State.reset).trip = false ∧
      (contextA.held = [].length (α := StageRec) + 1 ∧ contextA.digest = (cycling .ready false [stageA] State.reset).cpx.digest.toNat ∧
        contextA.stageElapsed ≤ stageA.maxDuration ∧ -(State.reset.profile.maxAdjust : Int) ≤ contextA.offset ∧
        contextA.offset ≤ State.reset.profile.maxAdjust ∧ contextA.pointer ≤ 3 ∧ contextA.direction = 2 ∧
        contextA.fPresent ≤ 1 ∧ contextA.dryLatched = 1 ∧ stageA.kind = .dry) ∧
      tripBars (tripped .held (cycling .ready false [stageA] State.reset)).trip = true ∧ State.reset.cpx.cycle ≠ .ready := by
  refine ⟨by decide, by decide, by decide, inbox_due _ _ _ _ rfl rfl, by decide, by decide, by decide, by decide, by decide⟩

/-! ### The profile, its store, and the resets (chapter 12) -/

/-- R195: the defaults pass the check; base load plus surge above the allowance fails field 14, policy 3 fails field 20. -/
theorem test_profile_checks :
    profileFault factoryProfile = none ∧ profileFault { factoryProfile with allowance := 139 } = some 14 ∧
      profileFault { factoryProfile with policy := 3 } = some 20 := by decide
/-- R196: field 7 modulo 8; the offset clamps to the new max adjust; an element with current 0 is ABSENT. -/
theorem test_profile_set :
    (let p := { factoryProfile with filterExp := 12, maxAdjust := 5, current4 := 0 }
     let t := sent 0x02 (profileBytes p) (State.reset.updDrum fun d => { d with offset := 30 })
     t.profile.filterExp = 4 ∧ t.drum.offset = 5 ∧ (t.elem .e4).state = .absent) ∧
      answer 0x02 (profileBytes factoryProfile) (cycling .running true [stageA] State.reset) = [0x11] := by decide
/-- R124: a profile with a lower allowance, set after an ABORT whose release SAA has still to take, finds the account empty; the release
taken first leads to the same. -/
theorem test_profile_set_account :
    let s := (asking (.release .e1) (cycling .done false [] State.reset)).updSaa fun a => { a with grants := [⟨.e1, 150, false⟩] }
    let p := profileBytes { factoryProfile with allowance := 230 }
    (sent 0x02 p s).headroom = 150 ∧ (sent 0x02 p s).saa.grants = [] ∧
      sent 0x02 p s = sent 0x02 p (after (exec (.elementRelease .e1) s)) := by decide
theorem test_profile_get : answer 0x03 [] State.reset = 0 :: profileBytes factoryProfile := by decide
/-- The hypotheses of `ProfileSetReplacesTheProfile`: taken, refused by length, by state and by a field; both element cases. -/
theorem test_witness_profile_set :
    (∀ c, requestDue 0x02 1 (profileBytes factoryProfile) (frame 0x02 1 (profileBytes factoryProfile))
        (inbox 0x02 1 (profileBytes factoryProfile) (cycling c false [] State.reset)) ∧
      (atOwner (frame 0x02 1 (profileBytes factoryProfile))
        (inbox 0x02 1 (profileBytes factoryProfile) (cycling c false [] State.reset))).cpx.cycle = c) ∧
      requestDue 0x02 1 [] (frame 0x02 1 []) (inbox 0x02 1 [] State.reset) ∧ (profileBytes factoryProfile).length = 52 ∧
      profileFault (profileOf (profileBytes factoryProfile)) = none ∧
      profileFault (profileOf (profileBytes { factoryProfile with policy := 3 })) = some 20 ∧
      requestDue 0x03 1 [] (frame 0x03 1 []) (inbox 0x03 1 [] State.reset) :=
  ⟨fun _ => ⟨inbox_due _ _ _ _ rfl rfl, rfl⟩, inbox_due _ _ _ _ rfl rfl, by decide, by decide, by decide,
    inbox_due _ _ _ _ rfl rfl⟩
set_option maxRecDepth 8000 in
/-- The hypotheses of `RecordsSurviveTheLink`, with m_rev present and absent, and those of `RecordsAcceptedExactlyWhenInRange`. -/
theorem test_witness_records :
    (profileFits factoryProfile ∧ profileFits { factoryProfile with filterExp := 255 }) ∧ stageFits stageA ∧ contextFits contextA ∧
      (revFits (revNo 65535) ∧ revFits { revNo 0 with mRev := none }) ∧
      (⟨.drum, .info, 0x22, 4294967295, [0, 1]⟩ : Report).seconds < 4294967296 := by
  unfold profileFits stageFits contextFits revFits
  refine ⟨by decide, by decide, by decide, ⟨⟨by decide, by decide, by decide, by decide, by decide, by decide, ?_⟩,
    by decide, by decide, by decide, by decide, by decide, by decide, nofun⟩, by decide⟩
  rintro v h; cases h; decide
set_option maxRecDepth 60000 in
/-- R198: the stored copy is 55 bytes; a verify that matches is STORE_DONE, one that does not FAILED. -/
theorem test_store :
    (storedCopy factoryProfile).length = 55 ∧
      (after (exec (.storeVerify (storedCopy factoryProfile)) (sent 0x04 [] State.reset))).prof.lastResult = .ok ∧
      (after (exec (.storeVerify []) (sent 0x04 [] State.reset))).prof.lastResult = .failed := by decide
set_option maxRecDepth 60000 in
/-- The hypotheses of `ProfileStoreSnapshotsThenVerifies` and of `StoredCopyIsJudgedAndLoaded`: a write, none, a state that refuses; a
good copy, one whose check value fails, one of another version. -/
theorem test_witness_store :
    (∀ c, requestDue 0x04 1 [] (frame 0x04 1 []) (inbox 0x04 1 [] (cycling c false [] State.reset)) ∧
      (atOwner (frame 0x04 1 []) (inbox 0x04 1 [] (cycling c false [] State.reset))).cpx.cycle = c) ∧
      (sent 0x04 [] State.reset).prof.write = some (storedCopy factoryProfile) ∧ State.reset.prof.write = none ∧
      (State.reset.updProf fun q => { q with stored := storedCopy factoryProfile }).prof.stored = storedCopy factoryProfile ∧
      profileFits factoryProfile ∧ State.reset.prof.stored.length ≠ 55 ∧
      (crc16 ((storedCopy factoryProfile).take 53)).toNat = wordAt (storedCopy factoryProfile) 53 ∧
      byteAt (storedCopy factoryProfile) 0 = 1 ∧
      ∃ copy : List Byte, copy.length = 55 ∧ (crc16 (copy.take 53)).toNat = wordAt copy 53 ∧ byteAt copy 0 ≠ 1 :=
  ⟨fun _ => ⟨inbox_due _ _ _ _ rfl rfl, rfl⟩, by decide, by decide, by decide, by unfold profileFits; decide, by decide,
    by decide, by decide,
    ⟨(2 :: profileBytes factoryProfile) ++ crcBytes (crc16 (2 :: profileBytes factoryProfile)), by decide, by decide, by decide⟩⟩
set_option maxRecDepth 60000 in
/-- R199: a good copy is STORED; R57, R195: an exponent of 12 in it is in force as 4; R200: PIN is ignored with its enable off. -/
theorem test_resets :
    (loadStore (storedCopy { factoryProfile with filterExp := 12 })).1.filterExp = 4 ∧
    (after (exec .brownOut (State.reset.updProf fun q => { q with stored := storedCopy factoryProfile }))).prof.source = .stored ∧
      (after (exec .powerOn State.reset)).prof.source = .defaults ∧
      (after (exec .pinReset (cycling .running true [stageA] State.reset))).cpx.cycle = .idle ∧
      (after (exec .pinReset ((cycling .running true [stageA] State.reset).updProf fun q =>
        { q with active := { q.active with pinResetEnable := 0 } }))).cpx.cycle = .running := by decide
/-- The hypotheses of `EveryResetLeavesTheResetState`: the pin's enable on and off, a closing with nothing owed, no write in flight. -/
theorem test_witness_resets :
    (State.reset.profile.pinResetEnable = 1 ∧ State.reset.prof.write = none ∧ State.reset.link.line = none) ∧
      (State.reset.updProf fun q => { q with active := { q.active with pinResetEnable := 0 } }).profile.pinResetEnable ≠ 1 ∧
      (State.reset.updLink fun l => { l with closing := .replyTaken }).link.closing = .replyTaken ∧
      State.reset.link.slot = none ∧ State.reset.link.inbound = [] := by decide
/-- R90, R110, R21: a few lines of the reset tables. -/
theorem test_reset_values :
    State.reset.drum.table[0] = ⟨40, 12, 12, 20, 512⟩ ∧ (State.reset.elem .e1).minOff = some 10000 ∧
      State.reset.link.reports.map (·.code) = [0x04, 0x10] ∧ State.reset.headroom = 520 := by decide

/-! ### The allowance and the arbiter (chapter 7) -/

/-- The account of the worked sequence of 7.4 at 1000.0, with some entries free: E1, E2, E3 granted at 15.0 A, headroom 7.0 A. -/
def account (free : Bool) (s : State) : State :=
  s.updSaa fun a => { a with grants := [⟨.e1, 150, free⟩, ⟨.e2, 150, false⟩, ⟨.e3, 150, false⟩] }

/-- A message of DRUM's in flight to SAA. -/
def surging (m : DrumMsg) (s : State) : State := s.updPaths fun p => { p with drumToSaa := [m] }
/-- A surge PENDING or GRANTED under a number. -/
def surgeIs (st : SurgeState) (n : Byte) (s : State) : State := s.updSaa fun a => { a with surge := st, txn := some n }

/-- 7.4: 58.0 A sheds nothing; 50.0 A force-sheds the newest; 13.9 A is below base load plus surge. -/
theorem test_allowance_set :
    (sent 0x05 [0x02, 0x44] (account true State.reset)).headroom = 50 ∧
      (sent 0x05 [0x01, 0xF4] (account true State.reset)).saa.grants.map (·.element) = [.e1, .e2] ∧
      answer 0x05 [0, 139] State.reset = [0x12, 1, 0] := by decide
/-- The hypotheses of `AllowanceSetMovesTheAllowance` at both bounds of the check: 14.0 A against the surge, 23.0 A against an
element of 15.0 A; below, at and above the allowance of 60.0 A; with entries shed and none; the surge PENDING, fitting and not. -/
theorem test_witness_allowance :
    (∀ v ∈ ([139, 140, 229, 230] : List Byte), requestDue 0x05 1 [0, v] (frame 0x05 1 [0, v]) (inbox 0x05 1 [0, v] State.reset) ∧
      v.toNat = (0 : Byte).toNat * 256 + v.toNat) ∧
      (139 < State.reset.profile.baseLoad + State.reset.profile.surge ∧
        229 < State.reset.profile.baseLoad + Profile.current State.reset.profile .e1 ∧
        State.reset.profile.baseLoad + State.reset.profile.surge ≤ 230) ∧
      (∀ e, State.reset.profile.baseLoad + Profile.current State.reset.profile e ≤ 230) ∧
      (∀ v ∈ [500, 600, 700], let u := (account false State.reset).updProf fun q => { q with active := { q.active with allowance := v } }
        ((v < State.reset.profile.allowance) = (v = 500)) ∧
          ((shedUntil 0 (allNewest u.saa) u).saa.grants.length < u.saa.grants.length ↔ v = 500)) ∧
      (surgeIs .pending 1 State.reset).saa.surge = .pending ∧ State.reset.saa.surge ≠ .pending ∧
      ((State.reset.profile.surge : Int) ≤ (surgeIs .pending 1 State.reset).headroom ∧
        (let s := (surgeIs .pending 1 (account false State.reset)).updProf fun q => { q with active := { q.active with allowance := 580 } }
         s.headroom < s.profile.surge)) :=
  ⟨fun _ _ => ⟨inbox_due _ _ _ _ rfl rfl, by simp⟩, by decide, by intro e; cases e <;> decide, by decide, by decide, by decide,
    by decide⟩
/-- The hypotheses of `QueueServiceGrantsTheHeadsThatFit` and of `ShedsTakeTheNewestUntilTheNeedIsMet`: the surge PENDING and not,
grants with a free entry and with none, a need that one shed meets and one that none meets. -/
theorem test_witness_service :
    (surgeIs .pending 1 State.reset).saa.surge = .pending ∧ State.reset.saa.surge ≠ .pending ∧
      (∀ free, ((account free State.reset).saa.grants.map (·.element)).Nodup) ∧
      ((account true State.reset).saa.grants.filter (·.free)).reverse = [⟨.e1, 150, true⟩] ∧
      (account false State.reset).saa.grants.filter (·.free) = [] := by decide
/-- 6.5: 52.0 A of headroom grants three of 15.0 A in order and stops at the fourth. -/
theorem test_queue_service :
    ((serveQueue (State.reset.updSaa fun a =>
      { a with queue := [⟨.e1, 150⟩, ⟨.e2, 150⟩, ⟨.e3, 150⟩, ⟨.e4, 150⟩] })).saa.queue.map (·.element)) = [.e4] := by decide
/-- R115: 7.0 A of headroom refuses 15.0 A, which waits; with nothing granted it is granted. -/
theorem test_element_request :
    (after (exec (.elementRequest .e4 150) (asking (.request .e4 150) (account true State.reset)))).saa.queue = [⟨.e4, 150⟩] ∧
      (after (exec (.elementRequest .e4 150) (asking (.request .e4 150) State.reset))).paths.saaToHstg = [.grant .e4] := by decide
theorem test_element_withdrawal :
    (after (exec (.elementWithdrawal .e4) (asking (.withdrawal .e4)
      (State.reset.updSaa fun a => { a with queue := [⟨.e4, 150⟩] })))).saa.queue = [] := by decide
/-- R114: a release frees 15.0 A, which the waiting E4 takes. -/
theorem test_element_release :
    (after (exec (.elementRelease .e1) (asking (.release .e1)
      ((account true State.reset).updSaa fun a => { a with queue := [⟨.e4, 150⟩] })))).saa.grants.map (·.element) =
        [.e2, .e3, .e4] := by decide
/-- 7.4: a notice with the surge GRANTED sets the free flag; with it PENDING the entry is shed and the surge granted. -/
theorem test_on_free_notice :
    ((after (exec (.onFreeNotice .e2) (asking (.onFree .e2) (surgeIs .granted 1 (account true State.reset))))).saa.grants.map (·.free)) =
        [true, true, false] ∧
      (after (exec (.onFreeNotice .e1) (asking (.onFree .e1) (surgeIs .pending 1 (account false State.reset))))).saa.surge =
        .granted := by decide
/-- The hypotheses of `ArbiterTakesElementMessages`: each message at the head, its element granted, queued, or neither; a fit and none
at 7.0 A of headroom; the surge PENDING and not. -/
theorem test_witness_element_messages :
    (∀ m ∈ [HstgMsg.request .e4 150, .withdrawal .e4, .release .e1, .onFree .e1],
      (asking m (account true State.reset)).paths.hstgToSaa = m :: []) ∧
      granted .e1 (account true State.reset).saa = true ∧ granted .e4 (account true State.reset).saa = false ∧
      queued .e4 (account true State.reset).saa = false ∧
      queued .e4 (State.reset.updSaa fun a => { a with queue := [⟨.e4, 150⟩] }).saa = true ∧
      ((70 : Nat) : Int) ≤ (account true State.reset).headroom ∧ (account true State.reset).headroom < ((71 : Nat) : Int) ∧
      (surgeIs .pending 1 State.reset).saa.surge = .pending ∧ State.reset.saa.surge ≠ .pending := by decide
/-- 7.4: at 58.0 A the surge of 6.0 A does not fit 5.0 A; the free E1 is shed and the surge granted; with none free the timer starts. -/
theorem test_surge_request :
    (let s := (account true State.reset).updProf fun q => { q with active := { q.active with allowance := 580 } }
     let t := after (exec (.surgeRequest 1) (surging (.request 1) s))
     t.saa.surge = .granted ∧ t.headroom = 140 ∧ t.paths.saaToHstg = [.shed .e1] ∧ t.paths.saaToDrum = [1]) ∧
    (let s := (account false State.reset).updProf fun q => { q with active := { q.active with allowance := 580 } }
     (after (exec (.surgeRequest 1) (surging (.request 1) s))).saa.grantTimer = some 3000) := by decide
/-- 7.4: the expiry force-sheds E3, grants the surge and leaves 14.0 A. -/
theorem test_grant_timer :
    let s := (surgeIs .pending 1 (account false State.reset)).updProf fun q => { q with active := { q.active with allowance := 580 } }
    let t := after (exec .grantTimerExpiry (s.updSaa fun a => { a with grantTimer := some 3000 }))
    t.saa.grants.map (·.element) = [.e1, .e2] ∧ t.headroom = 140 ∧ t.link.flags.grantForced = true := by decide
theorem test_surge_release :
    (after (exec (.surgeRelease 1) (surging (.release 1) (surgeIs .granted 1 State.reset)))).saa.surge = .idle ∧
      (after (exec (.surgeRelease 2) (surging (.release 2) (surgeIs .granted 1 State.reset)))).saa.surge = .granted := by decide
theorem test_surge_withdrawal :
    (after (exec (.surgeWithdrawal 1) (surging (.withdrawal 1) (surgeIs .pending 1 State.reset)))).saa.surge = .idle := by decide
/-- The hypotheses of `ArbiterTakesSurgeMessages`: each message at the head; each surge state; a fit at exactly 6.0 A and none below. -/
theorem test_witness_surge_messages :
    (∀ m ∈ [DrumMsg.request 1, .release 1, .withdrawal 1], (surging m State.reset).paths.drumToSaa = m :: []) ∧
      (surgeIs .granted 1 State.reset).saa.txn = some 1 ∧ (surgeIs .granted 1 State.reset).saa.surge ≠ .idle ∧
      State.reset.saa.surge = .idle ∧
      (let at66 (v : Nat) := (account false State.reset).updProf fun q => { q with active := { q.active with allowance := v } }
       ((at66 590).profile.surge : Int) ≤ (at66 590).headroom ∧ (at66 589).headroom < (at66 589).profile.surge ∧
        ((at66 589).profile.surge : Int) ≤ (shedUntil (at66 589).profile.surge (allNewest (at66 589).saa) (at66 589)).headroom) ∧
      ((surgeIs .pending 1 State.reset).updSaa fun a => { a with grantTimer := some 3000 }).saa.grantTimer ≠ none := by decide
/-- The hypotheses of `AccountFitsAndHoldsNoneTwice`, for a POWER_ON and any other command. -/
theorem test_witness_account :
    (loadStore (storeAfterReset State.reset)).1.baseLoad ≤ (loadStore (storeAfterReset State.reset)).1.allowance ∧
      accountHoldsNoneTwice (account true State.reset) ∧ accountFits (account true State.reset) := by
  unfold accountHoldsNoneTwice accountFits; decide

/-! ### The heat stager (chapter 6) -/

/-- A DRY stage heating toward 75.0 °C with an inlet limit of 180.0 °C, the gate open. -/
def heating (s : State) : State :=
  (blowing s).updHstg fun h => { h with heatEnable := true, settings := some ⟨.dry, 1, some ⟨750, 1800⟩⟩ }
/-- A message of SAA's in flight to HSTG. -/
def granting (m : SaaMsg) (s : State) : State := s.updPaths fun p => { p with saaToHstg := [m] }
/-- E1 waiting for its requested grant. -/
def waiting (s : State) : State := s.updElem .e1 fun r => { r with state := .waitGrant, requested := true, minOff := none }
/-- E1 energized. -/
def energized (st : ElementState) (s : State) : State :=
  (s.updElem .e1 fun r => { r with state := st, minOff := none, minOn := if st = .onHold then some 20000 else none }).updHstg
    fun h => { h with onOrder := [.e1] }

/-- The worked sequence of 6.3: 66.3 °C asks for 3, 58.0 °C for 4, 75.0 °C for 0, 74.9 °C for 1. -/
theorem test_demand :
    ([663, 580, 610, 750, 749].map fun v => demandFor factoryProfile (heating State.reset).hstg v) = [3, 4, 4, 0, 1] := by decide
/-- R100: behind an open gate the grant energizes, behind a closed one it goes back as a release. -/
theorem test_element_grant :
    ((after (exec (.elementGrant .e1) (granting (.grant .e1) (waiting (heating State.reset))))).elem .e1).state = .onHold ∧
      (after (exec (.elementGrant .e1) (granting (.grant .e1) (waiting State.reset)))).paths.hstgToSaa = [.release .e1] := by decide
/-- R106: a shed in ON_FREE is SHED, one in ON_HOLD is FORCED. -/
theorem test_shed :
    ((after (exec (.shed .e1) (granting (.shed .e1) (energized .onFree State.reset)))).elem .e1).lastOff = .shed ∧
      ((after (exec (.shed .e1) (granting (.shed .e1) (energized .onHold State.reset)))).elem .e1).lastOff = .forced := by decide
/-- 6.8 at 665: with D = 0 the min-on expiry switches the element off with cause NORMAL before any notice. -/
theorem test_min_on :
    (after (exec (.minOnExpiry .e1) (energized .onHold State.reset))).paths.hstgToSaa = [.release .e1] ∧
      (after (exec (.minOnExpiry .e1) ((energized .onHold State.reset).updHstg fun h => { h with demand := 1 }))).paths.hstgToSaa =
        [.onFree .e1] := by decide
theorem test_min_off : ((after (exec (.minOffExpiry .e2) State.reset)).elem .e2).state = .offReady := by decide
/-- The hypotheses of `StagerTakesGrantsShedsAndHolds`, clause by clause. -/
theorem test_witness_stager :
    ((granting (.grant .e1) (waiting (heating State.reset))).paths.saaToHstg = .grant .e1 :: [] ∧
      ((waiting (heating State.reset)).elem .e1).state = .waitGrant ∧ ((waiting (heating State.reset)).elem .e1).requested = true ∧
      energizeGate (waiting (heating State.reset)).atu = true ∧ energizeGate (waiting State.reset).atu = false ∧
      ¬ ((State.reset.elem .e1).state = .waitGrant ∧ (State.reset.elem .e1).requested = true)) ∧
    ((granting (.shed .e1) (energized .onFree State.reset)).paths.saaToHstg = .shed .e1 :: [] ∧
      ((energized .onFree State.reset).elem .e1).state = .onFree ∧ ((energized .onHold State.reset).elem .e1).state = .onHold ∧
      (State.reset.elem .e1).state.energized = false) ∧
    ((energized .onHold State.reset).elem .e1).minOn ≠ none ∧ (State.reset.elem .e1).minOff ≠ none ∧
      (State.reset.elem .e1).state = .offHold := by decide
/-- 6.8 at 600: under ROTATE a demand of 3 chooses E1, E2, E3 and leaves the pointer at E4. -/
theorem test_rotation :
    let t := setDemand 3 (elements .offReady State.reset)
    t.hstg.pointer = .e4 ∧ t.paths.hstgToSaa = [.request .e1 150, .request .e2 150, .request .e3 150] := by decide
/-- The hypotheses of `AppliedDemandChoosesByPolicy`: a sound list, a lack and an excess of one and of more than one, both
policies, each element state, waiting elements requested and held back. -/
theorem test_witness_demand :
    onOrderSound State.reset ∧ onOrderSound (energized .onFree State.reset) ∧
      (let lack := (elements .offReady State.reset).updHstg fun h => { h with demand := 1 }
       lack.hstg.demand = activeCount lack.hstg + 1 ∧ (lack.elem .e1).state = .offReady ∧ lack.profile.policy = 2 ∧
        (∀ e' ∈ (scanFrom lack.hstg.pointer).takeWhile (· ≠ .e1), (lack.elem e').state ≠ .offReady)) ∧
      (State.reset.updProf fun q => { q with active := { q.active with policy := 1 } }).profile.policy ≠ 2 ∧
      (activeCount (waiting State.reset).hstg = (waiting State.reset).hstg.demand + 1 ∧
        ∀ e' ∈ allElements.reverse.takeWhile (· ≠ .e1), ((waiting State.reset).elem e').state ≠ .waitGrant) ∧
      activeCount (energized .onFree State.reset).hstg = (energized .onFree State.reset).hstg.demand + 1 ∧
      (∀ e' : Element, ((energized .onFree State.reset).elem e').state ≠ .waitGrant) ∧
      (let lack := (elements .offReady State.reset).updHstg fun h => { h with demand := 3 }
       onOrderSound lack ∧ activeCount lack.hstg + 2 < lack.hstg.demand) ∧
      (let excess := (elements .waitGrant State.reset).updElem .e2 fun r => { r with requested := true }
       onOrderSound excess ∧ excess.hstg.demand + 2 < activeCount excess.hstg ∧
        (excess.elem .e2).requested = true ∧ (excess.elem .e1).requested = false) := by
  refine ⟨⟨by decide, by intro e; cases e <;> decide⟩, ⟨by decide, by intro e; cases e <;> decide⟩, by decide, by decide,
    by decide, by decide, by intro e; cases e <;> decide, ⟨⟨by decide, by intro e; cases e <;> decide⟩, by decide⟩,
    ⟨by decide, by intro e; cases e <;> decide⟩, by decide⟩
/-- R104: a stop sets D to 0 and takes the element off with cause STOP. -/
theorem test_stop :
    let t := hstgStop true (energized .onHold (heating State.reset))
    t.hstg.heatEnable = false ∧ (t.elem .e1).lastOff = .stop ∧ t.paths.hstgToSaa = [.release .e1] := by decide
/-- The hypotheses of the statements about the heat, met beyond reset by a RUNNING cycle with E1 energized behind an open gate. -/
theorem test_witness_heat :
    let s := energized .onHold (heating (cycling .running true [stageA] State.reset))
    onOrderSound s ∧ heatGated s ∧ heatWithinCycle s ∧ tripsBarWork s ∧ step s = .next s := by
  refine ⟨⟨by decide, by intro e; cases e <;> decide⟩, by intro e; cases e <;> decide, ?_, ?_, rfl⟩
  · exact ⟨by decide, by decide, fun h => absurd rfl h⟩
  · unfold tripsBarWork; decide

/-! ### The drum and the electrodes (chapters 1 to 3) -/

/-- The drum in a state, with a stop confirmed. -/
def drumIn (st : DrumState) (s : State) : State := s.updDrum fun d => { d with state := st, stopConfirmed := true, stopDetect := none }
/-- A RUN drum whose open revolution has counted its 24 pulses, with a mean current in 0.01 A. -/
def turning (mean : Nat) (s : State) : State := (drumIn .run s).updDrum fun d => { d with openRev := some ⟨24, 24 * mean⟩ }
/-- The drum after one index marker. -/
def marked (elapsed : Nat) (s : State) : State := after (exec (.indexMarker elapsed) s)

/-- R1: 512 + 1 in RUN, 0 in DECEL. -/
theorem test_speed_demand :
    speedDemand ((turning 400 State.reset).updDrum fun d => { d with offset := 1 }).drum = 513 ∧
      speedDemand (drumIn .decelStop State.reset).drum = 0 := by decide
/-- R4, R5: a run request behind a confirmed stop asks for the surge; a stop in SURGE_WAIT withdraws it. -/
theorem test_run_and_stop :
    (runRequest (drumIn .stopped State.reset)).paths.drumToSaa = [.request 1] ∧
      (runRequest State.reset).drum.runPending = true ∧
      (drumStop (drumIn .surgeWait State.reset)).paths.drumToSaa = [.withdrawal 0] := by decide
/-- The hypotheses of `RunAndStopRequestsByDrumState`: every drum state, a stop confirmed and not. -/
theorem test_witness_drum_states :
    (∀ st ∈ [DrumState.stopped, .surgeWait, .accel, .run, .decelStop, .decelReverse, .dwell], (drumIn st State.reset).drum.state = st) ∧
      (drumIn .stopped State.reset).drum.stopConfirmed = true ∧ State.reset.drum.stopConfirmed = false := by decide
/-- The hypotheses of `DrumLeavesEachStateByItsExits` and of `CycleLeavesEachStateByItsEvents`: among them a RUNNING, a STARVED and a
PAUSED cycle with stage and state in agreement, each faulted by a HIGH_LIMIT condition. -/
theorem test_witness_exits :
    isReset .dwellExpiry = false ∧ exec .dwellExpiry State.reset = .next State.reset ∧
      (∃ t, exec (.tachPulse 0 0) State.reset = .next t) ∧
      (sent 0x21 [] (cycling .ready false [stageA] State.reset)).cpx.cycle ≠ .ready ∧
      (sent 0x30 [] (closedUp (cycling .ready false [stageA] State.reset))).cpx.cycle = .running ∧
      (∀ s ∈ [cycling .running true [stageA] State.reset, cycling .starved false [] State.reset, cycling .paused true [stageA] State.reset],
        (after (exec (.tripCondition .highLimit) (raising .highLimit false s))).cpx.cycle = .faulted) ∧
      stageSound (raising .highLimit false (cycling .running true [stageA] State.reset)) ∧
      stageSound (raising .highLimit false (cycling .starved false [] State.reset)) ∧
      stageSound (raising .highLimit false (cycling .paused true [stageA] State.reset)) :=
  ⟨rfl, rfl, ⟨_, rfl⟩, by decide, by decide, by decide, ⟨by decide, rfl⟩, ⟨rfl, rfl⟩, fun _ => by decide⟩
/-- 2.4 at 3.710 and R3: stop-detect in DECEL (REVERSE) brings DWELL for 2.0 s; in STOPPED a pending run starts. -/
theorem test_stop_detect :
    (let s := (drumIn .decelReverse State.reset).updDrum fun d => { d with stopDetect := some 400 }
     (after (exec .stopDetectExpiry s)).drum.state = .dwell ∧ (after (exec .stopDetectExpiry s)).drum.dwellTimer = some 2000) ∧
      (after (exec .stopDetectExpiry (State.reset.updDrum fun d => { d with runPending := true }))).drum.state = .surgeWait := by
  decide
/-- 2.4 at 6.020. -/
theorem test_dwell_expiry :
    let t := after (exec .dwellExpiry ((drumIn .dwell State.reset).updDrum fun d => { d with dwellTimer := some 2000 }))
    t.drum.state = .surgeWait ∧ t.drum.direction = .rev ∧ t.drum.dirOut = .rev ∧ t.paths.drumToSaa = [.request 1] := by decide
/-- R6: the grant under the latest number brings ACCEL; another number is handed back. -/
theorem test_surge_grant :
    (let s := (drumIn .surgeWait State.reset).updPaths fun p => { p with saaToDrum := [0] }
     (after (exec (.surgeGrant 0) s)).drum.state = .accel ∧ (after (exec (.surgeGrant 0) s)).drum.accelTimer = some 3000) ∧
    (let s := (drumIn .surgeWait State.reset).updPaths fun p => { p with saaToDrum := [7] }
     (after (exec (.surgeGrant 7) s)).paths.drumToSaa = [.release 7]) := by decide
theorem test_accel_timer :
    (after (exec .accelTimerExpiry ((drumIn .accel State.reset).updDrum fun d => { d with accelTimer := some 3000 }))).drum.accelTimer =
      none := by decide
/-- R17. -/
theorem test_stall_timer :
    let t := after (exec .stallTimerExpiry ((drumIn .run State.reset).updDrum fun d => { d with stallTimer := some 6000 }))
    t.paths.trip = [⟨.drumStall, false⟩] ∧ t.drum.stallRaised = true := by decide
/-- The hypotheses of `DrumTimersAndSurgeGrant`, clause by clause, with dwell 0 and not. -/
theorem test_witness_drum_timers :
    State.reset.drum.stopDetect ≠ none ∧ State.reset.drum.state = .stopped ∧ State.reset.drum.runPending = false ∧
      (∀ n raised pending, let s := State.reset.updDrum fun d =>
          { d with state := .decelStop, malformedRun := n, stallRaised := raised, runPending := pending }
        s.drum.stopDetect ≠ none ∧ s.drum.state = .decelStop ∧ s.drum.runPending = pending) ∧
      (drumIn .decelReverse State.reset).drum.active.dwell ≠ 0 ∧
      ((drumIn .decelReverse State.reset).updDrum fun d => { d with active := { d.active with dwell := 0 } }).drum.active.dwell = 0 ∧
      ((drumIn .dwell State.reset).updDrum fun d => { d with dwellTimer := some 2000 }).drum.dwellTimer ≠ none ∧
      ((drumIn .accel State.reset).updDrum fun d => { d with accelTimer := some 3000 }).drum.accelTimer ≠ none ∧
      ((drumIn .run State.reset).updDrum fun d => { d with stallTimer := some 6000 }).drum.stallTimer ≠ none ∧
      ((drumIn .surgeWait State.reset).updPaths fun p => { p with saaToDrum := [0] }).paths.saaToDrum = 0 :: [] ∧
      (0 : Byte) = (drumIn .surgeWait State.reset).drum.txn ∧ (7 : Byte) ≠ (drumIn .surgeWait State.reset).drum.txn := by
  refine ⟨by decide, by decide, by decide, fun _ _ _ => ⟨nofun, rfl, rfl⟩, ?_⟩; decide
/-- The worked example of 3.3: w of the counts 1500, 3000, 800 and 3900. -/
theorem test_wetness : ([1500, 3000, 800, 3900].map wetness) = [442, 93, 1053, 12] := by decide
/-- R41, R42: position 11 is the first of the window; a count of 3900 is a contact and 3901 is not. -/
theorem test_tach_pulse :
    let at10 := State.reset.updEfe fun _ => ⟨true, 10, 0, 0, 0⟩
    (after (exec (.tachPulse 400 3900) at10)).efe = ⟨true, 11, 1, 1, 12⟩ ∧
      (after (exec (.tachPulse 400 3901) at10)).efe = ⟨true, 11, 1, 0, 0⟩ := by decide
/-- R11, R44: a first marker in ACCEL opens a revolution and closes none; after the accel timer it also brings RUN. -/
theorem test_index_marker_opens :
    (marked 0 ((drumIn .accel State.reset).updDrum fun d => { d with accelTimer := some 3000 })).drum.state = .accel ∧
      (marked 0 (drumIn .accel State.reset)).drum.state = .run ∧ (marked 0 (drumIn .accel State.reset)).drum.history = [] := by decide
/-- 1.6, revolutions a, c and d: +34 with lock clear is RAMP and raises the offset; +12 sets lock; -23 with lock set is STEADY and
lowers it. -/
theorem test_regulation_and_lock :
    (let t := marked 1534 (turning 400 State.reset)
     t.drum.offset = 1 ∧ t.drum.lock = false ∧ t.drum.history.map (·.cls) = [.ramp]) ∧
    (marked 1512 (turning 400 State.reset)).drum.lock = true ∧
    (let t := marked 1477 ((turning 400 State.reset).updDrum fun d => { d with lock := true, offset := 2 })
     t.drum.offset = 1 ∧ t.drum.lock = true ∧ t.drum.history.map (·.cls) = [.steady]) := by decide
/-- 1.6, revolution e: 23 pulses are MALFORMED, clear lock and leave the offset; the fourth in a row hands TACH. -/
theorem test_malformed :
    let t := marked 1498 ((turning 400 State.reset).updDrum fun d =>
      { d with openRev := some ⟨23, 9200⟩, lock := true, offset := 1, malformedRun := 3 })
    t.drum.offset = 1 ∧ t.drum.lock = false ∧ t.drum.history.map (·.cls) = [.malformed] ∧ t.paths.trip = [⟨.tach, false⟩] := by
  decide
/-- R7, R12, R13: a marker that closes the 24 pulses of an ACCEL revolution after the accel timer records it RAMP in ACCEL, brings
RUN and releases the surge; with the timer running ACCEL stays. -/
theorem test_index_marker_brings_run :
    let open' := (drumIn .accel State.reset).updDrum fun d => { d with openRev := some ⟨24, 9600⟩, txn := 1 }
    let t := marked 1534 open'
    (t.drum.state = .run ∧ t.paths.drumToSaa = [.release 1] ∧ t.drum.offset = 0 ∧
      t.drum.history.map (fun r => (r.state, r.cls, r.outcome)) = [(.accel, .ramp, .skipped)]) ∧
      (marked 1534 (open'.updDrum fun d => { d with accelTimer := some 3000 })).drum.state = .accel := by decide
/-- The hypotheses of `IndexMarkerOutsideARevolution`, `ClosedRevolutionIsRecorded` and `TachPulseCountsAndSamples`: no open revolution
at rest, in DECEL, ACCEL and RUN; an open one of 24 pulses and of 23 in each state that times revolutions, lock set and clear, the
accel timer run out or not, a stall raised or not; positions 10, 11, 18 and 19 of a window 11 to 18. -/
theorem test_witness_revolutions :
    State.reset.drum.state.timesRevs = false ∧ (drumIn .decelStop State.reset).drum.openRev = none ∧
      (drumIn .run State.reset).drum.openRev = none ∧ (drumIn .accel State.reset).drum.accelTimer = none ∧
      (drumIn .accel State.reset).drum.stallRaised = false ∧
      (turning 400 State.reset).drum.state = .run ∧ (turning 400 State.reset).drum.openRev = some ⟨24, 9600⟩ ∧
      24 = (turning 400 State.reset).profile.tachPulses ∧ (23 : Nat) ≠ (turning 400 State.reset).profile.tachPulses ∧
      (∀ st ∈ [DrumState.accel, .run, .decelStop, .decelReverse], ∀ pulses lock timer raised, ∀ run ∈ [3, 4],
        let s := State.reset.updDrum fun d =>
          { d with
            state := st, openRev := some ⟨pulses, 9600⟩, lock := lock, accelTimer := timer, stallRaised := raised,
            malformedRun := run }
        s.drum.state.timesRevs = true ∧ s.drum.openRev = some ⟨pulses, 9600⟩ ∧ s.drum.lock = lock ∧ s.drum.accelTimer = timer ∧
          s.drum.stallRaised = raised ∧ s.drum.malformedRun = run) ∧
      (State.reset.updEfe fun _ => ⟨true, 10, 0, 0, 0⟩).efe.phaseKnown = true ∧
      (10 ≤ State.reset.profile.windowStart ∧ State.reset.profile.windowStart < 11 ∧
        18 ≤ State.reset.profile.windowStart + State.reset.profile.windowLen ∧
        State.reset.profile.windowStart + State.reset.profile.windowLen < 19) ∧
      State.reset.efe.phaseKnown = false := by
  refine ⟨by decide, by decide, by decide, by decide, by decide, by decide, by decide, by decide, by decide, ?_, by decide,
    by decide, by decide⟩
  intro st hst _ _ _ _ _ _
  exact ⟨by revert st; simp only [List.forall_mem_cons]; exact ⟨rfl, rfl, rfl, rfl, nofun⟩, rfl, rfl, rfl, rfl, rfl⟩
/-- 2.4: the twelfth FWD close of a 12/12 pattern makes the reversal due; the eleventh does not. -/
theorem test_scheduled_reversal :
    (marked 1500 ((turning 400 State.reset).updDrum fun d => { d with reversalRun := 11 })).drum.state = .decelReverse ∧
      (marked 1500 ((turning 400 State.reset).updDrum fun d => { d with reversalRun := 10 })).drum.state = .run := by decide
/-- 2.6: the sixteenth current makes I_base 412 from a sum of 6592; 476 is not above 476; the sixth in a row forces the reversal. -/
theorem test_tangle :
    (marked 1500 ((turning 412 State.reset).updDrum fun d => { d with baseSum := 6180, baseCount := 15 })).drum.iBase = some 412 ∧
      (marked 1500 ((turning 476 State.reset).updDrum fun d => { d with iBase := some 412, tangleRun := 4 })).drum.tangleRun = 0 ∧
      (let t := marked 1500 ((turning 541 State.reset).updDrum fun d => { d with iBase := some 412, tangleRun := 5 })
       t.drum.state = .decelReverse ∧ t.drum.stageTangles = 1 ∧ t.link.flags.tangleReversal = true) := by decide
/-- The hypotheses of `RunCloseReversesTheDrum`: a RUN drum, in and out of a GUARD stage, FWD and REV; a STEADY revolution with the
baseline forming, completing and established, at 476, at 477 and as the sixth, as the ninth in the stage and not; a RAMP one. -/
theorem test_witness_tangle :
    (drumIn .run State.reset).drum.state = .run ∧ (drumIn .run State.reset).drum.guardStage = false ∧
      (drumIn .run State.reset).drum.dirOut = .fwd ∧
      (measure factoryProfile (turning 476 State.reset).drum ⟨24, 24 * 476⟩ 1500).cls = .steady ∧
      (measure factoryProfile (turning 476 State.reset).drum ⟨24, 24 * 476⟩ 1500).iRev = 476 ∧
      State.reset.drum.iBase = none ∧ State.reset.drum.baseCount ≠ 15 ∧
      476 ≤ 412 + 412 * State.reset.profile.tangleMargin / 256 ∧ 412 + 412 * State.reset.profile.tangleMargin / 256 < 477 ∧
      5 + 1 = State.reset.profile.tangleRun ∧
      (∀ guard n, let s := State.reset.updDrum fun d =>
          { d with guardStage := guard, iBase := some 412, baseCount := 15, tangleRun := 5, stageTangles := n }
        s.drum.guardStage = guard ∧ s.drum.iBase = some 412 ∧ s.drum.baseCount = 15 ∧ s.drum.tangleRun + 1 = s.profile.tangleRun ∧
          s.drum.stageTangles = n) ∧
      (measure factoryProfile (turning 476 State.reset).drum ⟨24, 24 * 476⟩ 1534).cls ≠ .steady := by
  refine ⟨by decide, by decide, by decide, by decide, by decide, by decide, by decide, by decide, by decide, by decide,
    fun _ _ => ⟨rfl, rfl, rfl, rfl, rfl⟩, by decide⟩

/-! ### The moisture estimator (chapters 3 and 4) -/

/-- 4.1: the worked folds, drying from 1000 toward 987, wetting toward 1020, the stall at 1007, and the example of 3.4. -/
theorem test_filter :
    ((List.range 10).foldl (fun f _ => filterStep 3 (some f) 987) 1000 = 987 ∧ filterStep 3 (some 1000) 987 = 998) ∧
      (List.range 11).foldl (fun f _ => filterStep 3 (some f) 1020) 1000 = 1013 ∧ filterStep 3 (some 1000) 1007 = 1000 ∧
      filterStep 3 (some 560) 507 = 553 ∧ filterStep 3 none 507 = 507 := by decide
/-- 3.5 with a limit of 3: the second sparse revolution is SPARSE, the third SPARSE_AS_DRY, a RAMP one SKIPPED. -/
theorem test_fold_decision :
    let s := (State.reset.updProf fun q => { q with active := { q.active with sparseLimit := 3 } }).updMest fun m => { m with f := some 700 }
    (fold 2 .steady 0 0 (s.updMest fun m => { m with sparse := 1 })).2 = (.sparse, none) ∧
      (fold 4 .steady 1 40 (s.updMest fun m => { m with sparse := 2 })).2 = (.sparseAsDry, some 0) ∧
      (fold 3 .ramp 0 0 s).2 = (.skipped, none) ∧ (fold 6 .steady 3 1800 s).2 = (.folded, some 600) := by decide
/-- The hypotheses of `FoldDecisionAndFilterRounding` and of the folds of `DryDecisionTrendAndEstimate` at Kmin - 1 and Kmin, the
sparse limit reached and not, warned and not; and around 2^k for k = 3. -/
theorem test_witness_fold :
    State.reset.profile.minContacts ≤ 2 ∧ 1 < State.reset.profile.minContacts ∧ RevClass.ramp ≠ .steady ∧
      (fold 1 .steady 1 0 State.reset).1.mest.sparse < State.reset.profile.sparseLimit ∧
      State.reset.profile.sparseLimit ≤ (fold 1 .steady 1 0 (State.reset.updMest fun m => { m with sparse := 63 })).1.mest.sparse ∧
      (∀ b, let s := State.reset.updMest fun m => { m with sparse := 63, sparseWarned := b }
        State.reset.profile.sparseLimit ≤ bump 255 s.mest.sparse ∧ s.mest.sparseWarned = b) ∧
      (1007 < 1000 + 2 ^ 3 ∧ 1000 + 2 ^ 3 ≤ 1008) := by decide
/-- A DRY stage of MEST with the worked sequence of 4.3: target 600, N = 3, dry-min exhaust 55.0 °C. -/
def judging (f b : Nat) (exhaust : Int) (s : State) : State :=
  (s.updMest fun m => { m with f := some f, b := b, stage := some ⟨.dry, 1, some ⟨600, 3, 550⟩⟩ }).updAtu
    fun a => { a with exhaust := ⟨exhaust, true, 0⟩ }
/-- 4.3, folds 3, 4, 6 and 9. -/
theorem test_dry_decision :
    (judgeDry (judging 587 0 548 State.reset)).mest.b = 0 ∧ (judgeDry (judging 572 0 551 State.reset)).mest.b = 1 ∧
      (judgeDry (judging 609 1 556 State.reset)).mest.b = 0 ∧ (judgeDry (judging 482 2 563 State.reset)).paths.dry = [1] := by decide
/-- 4.6: 84 s, then 97 s, and the saturation. -/
theorem test_estimate :
    (let m : Mest := { (judging 0 0 0 State.reset).mest with trend := [2400, 2210, 2050, 1900, 1770, 1650] }
     estimateFor m 1500 = some 84 ∧ estimateFor { m with trend := m.trend ++ [1640] } 1500 = some 97) ∧
      estimateFor { (judging 0 0 0 State.reset).mest with
        stage := some ⟨.dry, 1, some ⟨0, 3, 550⟩⟩, trend := 1000 :: List.replicate 15 999 } 6000 = some 65535 := by decide
/-- The hypotheses of `DryDecisionTrendAndEstimate`: F at 600 and 601, the exhaust at its minimum, below it and invalid, B at N - 1,
a fold counter at a multiple of 8 and not, and rings of 1 and 6 entries. -/
theorem test_witness_dry :
    (judging 600 2 550 State.reset).mest.stage = some ⟨.dry, 1, some ⟨600, 3, 550⟩⟩ ∧
      (judging 600 2 550 State.reset).mest.f = some 600 ∧ 600 ≤ 600 ∧ 600 < 601 ∧
      (judging 600 2 550 State.reset).atu.exhaust.valid = true ∧ (550 : Int) ≤ (judging 600 2 550 State.reset).atu.exhaust.value ∧
      (judging 600 2 549 State.reset).atu.exhaust.value < 550 ∧ State.reset.atu.exhaust.valid = false ∧
      (judging 600 2 550 State.reset).mest.b + 1 = 3 ∧ (judging 600 2 550 State.reset).mest.drySignalled = false ∧
      State.reset.mest.stage = none ∧ State.reset.mest.foldCounter % 8 = 0 ∧ 7 % 8 ≠ 0 ∧
      ([2400, 1650] : List Nat).head? = some 2400 ∧ ([2400, 1650] : List Nat).getLast? = some 1650 := by decide
/-- The hypotheses of `QueuesAndCountsKeepTheirBounds`, met beyond reset by full queues. -/
theorem test_witness_bounds :
    (let s := (State.reset.updLink fun l => { l with reports := List.replicate 8 (profileDefaultedReport 1) }).updMest
       fun m => { m with trend := List.replicate 16 5, f := some 65535 }
     queuesBounded s ∧ moistureBounded s) ∧
      dryCountBounded (judging 600 3 550 State.reset) ∧ tripsCounted (tripped .held State.reset) ∧ offsetBounded State.reset ∧
      (sumsInRange ((State.reset.updProf fun q => { q with active := { q.active with windowStart := 0, windowLen := 64 } }).updEfe
          fun _ => ⟨true, 64, 64, 64, 4194240⟩) ∧
        exponentMasked (State.reset.updProf fun q => { q with active := { q.active with filterExp := 7 } }) ∧
        windowInTurn (loadStore (storeAfterReset State.reset)).1) := by
  refine ⟨⟨by unfold queuesBounded; decide, ⟨by decide, by decide, ?_⟩⟩, ?_, ?_, by unfold offsetBounded; decide,
    by unfold sumsInRange exponentMasked windowInTurn; decide⟩
  · intro v hv; cases hv; decide
  · intro st d hs hd; cases hs; cases hd; decide
  · intro c; cases c <;> decide

/-! ### The air path (chapter 5) -/

/-- The state after a conversion. -/
def converted (ch : Channel) (raw : Int) (s : State) : State := after (exec (.conversionComplete ch raw) s)

/-- R75, R76, R77: 300.1 °C is invalid and holds the value, the second in a row raises SENSOR; 120.0 °C raises EXHAUST_FIRE,
109.9 °C ends it. -/
theorem test_exhaust :
    (converted .exhaust 3001 State.reset).atu.exhaust = ⟨0, false, 1⟩ ∧
      (converted .exhaust (-401) (converted .exhaust 3001 State.reset)).paths.trip = [⟨.sensor, false⟩] ∧
      (converted .exhaust 1200 State.reset).paths.trip = [⟨.exhaustFire, false⟩] ∧
      (converted .exhaust 1199 State.reset).paths.trip = [] ∧
      (converted .exhaust 1099 (converted .exhaust 1200 State.reset)).paths.trip = [⟨.exhaustFire, false⟩, ⟨.exhaustFire, true⟩] := by
  decide
/-- 6.3: 180.2 °C sets the cap, 176.0 °C keeps it, 174.8 °C clears it. -/
theorem test_inlet_cap :
    (converted .inlet 1802 (heating State.reset)).hstg.inletCap = true ∧
      (converted .inlet 1760 (converted .inlet 1802 (heating State.reset))).hstg.inletCap = true ∧
      (converted .inlet 1748 (converted .inlet 1802 (heating State.reset))).hstg.inletCap = false := by decide
/-- 5.4: 80 Pa proves airflow, on which the held-back elements request again in ascending number (R101); 79 Pa with it proven starts
the low-flow timer of 8 s. -/
theorem test_pressure :
    (let t := converted .pressure 80 ((elements .waitGrant (blowing State.reset)).updAtu fun a => { a with airflowProven := false })
     t.atu.airflowProven = true ∧
      t.paths.hstgToSaa = [.request .e1 150, .request .e2 150, .request .e3 150, .request .e4 150]) ∧
      (converted .pressure 79 (blowing State.reset)).atu.lowFlow = some 8000 := by decide
/-- 5.6: with 45.0 A granted the third reading above 58.0 A in a row hands SUPPLY_EXCESS. -/
theorem test_line_current :
    let two := (account true State.reset).updAtu fun a => { a with aboveRun := 2 }
    (converted .lineCurrent 582 two).paths.trip = [⟨.supplyExcess, false⟩] ∧
      (converted .lineCurrent 580 two).atu.aboveRun = 0 := by decide
/-- The hypotheses of `ConversionsMoveTheirChannels` at the bounds of the span, the fire threshold and the inlet limit; the raised
flags set and clear, each blower with airflow proven and not. -/
theorem test_witness_conversions :
    (-400 ≤ (-400 : Int) ∧ (3000 : Int) ≤ 3000 ∧ ¬ (-400 ≤ (-401 : Int) ∧ (-401 : Int) ≤ 3000) ∧
        ¬ (-400 ≤ (3001 : Int) ∧ (3001 : Int) ≤ 3000)) ∧
      (State.reset.atu.sensorRaised = false ∧ (converted .exhaust 3001 State.reset).atu.exhaust.invalidRun = 1) ∧
      (State.reset.atu.fireRaised = false ∧ (State.reset.profile.fireThreshold : Int) ≤ 1200) ∧
      ((449 : Int) < State.reset.profile.runOnTemp ∧ State.reset.cpx.cycle ≠ .running) ∧
      (heating State.reset).hstg.heatEnable = true ∧ (heating State.reset).hstg.settings = some ⟨.dry, 1, some ⟨750, 1800⟩⟩ ∧
      (heating State.reset).hstg.inletCap = false ∧ (1800 : Int) ≤ 1800 ∧ (580 : Int) = (580 : Nat) ∧
      (∀ b, ((heating State.reset).updHstg fun h => { h with inletCap := b }).hstg.inletCap = b) ∧
      State.reset.hstg.heatEnable = false ∧ State.reset.cpx.plan = [] ∧
      (∀ r rest, (heating (cycling .running true [stageA] State.reset)).cpx.plan = r :: rest → r.kind ≠ .cool) ∧
      (∀ blower proven sensor fire,
        let s := State.reset.updAtu fun a =>
          { a with blower := blower, airflowProven := proven, sensorRaised := sensor, fireRaised := fire }
        s.atu.blower = blower ∧ s.atu.airflowProven = proven ∧ s.atu.sensorRaised = sensor ∧ s.atu.fireRaised = fire) ∧
      (State.reset.profile.airflowMin : Int) ≤ max 0 (min 2000 80) ∧ max 0 (min 2000 79) < (State.reset.profile.airflowMin : Int) := by
  refine ⟨by decide, by decide, by decide, by decide, by decide, by decide, by decide, by decide, by decide, by decide,
    by decide, by decide, ?_, fun _ _ _ _ => ⟨rfl, rfl, rfl, rfl⟩, by decide, by decide⟩
  intro r rest h; cases h; decide
/-- R80, R81: both timers hand AIRFLOW. -/
theorem test_airflow_timers :
    (after (exec .graceTimerExpiry ((blowing State.reset).updAtu fun a => { a with grace := some 8000 }))).paths.trip =
        [⟨.airflow, false⟩] ∧
      (after (exec .lowFlowExpiry ((blowing State.reset).updAtu fun a => { a with lowFlow := some 8000 }))).atu.airflowRaised =
        true := by decide
theorem test_run_on_timer :
    (after (exec .runOnTimerExpiry ((closedUp State.reset).updAtu fun a => { a with blower := .runOn, runOn := some 300000 }))).atu.blower =
      .off := by decide
/-- R79: a RUN_ON request takes ON to RUN_ON with 5 min and ON behind an open door to OFF. -/
theorem test_blower :
    (blowerRequest .runOn (blowing State.reset)).atu.runOn = some 300000 ∧
      (blowerRequest .runOn ((blowing State.reset).updAtu fun a => { a with door := ⟨.opened, some .opened, none⟩ })).atu.blower = .off ∧
      (blowerRequest .on State.reset).atu.blower = .off := by decide
/-- The hypotheses of `BlowerFollowsRequestsAndTimers`. -/
theorem test_witness_blower :
    (blowing State.reset).atu.door.settled = some .closed ∧ (blowing State.reset).atu.blower = .on ∧ State.reset.atu.blower = .off ∧
      State.reset.atu.door.settled ≠ some .closed ∧
      ((closedUp State.reset).updAtu fun a => { a with blower := .runOn, runOn := some 300000 }).atu.runOn ≠ none ∧
      ((blowing State.reset).updAtu fun a => { a with grace := some 8000 }).atu.grace ≠ none ∧
      ((blowing State.reset).updAtu fun a => { a with lowFlow := some 8000 }).atu.lowFlow ≠ none ∧
      ∀ blower ∈ [Blower.off, .runOn, .on],
        (State.reset.updAtu fun a => { a with blower := blower }).atu.blower = blower ∧
          (State.reset.updAtu fun a => { a with blower := blower }).atu.door.settled ≠ some .closed := by decide
/-- R86: a change restarts the 50 ms; R87, R153: an opening in RUNNING pauses with cause DOOR; a first settling does not;
R101: a closing lets a held-back element request again. -/
theorem test_door :
    (after (exec (.inputLevelChange .door .opened) (closedUp State.reset))).atu.door = ⟨.opened, some .closed, some 50⟩ ∧
      (after (exec (.debounceExpiry .door) ((cycling .running true [stageA] (blowing State.reset)).updAtu fun a =>
        { a with door := ⟨.opened, some .closed, some 50⟩ }))).cpx.pauseCause = some .door ∧
      (after (exec (.debounceExpiry .door) State.reset)).atu.door = ⟨.closed, some .closed, none⟩ ∧
      (after (exec (.debounceExpiry .door) ((elements .waitGrant (blowing State.reset)).updAtu fun a =>
        { a with door := ⟨.closed, some .opened, some 50⟩ }))).paths.hstgToSaa =
          [.request .e1 150, .request .e2 150, .request .e3 150, .request .e4 150] := by decide
/-- R88. -/
theorem test_high_limit :
    (after (exec (.debounceExpiry .highLimit) (State.reset.updAtu fun a => { a with highLimit := ⟨.opened, none, some 50⟩ }))).paths.trip =
        [⟨.highLimit, false⟩] ∧
      (after (exec (.debounceExpiry .highLimit) (State.reset.updAtu fun a =>
        { a with highLimit := ⟨.closed, some .opened, some 50⟩ }))).paths.trip = [⟨.highLimit, true⟩] := by decide
/-- The hypotheses of `InputsAreDebouncedThenActedOn`: every pair of the settled and the raw level, on both inputs; the door
opening in each state of the cycle, with a stage that is GUARD and one that is not, and in STARVED with none. -/
theorem test_witness_inputs :
    ∀ settled ∈ [none, some Level.closed, some Level.opened], ∀ raw ∈ [Level.closed, Level.opened],
      (State.reset.updAtu fun a => { a with door := ⟨raw, settled, some 50⟩ }).atu.door.timer ≠ none ∧
        (State.reset.updAtu fun a => { a with highLimit := ⟨raw, settled, some 50⟩ }).atu.highLimit.timer ≠ none ∧
        (∀ c ∈ [CycleState.idle, .ready, .running, .starved, .paused, .faulted, .done], ∀ r ∈ [stageA, stageD],
          ((cycling c true [r] State.reset).updAtu fun a => { a with door := ⟨raw, settled, some 50⟩ }).cpx.cycle = c ∧
            ((cycling c true [r] State.reset).updAtu fun a => { a with door := ⟨raw, settled, some 50⟩ }).cpx.plan = [r]) ∧
        ((cycling .starved false [] State.reset).updAtu fun a => { a with door := ⟨raw, settled, some 50⟩ }).cpx.cycle = .starved ∧
        stageA.kind ≠ .guard ∧ stageD.kind = .guard := by decide

/-! ### The cycle (chapters 8 and 9) -/

/-- R136: START in READY behind a closed door runs stage 1; the refusals in order. -/
theorem test_start :
    (let t := sent 0x30 [] (closedUp (cycling .ready false [stageA, stageB] State.reset))
     t.cpx.cycle = .running ∧ t.cpx.ordinal = 1 ∧ t.atu.blower = .on ∧ t.hstg.heatEnable = true ∧ t.drum.activeIdx = 1) ∧
      answer 0x30 [] State.reset = [0x11] ∧ answer 0x30 [] (cycling .ready false [stageA] State.reset) = [0x18] ∧
      answer 0x30 [] (tripped .held (closedUp (cycling .ready false [stageA] State.reset))) = [0x19] := by decide
/-- 8.6: the stage start clamps B's target to 110.0 °C. -/
theorem test_stage_start :
    (startHead (closedUp (cycling .running true [stageB] State.reset))).hstg.settings = some ⟨.timed, 2, some ⟨1100, 1900⟩⟩ := by
  decide
/-- The hypotheses of `StageStartInstallsTheStage`: each kind at the head behind a CLOSED door and behind one that is not, a GUARD
head FINAL, alone and with a successor; a PLAN_APPEND in STARVED, with a target above the clamp and without. -/
theorem test_witness_stage_start :
    (∀ r ∈ [stageA, stageB, stageC, stageD], (closedUp (cycling .running false [r] State.reset)).cpx.plan = r :: [] ∧
      (closedUp (cycling .running false [r] State.reset)).atu.door.settled = some .closed) ∧
      (∀ r ∈ [stageA, stageB, stageC, stageD, { stageD with final := false }], ∀ rest ∈ [[], [stageD]],
        (cycling .running true (r :: rest) State.reset).cpx.plan = r :: rest ∧
          (cycling .running true (r :: rest) State.reset).atu.door.settled ≠ some .closed) ∧
      (∀ r ∈ [stageB, stageD], stageFits r ∧ ∀ i : Fin 1, stageFault [r][i.val] (decide (i.val + 1 = 1)) = none) ∧
      (stageA.exhaustTarget + 100 ≤ State.reset.profile.fireThreshold ∧
        State.reset.profile.fireThreshold < stageB.exhaustTarget + 100) ∧
      (∀ r ∈ [stageB, stageD], requestDue 0x20 1 ([r].flatMap stageBytes) (frame 0x20 1 ([r].flatMap stageBytes))
        (inbox 0x20 1 ([r].flatMap stageBytes) (cycling .starved false [] State.reset))) ∧
      (cycling .starved false [] State.reset).cpx.cycle = .starved ∧ (cycling .starved false [] State.reset).cpx.plan = [] :=
  ⟨by decide, by decide, by unfold stageFits; decide, by decide, fun _ _ => inbox_due _ _ _ _ rfl rfl, rfl, rfl⟩
/-- 8.6: at 1412 the next stage; at 2132 COOLED with an empty buffer, STARVED; at 3990 the FINAL stage ends DONE, COMPLETE. -/
theorem test_retirement :
    (let t := retire .dry (closedUp (cycling .running true [stageA, stageB] State.reset))
     t.cpx.ordinal = 2 ∧ t.cpx.plan.length = 1 ∧ t.cpx.lastExit = .dry) ∧
    (retire .cooled (closedUp (cycling .running true [stageC] State.reset))).cpx.cycle = .starved ∧
    (let t := retire .time (closedUp (cycling .running true [stageD] State.reset))
     t.cpx.cycle = .done ∧ t.cpx.endReason = .complete) := by decide
theorem test_advance :
    (sent 0x34 [] (closedUp (cycling .running true [stageA, stageB] State.reset))).cpx.lastExit = .advance ∧
      answer 0x34 [] State.reset = [0x11] := by decide
/-- R140 through an exhaust conversion: 40.0 °C at an elapsed of 120 s cools, 40.1 °C does not. -/
theorem test_cooled :
    let s := (closedUp (cycling .running true [stageC] State.reset)).updCpx fun c => { c with stageElapsed := 120 }
    (converted .exhaust 400 s).cpx.lastExit = .cooled ∧ (converted .exhaust 401 s).cpx.cycle = .running := by decide
/-- The hypotheses of `RetirementLeadsToDoneStarvedOrNext`: RUNNING and another state, a COOL stage with heat-enable clear, at and
below its min and its level, a FINAL head, a lone head and a head with a successor, the door CLOSED and not, a DRY head by TIME. -/
theorem test_witness_retirement :
    (∀ c, requestDue 0x34 1 [] (frame 0x34 1 []) (inbox 0x34 1 [] (cycling c true [stageA] State.reset)) ∧
      (atOwner (frame 0x34 1 []) (inbox 0x34 1 [] (cycling c true [stageA] State.reset))).cpx.cycle = c) ∧
      (stageC.kind = .cool ∧ (400 : Int) ≤ stageC.coolTo ∧ stageC.coolTo < 401 ∧ stageC.minDuration ≤ 120 ∧ 119 < stageC.minDuration) ∧
      (stageD.final = true ∧ stageC.final = false ∧
        (closedUp (cycling .running true [stageA, stageB] State.reset)).cpx.plan = stageA :: [stageB] ∧
        (closedUp (cycling .running true [stageC] State.reset)).atu.door.settled = some .closed) ∧
      ((cycling .running true [stageC] State.reset).cpx.plan = [stageC] ∧
        (cycling .running true [stageC] State.reset).hstg.heatEnable = false) ∧
      (cycling .running true [stageA] State.reset).atu.door.settled ≠ some .closed ∧ stageA.kind = .dry ∧ stageC.kind ≠ .dry :=
  ⟨fun _ => ⟨inbox_due _ _ _ _ rfl rfl, rfl⟩, by decide, by decide, by decide, by decide, by decide, by decide⟩
/-- R157: RESUME continues the stage, clears a HELD HOST_SILENT and sets B to 0; BUSY while the drum moves. -/
theorem test_resume :
    (let s := (closedUp (cycling .paused true [stageA] State.reset)).updTrip fun t => { t with hostSilent := ⟨.held, 1, some 3, 1⟩ }
     (sent 0x32 [] s).cpx.cycle = .running ∧ (sent 0x32 [] s).trip.hostSilent.state = .clear) ∧
      answer 0x32 [] (drumIn .decelStop (closedUp (cycling .paused true [stageA] State.reset))) = [0x10] ∧
      (sent 0x32 [] (closedUp (cycling .paused false [] State.reset))).cpx.cycle = .starved ∧
      (sent 0x32 [] (closedUp (cycling .paused false [stageA] State.reset))).cpx.stageActive = true := by decide
/-- R175: after one silence, whose end a frame brought that LINK answered itself, RESUME finds the entry HELD; a silence that began
after the RESUME's check stays in flight, and TRIPPED is the answer where TRIP has taken it. -/
theorem test_resume_after_silence :
    let s := ((closedUp (cycling .paused true [stageA] State.reset)).updTrip fun t => { t with hostSilent := ⟨.active, 1, some 3, 1⟩ })
    let t := (sent 0x99 [] (raising .hostSilent true s)).updLink fun l => { l with slot := none }
    (sent 0x32 [] t).trip.hostSilent.state = .clear ∧
      (sent 0x32 [] (raising .hostSilent false (s.updTrip fun t => { t with hostSilent := ⟨.held, 1, some 3, 1⟩ }))).paths.trip =
        [⟨.hostSilent, false⟩] ∧
      answer 0x32 [] s = [0x19] := by decide
/-- The hypotheses of `StartAndResumeSetTheCycleToWork`: every refusal and every case of both. -/
theorem test_witness_start_resume :
    (∀ kind ∈ ([0x30, 0x32] : List Byte), ∀ c b plan,
      requestDue kind 1 [] (frame kind 1 []) (inbox kind 1 [] (closedUp (cycling c b plan State.reset))) ∧
        (atOwner (frame kind 1 []) (inbox kind 1 [] (closedUp (cycling c b plan State.reset)))).cpx.cycle = c ∧
        (atOwner (frame kind 1 []) (inbox kind 1 [] (closedUp (cycling c b plan State.reset)))).cpx.stageActive = b ∧
        (atOwner (frame kind 1 []) (inbox kind 1 [] (closedUp (cycling c b plan State.reset)))).cpx.plan = plan ∧
        (atOwner (frame kind 1 []) (inbox kind 1 [] (closedUp (cycling c b plan State.reset)))).atu.door.settled = some .closed) ∧
      State.reset.atu.door.settled ≠ some .closed ∧ tripBars State.reset.trip = false ∧ tripBars (tripped .held State.reset).trip = true ∧
      State.reset.drum.state = .stopped ∧ (drumIn .decelStop State.reset).drum.state ≠ .stopped ∧
      (State.reset.updTrip fun t => { t with hostSilent := ⟨.active, 1, some 3, 1⟩ }).trip.hostSilent.state = .active :=
  ⟨fun _ _ _ _ _ => ⟨inbox_due _ _ _ _ rfl rfl, rfl, rfl, rfl, rfl⟩, by decide, by decide, by decide, by decide, by decide, by decide⟩
/-- R152, R146, R148. -/
theorem test_pause_abort_close :
    ((sent 0x31 [] (cycling .running true [stageA] State.reset)).cpx.pauseCause = some .host ∧
      answer 0x31 [] State.reset = [0x11]) ∧
    ((sent 0x33 [] (cycling .paused true [stageA] State.reset)).cpx.endReason = .aborted ∧
      answer 0x33 [] (cycling .done false [] State.reset) = [0x11]) ∧
    ((sent 0x35 [] (cycling .done false [stageA] State.reset)).cpx.plan = [] ∧
      answer 0x35 [] (tripped .held (cycling .faulted true [stageA] State.reset)) = [0x19]) := by decide
/-- The hypotheses of `PauseAbortAndCloseByCycleState` and of `StandingTripKeepsTheCycleOutOfWork`. -/
theorem test_witness_pause_abort_close :
    (∀ kind ∈ ([0x30, 0x31, 0x33, 0x35] : List Byte), ∀ c st,
      requestDue kind 1 [] (frame kind 1 []) (inbox kind 1 [] (tripped st (closedUp (cycling c true [stageA] State.reset)))) ∧
        (atOwner (frame kind 1 []) (inbox kind 1 [] (tripped st (closedUp (cycling c true [stageA] State.reset))))).cpx.cycle = c) ∧
      (tripBars (tripped .held State.reset).trip = true ∧ tripBars (tripped .clear State.reset).trip = false) ∧
      requestDue 0x51 1 (contextBytes contextA) (frame 0x51 1 (contextBytes contextA))
        (inbox 0x51 1 (contextBytes contextA) (tripped .held (cycling .ready false [stageA] State.reset))) ∧
      (contextBytes contextA).length = 32 ∧
      (∃ t, exec (.tripCondition .highLimit) State.reset = .next t) ∧ tripsBarWork (tripped .held State.reset) :=
  ⟨fun _ _ _ _ => ⟨inbox_due _ _ _ _ rfl rfl, rfl⟩, by decide, inbox_due _ _ _ _ rfl rfl, by decide, ⟨_, rfl⟩,
    by unfold tripsBarWork; decide⟩
/-- 8.5: the count that reaches 3600 ends A with TIME; dry-latched at 900 ends it DRY; in STARVED the starve timer counts. -/
theorem test_one_second :
    ((after (exec .oneSecondCount ((closedUp (cycling .running true [stageA, stageB] State.reset)).updCpx fun c =>
        { c with stageElapsed := 3599 }))).cpx.lastExit = .time) ∧
      ((after (exec .oneSecondCount ((closedUp (cycling .running true [stageA, stageB] State.reset)).updCpx fun c =>
        { c with stageElapsed := 899, dryLatched := true }))).cpx.lastExit = .dry) ∧
      (after (exec .oneSecondCount ((cycling .starved false [] State.reset).updCpx fun c =>
        { c with starve := some ⟨120, 5⟩ }))).cpx.starve = some ⟨120, 6⟩ := by decide
theorem test_starve_timer :
    (after (exec .starveTimerExpiry ((cycling .starved false [] State.reset).updCpx fun c =>
      { c with starve := some ⟨120, 120⟩ }))).cpx.endReason = .starved := by decide
/-- 8.5's worked sequence: before min the signal latches; at min it ends the stage; a stale ordinal is discarded. -/
theorem test_dry_reached :
    let at' (n : Nat) := (closedUp (cycling .running true [stageA, stageB] State.reset)).updCpx fun c => { c with stageElapsed := n }
    let signal (o : Nat) (s : State) := after (exec (.dryReachedSignal o) (s.updPaths fun p => { p with dry := [o] }))
    (signal 1 (at' 899)).cpx.dryLatched = true ∧ (signal 1 (at' 900)).cpx.lastExit = .dry ∧
      (signal 7 (at' 900)).cpx.lastExit = .none := by decide
/-- The hypotheses of `CountsAndSignalsJudgeTheStage`: each cycle state; counts at max, at max - 1, at a guard interval; a starve timer
at its limit; a signal of the current ordinal, of another, and for a stage that is not DRY. -/
theorem test_witness_counts :
    State.reset.cpx.cycle ∉ [CycleState.running, .starved] ∧ (cycling .running true [stageA] State.reset).cpx.plan = stageA :: [] ∧
      (stageA.maxDuration ≤ bump 65535 3599 ∧ bump 65535 3598 < stageA.maxDuration ∧ stageA.minDuration ≤ bump 65535 899) ∧
      (stageD.kind = .guard ∧ 0 < bump 65535 299 ∧ bump 65535 299 % stageD.guardInterval = 0 ∧
        bump 65535 300 % stageD.guardInterval ≠ 0) ∧
      ((cycling .starved false [] State.reset).updCpx fun c => { c with starve := some ⟨120, 120⟩ }).cpx.starve = some ⟨120, 120⟩ ∧
      (State.reset.drum.state = .stopped ∧ State.reset.drum.burst = false ∧
        (State.reset.updDrum fun d => { d with guardStage := true }).drum.guardStage = true) ∧
      (State.reset.updPaths fun p => { p with dry := [1] }).paths.dry = 1 :: [] ∧
      1 = (cycling .running true [stageA] State.reset).cpx.ordinal ∧ stageC.kind ≠ .dry := by decide
set_option maxRecDepth 60000 in
/-- The hypotheses of `PlanAndStageAgreeWithTheCycle` and of the trip invariant, met beyond reset by a RUNNING cycle. -/
theorem test_witness_plan_sound :
    planSound (cycling .running true [stageA, stageD] State.reset) ∧ stageSound (cycling .running true [stageA, stageD] State.reset) ∧
      tripsBarWork (cycling .running true [stageA, stageD] State.reset) := by
  refine ⟨⟨by decide, by decide⟩, ⟨by decide, by decide⟩, by unfold tripsBarWork; decide⟩

/-! ### Trips (chapter 10) -/

/-- R166 to R168, R170: a HALT cause faults a RUNNING cycle and puts the blower to run-on; EXHAUST_FIRE puts it OFF; HOST_SILENT
pauses. -/
theorem test_trip_condition :
    (let t := after (exec (.tripCondition .airflow) (raising .airflow false (cycling .running true [stageA] (blowing State.reset))))
     t.cpx.cycle = .faulted ∧ t.atu.blower = .runOn ∧ t.trip.airflow = ⟨.active, 1, some 0, 1⟩) ∧
    (after (exec (.tripCondition .exhaustFire)
      (raising .exhaustFire false (cycling .running true [stageA] (blowing State.reset))))).atu.blower = .off ∧
    (after (exec (.tripCondition .hostSilent)
      (raising .hostSilent false (cycling .running true [stageA] (blowing State.reset))))).cpx.pauseCause = some .silent := by decide
theorem test_trip_condition_end :
    (after (exec (.tripConditionEnd .highLimit) (raising .highLimit true (tripped .active State.reset)))).trip.highLimit =
      ⟨.held, 1, some 100, 2⟩ := by decide
/-- The hypotheses of `TripConditionsActByTheirClass`: a condition and an end at the head for their cause, the entry ACTIVE and not,
each class, a working cycle and another. -/
theorem test_witness_trip_conditions :
    (∀ c ∈ allCauses, (raising c false State.reset).paths.trip.find? (fun m => decide (m.cause = c)) = some ⟨c, false⟩ ∧
      (raising c true State.reset).paths.trip.find? (fun m => decide (m.cause = c)) = some ⟨c, true⟩) ∧
      ((tripped .active State.reset).trip.get .highLimit).state = .active ∧ (State.reset.trip.get .highLimit).state ≠ .active ∧
      tripClass .highLimit ≠ .pause ∧ tripClass .hostSilent = .pause ∧
      CycleState.working (cycling .running true [stageA] State.reset).cpx.cycle = true ∧
      CycleState.working State.reset.cpx.cycle = false ∧ (cycling .starved false [] State.reset).cpx.cycle = .starved := by decide
/-- The hypotheses of `CommandsNotDueChangeNothing`: no message, no frame and no timer. -/
theorem test_witness_not_due :
    let quiet := (State.reset.updDrum fun d => { d with stopDetect := none }).updAtu fun a =>
      { a with door := ⟨.closed, some .closed, none⟩, highLimit := ⟨.closed, some .closed, none⟩ }
    (quiet.link.inbound = [] ∧ (sent 0x0F [] State.reset).link.slot ≠ none) ∧ quiet.paths = .empty ∧
      (quiet.link.gapTimer = none ∧ quiet.link.silence = none ∧ quiet.drum.stopDetect = none ∧ quiet.drum.accelTimer = none ∧
        quiet.drum.dwellTimer = none ∧ quiet.drum.stallTimer = none ∧ quiet.atu.grace = none ∧ quiet.atu.lowFlow = none ∧
        quiet.atu.runOn = none ∧ quiet.atu.door.timer = none ∧ quiet.atu.highLimit.timer = none ∧ quiet.saa.grantTimer = none ∧
        quiet.cpx.starve = none ∧ quiet.prof.write = none) ∧
      (quiet.elem .e1).minOn = none ∧ (elements .offReady (quiet.updElem .e1 fun r => { r with minOff := none })).hstg.elements.r1.minOff = none ∧
      quiet.link.closing ≠ .replyTaken := by decide

end Sys2Proof.Tests
end

section
/-! SUPPORT. Reading the two rings: HISTORY_GET (R19) and TREND_GET (R68). -/

namespace Sys2Proof.Machine

/-! ### What the two commands run, and the lengths LINK admits for them -/

theorem exec_historyGet (tag : Byte) (payload : List Byte) (s : State) :
    exec (.historyGet tag payload) s = .next (serve 0x41 tag payload (ownHistoryGet payload) s) := rfl

theorem exec_trendGet (tag : Byte) (payload : List Byte) (s : State) :
    exec (.trendGet tag payload) s = .next (serve 0x42 tag payload ownTrendGet s) := rfl

theorem lengthAllowed_historyGet (n : Nat) : lengthAllowed 0x41 n = decide (n = 1) := rfl

theorem lengthAllowed_trendGet (n : Nat) : lengthAllowed 0x42 n = decide (n = 0) := rfl

/-! ### What DRUM and MEST answer -/

/-- A count outside 1..8 is refused as field 1 (R19). -/
theorem ownHistoryGet_refused {n : Byte} (s : State) (h : n.toNat = 0 ∨ 8 < n.toNat) :
    ownHistoryGet [n] s = (s, .badField 1 0) :=
  if_pos h

/-- A count in 1..8 reads the ring's newest end, backwards, and leaves the state as it is (R19). -/
theorem ownHistoryGet_read {n : Byte} (s : State) (hpos : 1 ≤ n.toNat) (hmax : n.toNat ≤ 8) :
    ownHistoryGet [n] s =
      (s, .ok (BitVec.ofNat 8 (min n.toNat s.drum.history.length) ::
        (s.drum.history.reverse.take n.toNat).flatMap revBytes)) := by
  have inRange : ¬ (n.toNat = 0 ∨ 8 < n.toNat) := by omega
  have read : ownHistoryGet [n] s =
      (s, .ok (u8 (s.drum.history.reverse.take n.toNat).length ++
        (s.drum.history.reverse.take n.toNat).flatMap revBytes)) := if_neg inRange
  rw [read, List.length_take, List.length_reverse]
  rfl

/-! ### The two requests, delivered -/

/-- LINK answers a HISTORY_GET of another length itself (R19, R182). -/
theorem exec_historyGet_bad_length {tag : Byte} {payload : List Byte} {f : InFrame} {s : State}
    (due : requestDue 0x41 tag payload f s) (len : payload.length ≠ 1) :
    exec (.historyGet tag payload) s = .next (answered 0x41 tag [0x13] (dequeued s)) := by
  have notAllowed : lengthAllowed 0x41 payload.length = false := by
    rw [lengthAllowed_historyGet, decide_eq_false len]
  rw [exec_historyGet, serve_bad_length due notAllowed]

/-- A HISTORY_GET of one byte is answered with DRUM's reply to that byte (R19, R182). -/
theorem exec_historyGet_one {tag n : Byte} {f : InFrame} {s : State} (due : requestDue 0x41 tag [n] f s) :
    exec (.historyGet tag [n]) s = .next
      (answered 0x41 tag (ownHistoryGet [n] (atOwner f s)).2.payload (ownHistoryGet [n] (atOwner f s)).1) := by
  rw [exec_historyGet, serve_due due (lengthAllowed_historyGet 1)]

/-- LINK answers a TREND_GET that carries anything itself (R68, R182). -/
theorem exec_trendGet_bad_length {tag : Byte} {payload : List Byte} {f : InFrame} {s : State}
    (due : requestDue 0x42 tag payload f s) (nonempty : payload ≠ []) :
    exec (.trendGet tag payload) s = .next (answered 0x42 tag [0x13] (dequeued s)) := by
  have notAllowed : lengthAllowed 0x42 payload.length = false := by
    rw [lengthAllowed_trendGet, decide_eq_false (mt List.eq_nil_of_length_eq_zero nonempty)]
  rw [exec_trendGet, serve_bad_length due notAllowed]

/-- An empty TREND_GET is answered with the trend ring as MEST holds it (R68, R182). -/
theorem exec_trendGet_empty {tag : Byte} {f : InFrame} {s : State} (due : requestDue 0x42 tag [] f s) :
    exec (.trendGet tag []) s = .next
      (answered 0x42 tag (0x00 :: BitVec.ofNat 8 (atOwner f s).mest.trend.length :: (atOwner f s).mest.trend.flatMap u16)
        (atOwner f s)) := by
  rw [exec_trendGet, serve_due due (lengthAllowed_trendGet 0)]
  rfl

/-- Settles O12: each request is either refused by LINK for its length or answered with what its owner reads of its ring. -/
theorem historyAndTrendReadTheRings : Obligations.HistoryAndTrendReadTheRings := by
  unfold Obligations.HistoryAndTrendReadTheRings
  refine ⟨fun tag payload f s due => ⟨exec_historyGet_bad_length due, ?_⟩,
    fun tag payload f s due => ⟨exec_trendGet_bad_length due, ?_⟩⟩
  · rintro n rfl
    refine ⟨fun outOfRange => ?_, fun hpos hmax => ?_⟩
    · rw [exec_historyGet_one due, ownHistoryGet_refused _ outOfRange]
      rfl
    · rw [exec_historyGet_one due, ownHistoryGet_read _ hpos hmax]
      rfl
  · rintro rfl
    exact exec_trendGet_empty due

end Sys2Proof.Machine
end

section
/-! SUPPORT. The fold: what it decides (R46, R47, R50) and how the filter's rounding moves F (R57, R58). -/

namespace Sys2Proof.Machine

/-! ### The filter update toward a value folded -/

theorem filterStep_none (k m : Nat) : filterStep k none m = m := rfl

theorem filterStep_some (k v m : Nat) : filterStep k (some v) m = ((v : Int) + ((m : Int) - v) / 2 ^ k).toNat := by
  simp [filterStep]

/-- A rising F moves by the distance, shifted down: the truncation goes against the movement. -/
theorem filterStep_rising {k v m : Nat} (h : v ≤ m) : filterStep k (some v) m = v + (m - v) / 2 ^ k := by
  have moved : (v : Int) + ((m : Int) - v) / 2 ^ k = ((v + (m - v) / 2 ^ k : Nat) : Int) := by
    rw [← Nat.cast_sub h]
    norm_cast
  rw [filterStep_some, moved, Int.toNat_natCast]

/-- A falling F moves by at least 1, since the floor of a negative quotient is at most -1, and never past the value folded. -/
theorem filterStep_falling {k v m : Nat} (h : m < v) :
    m ≤ filterStep k (some v) m ∧ filterStep k (some v) m < v := by
  have down : (m : Int) - v < 0 := by omega
  have pos : (0 : Int) < 2 ^ k := by positivity
  have atLeastOne : ((m : Int) - v) / 2 ^ k < 0 := Int.ediv_neg_of_neg_of_pos down pos
  have notPast : (m : Int) - v ≤ ((m : Int) - v) / 2 ^ k := by
    rw [Int.le_ediv_iff_mul_le pos]
    exact mul_le_of_one_le_right down.le pos
  rw [filterStep_some]
  generalize ((m : Int) - v) / 2 ^ k = moved at atLeastOne notPast
  omega

/-- F stays where a fold would raise it by less than one unit (R58, the stall). -/
theorem filterStep_stalled {k v m : Nat} (h : v ≤ m) (near : m < v + 2 ^ k) : filterStep k (some v) m = v := by
  rw [filterStep_rising h, Nat.div_eq_of_lt (by omega), Nat.add_zero]

/-- A distance of 2^k or more raises F, by no more than the distance. -/
theorem filterStep_raised {k v m : Nat} (far : v + 2 ^ k ≤ m) :
    v < filterStep k (some v) m ∧ filterStep k (some v) m ≤ m := by
  have atLeastOne : 0 < (m - v) / 2 ^ k := Nat.div_pos (by omega) (by positivity)
  have notPast : (m - v) / 2 ^ k ≤ m - v := Nat.div_le_self _ _
  rw [filterStep_rising (by omega)]
  omega

/-! ### Repeated folds of one value -/

/-- Every fold lowers F until it stands at the value folded (R58). -/
theorem folds_reach_from_above (k m v : Nat) (h : m ≤ v) : ∃ n, (fun x => filterStep k (some x) m)^[n] v = m := by
  induction v using Nat.strong_induction_on with
  | _ v ih =>
    obtain rfl | below := h.eq_or_lt
    · exact ⟨0, rfl⟩
    · obtain ⟨notPast, lower⟩ := filterStep_falling (k := k) below
      obtain ⟨n, reached⟩ := ih _ lower notPast
      exact ⟨n + 1, reached⟩

/-- F rises while the distance is 2^k or more, then stalls (R58); the induction is on the distance left. -/
theorem folds_stall_from_below (k m v : Nat) (h : v ≤ m) :
    ∃ n stop, stop ≤ m ∧ m < stop + 2 ^ k ∧ ∀ j, n ≤ j → (fun x => filterStep k (some x) m)^[j] v = stop := by
  induction left : m - v using Nat.strong_induction_on generalizing v with
  | _ d ih =>
    obtain near | far := Nat.lt_or_ge m (v + 2 ^ k)
    · have fixed : Function.IsFixedPt (fun x => filterStep k (some x) m) v := filterStep_stalled h near
      exact ⟨0, v, h, near, fun j _ => fixed.iterate j⟩
    · obtain ⟨higher, notPast⟩ := filterStep_raised far
      obtain ⟨n, stop, hstop, near, stalled⟩ := ih _ (by omega) _ notPast rfl
      refine ⟨n + 1, stop, hstop, near, fun j hj => ?_⟩
      obtain ⟨i, rfl⟩ : ∃ i, j = i + 1 := ⟨j - 1, by omega⟩
      exact stalled i (by omega)

/-! ### What a value folded leaves in MEST -/

theorem signalDry_mest (d : DryTarget) (ordinal f : Nat) (s : State) :
    (signalDry d ordinal f s).mest = { s.mest with drySignalled := true } := by
  simp [signalDry]

/-- The dry decision sets B and the dry-signalled flag alone of what MEST holds (R61, R63). -/
theorem judgeDry_mest (s : State) :
    ∃ b signalled, (judgeDry s).mest = { s.mest with b := b, drySignalled := signalled } := by
  unfold judgeDry
  split
  · exact ⟨s.mest.b, s.mest.drySignalled, rfl⟩
  · split
    · exact ⟨s.mest.b, s.mest.drySignalled, rfl⟩
    · simp only []
      split
      · exact ⟨_, true, signalDry_mest _ _ _ _⟩
      · exact ⟨_, s.mest.drySignalled, rfl⟩

/-- The trend step sets the ring and the estimate alone of what MEST holds (R66). -/
theorem trendStep_mest (s : State) :
    ∃ trend estimate, (trendStep s).mest = { s.mest with trend := trend, estimate := estimate } := by
  unfold trendStep
  split
  · exact ⟨_, _, rfl⟩
  · exact ⟨s.mest.trend, s.mest.estimate, rfl⟩

/-- A fold puts F one filter update toward the value folded and keeps the sparse run as it stands (R52, R57). -/
@[simp] theorem foldValue_mest (m : Nat) (s : State) :
    (foldValue m s).mest.f = some (filterStep s.profile.filterExp s.mest.f m) ∧
    (foldValue m s).mest.sparse = s.mest.sparse ∧ (foldValue m s).mest.sparseWarned = s.mest.sparseWarned := by
  obtain ⟨_, _, judged⟩ := judgeDry_mest (filterUpdate m s)
  obtain ⟨_, _, trended⟩ := trendStep_mest (judgeDry (filterUpdate m s))
  rw [foldValue, trended, judged]
  exact ⟨rfl, rfl, rfl⟩

/-! ### The fold decision -/

theorem fold_not_steady {number k sum : Nat} {cls : RevClass} {s : State} (h : cls ≠ .steady) :
    fold number cls k sum s = (s, .skipped, none) := by
  cases cls with
  | steady => exact absurd rfl h
  | ramp => rfl
  | malformed => rfl

theorem fold_folded {number k sum : Nat} {s : State} (enough : s.profile.minContacts ≤ k) :
    fold number .steady k sum s =
      (foldValue (sum / k) (s.updMest fun m => { m with sparse := 0, sparseWarned := false }), .folded, some (sum / k)) :=
  if_pos enough

theorem fold_sparse {number k sum : Nat} {s : State} (few : k < s.profile.minContacts)
    (below : bump 255 s.mest.sparse < s.profile.sparseLimit) :
    fold number .steady k sum s = (s.updMest fun m => { m with sparse := bump 255 s.mest.sparse }, .sparse, none) :=
  (if_neg few.not_ge).trans (if_pos below)

/-- A sparse revolution at or past the limit is counted, and warned of once in its run (R48, R50). -/
def sparseWarnedOnce (number k : Nat) (s : State) : State :=
  if s.mest.sparseWarned then s.updMest fun m => { m with sparse := bump 255 s.mest.sparse }
  else report .mest .warning 0x31 (u16 number ++ u8 (bump 255 s.mest.sparse) ++ u8 k)
    (s.updMest fun m => { m with sparse := bump 255 s.mest.sparse, sparseWarned := true })

theorem sparseWarnedOnce_mest (number k : Nat) (s : State) :
    (sparseWarnedOnce number k s).mest = { s.mest with sparse := bump 255 s.mest.sparse, sparseWarned := true } := by
  unfold sparseWarnedOnce
  split
  · next warned => simp [← warned]
  · simp

theorem sparseWarnedOnce_profile (number k : Nat) (s : State) : (sparseWarnedOnce number k s).profile = s.profile := by
  unfold sparseWarnedOnce
  split <;> simp [State.profile_eq]

theorem fold_sparseAsDry {number k sum : Nat} {s : State} (few : k < s.profile.minContacts)
    (atLimit : s.profile.sparseLimit ≤ bump 255 s.mest.sparse) :
    fold number .steady k sum s = (foldValue 0 (sparseWarnedOnce number k s), .sparseAsDry, some 0) :=
  (if_neg few.not_ge).trans (if_neg atLimit.not_gt)

/-- Below Kmin the sparse run counts, whatever comes of it (R47). -/
theorem fold_few_sparse {number k sum : Nat} {s : State} (few : k < s.profile.minContacts) :
    (fold number .steady k sum s).1.mest.sparse = bump 255 s.mest.sparse := by
  obtain below | atLimit := Nat.lt_or_ge (bump 255 s.mest.sparse) s.profile.sparseLimit
  · rw [fold_sparse few below]
    rfl
  · rw [fold_sparseAsDry few atLimit]
    simp [sparseWarnedOnce_mest]

/-- Settles O46: the three decisions by their equations, the filter's movement by the sign and the size of the distance. -/
theorem foldDecisionAndFilterRounding : Obligations.FoldDecisionAndFilterRounding := by
  unfold Obligations.FoldDecisionAndFilterRounding
  refine ⟨fun number cls k sum s => ⟨fold_not_steady, ?enough, ?few⟩, fun k v m => ?_⟩
  case enough =>
    rintro rfl enough
    rw [fold_folded enough]
    refine ⟨rfl, by simp, ?_⟩
    cases held : s.mest.f with
    | none => simp [held, filterStep_none]
    | some v => simp [held, filterStep_some, State.profile_eq]
  case few =>
    rintro rfl few
    rw [fold_few_sparse few]
    refine ⟨rfl, fun below => ?_, fun atLimit => ?_⟩
    · rw [fold_sparse few below]
      exact ⟨rfl, rfl⟩
    · rw [fold_sparseAsDry few atLimit]
      refine ⟨rfl, by simp [sparseWarnedOnce_mest], ?_⟩
      cases held : s.mest.f with
      | none => simp [sparseWarnedOnce_mest, held, filterStep_none]
      | some v => simp [sparseWarnedOnce_mest, sparseWarnedOnce_profile, held, filterStep_some]
  · refine ⟨filterStep_falling, ?_, fun h near => filterStep_stalled h.le near, filterStep_raised,
      folds_reach_from_above k m v, folds_stall_from_below k m v⟩
    rintro rfl
    exact filterStep_stalled le_rfl (by simp)

end Sys2Proof.Machine
end

section
/-! SUPPORT. The plan as the host clears and reads it: PLAN_CLEAR and PLAN_GET (R133). -/

namespace Sys2Proof.Machine

/-! ### What the two commands run, and the lengths LINK admits for them -/

theorem exec_planClear (tag : Byte) (payload : List Byte) (s : State) :
    exec (.planClear tag payload) s = .next (serve 0x21 tag payload ownPlanClear s) := rfl

theorem exec_planGet (tag : Byte) (payload : List Byte) (s : State) :
    exec (.planGet tag payload) s = .next (serve 0x22 tag payload (ownPlanGet payload) s) := rfl

theorem lengthAllowed_planClear (n : Nat) : lengthAllowed 0x21 n = decide (n = 0) := rfl

theorem lengthAllowed_planGet (n : Nat) : lengthAllowed 0x22 n = decide (n = 2) := rfl

/-! ### The buffer emptied -/

/-- The digest over no records is the CRC's initial value (R130, R133). -/
theorem setPlan_nil (s : State) : setPlan [] s = s.updCpx fun c => { c with plan := [], digest := 0xFFFF } := rfl

/-- READY to IDLE, with the STATE_CHANGE report that carries both codes (R127). -/
theorem enterCycle_idle_of_ready {s : State} (h : s.cpx.cycle = .ready) :
    enterCycle .idle s = report .cpx .info 0x50 [2, 1, 0] (s.updCpx fun c => { c with cycle := .idle }) := by
  rw [enterCycle, h]
  rfl

/-! ### What CPX answers -/

theorem ownPlanClear_idle {s : State} (h : s.cpx.cycle = .idle) :
    ownPlanClear s =
      (s.updCpx fun c => { c with plan := [], digest := 0xFFFF, stageActive := false }, .ok []) := by
  rw [ownPlanClear, h, setPlan_nil]
  rfl

theorem ownPlanClear_ready {s : State} (h : s.cpx.cycle = .ready) :
    ownPlanClear s =
      (report .cpx .info 0x50 [2, 1, 0]
        (s.updCpx fun c => { c with plan := [], digest := 0xFFFF, stageActive := false, cycle := .idle }), .ok []) := by
  have emptied : ((setPlan [] s).updCpx fun c => { c with stageActive := false }).cpx.cycle = .ready := h
  rw [ownPlanClear, h]
  exact congrArg (·, ReplyCode.ok []) (enterCycle_idle_of_ready emptied)

/-- Any other state refuses the clear and keeps the buffer (R133). -/
theorem ownPlanClear_refused {s : State} (notIdle : s.cpx.cycle ≠ .idle) (notReady : s.cpx.cycle ≠ .ready) :
    ownPlanClear s = (s, .badState) := by
  rw [ownPlanClear]
  cases h : s.cpx.cycle with
  | idle => exact absurd h notIdle
  | ready => exact absurd h notReady
  | running => rfl
  | starved => rfl
  | paused => rfl
  | faulted => rfl
  | done => rfl

/-- A start above 15 is refused as field 1, whatever the count (R133). -/
theorem ownPlanGet_bad_start {start count : Byte} (s : State) (h : 15 < start.toNat) :
    ownPlanGet [start, count] s = (s, .badField 1 0) :=
  if_pos h

/-- A count outside 1..8 is refused as field 2 (R133). -/
theorem ownPlanGet_bad_count {start count : Byte} (s : State) (hstart : start.toNat ≤ 15)
    (h : count.toNat = 0 ∨ 8 < count.toNat) : ownPlanGet [start, count] s = (s, .badField 2 0) :=
  (if_neg hstart.not_gt).trans (if_pos h)

/-- Within the bounds the records from the start position are read, as many as are held, and nothing changes (R133). -/
theorem ownPlanGet_read {start count : Byte} (s : State) (hstart : start.toNat ≤ 15) (hpos : 1 ≤ count.toNat)
    (hmax : count.toNat ≤ 8) :
    ownPlanGet [start, count] s =
      (s, .ok (BitVec.ofNat 8 s.cpx.plan.length ::
        (crcBytes s.cpx.digest ++
          start :: BitVec.ofNat 8 (min count.toNat (s.cpx.plan.length - start.toNat)) ::
            ((s.cpx.plan.drop start.toNat).take count.toNat).flatMap stageBytes))) := by
  have inRange : ¬ (count.toNat = 0 ∨ 8 < count.toNat) := by omega
  have read : ownPlanGet [start, count] s =
      (s, .ok (u8 s.cpx.plan.length ++ crcBytes s.cpx.digest ++ u8 start.toNat ++
        u8 ((s.cpx.plan.drop start.toNat).take count.toNat).length ++
        ((s.cpx.plan.drop start.toNat).take count.toNat).flatMap stageBytes)) :=
    (if_neg hstart.not_gt).trans (if_neg inRange)
  rw [read]
  simp [u8]

/-! ### The two requests, delivered -/

/-- LINK answers a PLAN_CLEAR that carries anything itself (R133, R182). -/
theorem exec_planClear_bad_length {tag : Byte} {payload : List Byte} {f : InFrame} {s : State}
    (due : requestDue 0x21 tag payload f s) (nonempty : payload ≠ []) :
    exec (.planClear tag payload) s = .next (answered 0x21 tag [0x13] (dequeued s)) := by
  have notAllowed : lengthAllowed 0x21 payload.length = false := by
    rw [lengthAllowed_planClear, decide_eq_false (mt List.eq_nil_of_length_eq_zero nonempty)]
  rw [exec_planClear, serve_bad_length due notAllowed]

/-- An empty PLAN_CLEAR is answered with CPX's reply (R133, R182). -/
theorem exec_planClear_empty {tag : Byte} {f : InFrame} {s : State} (due : requestDue 0x21 tag [] f s) :
    exec (.planClear tag []) s = .next
      (answered 0x21 tag (ownPlanClear (atOwner f s)).2.payload (ownPlanClear (atOwner f s)).1) := by
  rw [exec_planClear, serve_due due (lengthAllowed_planClear 0)]

/-- LINK answers a PLAN_GET of another length itself (R133, R182). -/
theorem exec_planGet_bad_length {tag : Byte} {payload : List Byte} {f : InFrame} {s : State}
    (due : requestDue 0x22 tag payload f s) (len : payload.length ≠ 2) :
    exec (.planGet tag payload) s = .next (answered 0x22 tag [0x13] (dequeued s)) := by
  have notAllowed : lengthAllowed 0x22 payload.length = false := by
    rw [lengthAllowed_planGet, decide_eq_false len]
  rw [exec_planGet, serve_bad_length due notAllowed]

/-- A PLAN_GET of two bytes is answered with CPX's reply to them (R133, R182). -/
theorem exec_planGet_two {tag start count : Byte} {f : InFrame} {s : State}
    (due : requestDue 0x22 tag [start, count] f s) :
    exec (.planGet tag [start, count]) s = .next
      (answered 0x22 tag (ownPlanGet [start, count] (atOwner f s)).2.payload
        (ownPlanGet [start, count] (atOwner f s)).1) := by
  rw [exec_planGet, serve_due due (lengthAllowed_planGet 2)]

/-- Settles O14: LINK refuses a wrong length, and CPX answers PLAN_CLEAR by the cycle state and PLAN_GET by the bounds of its
two fields. -/
theorem planClearAndPlanGet : Obligations.PlanClearAndPlanGet := by
  unfold Obligations.PlanClearAndPlanGet
  refine ⟨fun tag payload f s due => ⟨exec_planClear_bad_length due, ?clear⟩,
    fun tag payload f s due => ⟨exec_planGet_bad_length due, ?get⟩⟩
  case clear =>
    rintro rfl
    rw [exec_planClear_empty due]
    refine ⟨fun idle => ?_, fun ready => ?_, fun notIdle notReady => ?_⟩
    · rw [ownPlanClear_idle idle]
      rfl
    · rw [ownPlanClear_ready ready]
      rfl
    · rw [ownPlanClear_refused notIdle notReady]
      rfl
  case get =>
    rintro start count rfl
    rw [exec_planGet_two due]
    refine ⟨fun badStart => ?_, fun hstart badCount => ?_, fun hstart hpos hmax => ?_⟩
    · rw [ownPlanGet_bad_start _ badStart]
      rfl
    · rw [ownPlanGet_bad_count _ hstart badCount]
      rfl
    · rw [ownPlanGet_read _ hstart hpos hmax]
      rfl

end Sys2Proof.Machine
end

section
/-! SUPPORT. The Trip Table as the host reads and clears it: TRIP_GET (R176), the trip summary of STATUS_GET (R188) and TRIP_CLEAR
(R177). -/

namespace Sys2Proof.Machine

/-! ### What the three commands run, and the lengths LINK admits for them -/

theorem exec_tripGet (tag : Byte) (payload : List Byte) (s : State) :
    exec (.tripGet tag payload) s = .next (serve 0x43 tag payload ownTripGet s) := rfl

theorem exec_tripClear (tag : Byte) (payload : List Byte) (s : State) :
    exec (.tripClear tag payload) s = .next (serve 0x44 tag payload (ownTripClear payload) s) := rfl

theorem exec_statusGet (tag : Byte) (payload : List Byte) (s : State) :
    exec (.statusGet tag payload) s = .next (serve 0x40 tag payload ownStatusGet s) := rfl

theorem lengthAllowed_tripGet (n : Nat) : lengthAllowed 0x43 n = decide (n = 0) := rfl

theorem lengthAllowed_tripClear (n : Nat) : lengthAllowed 0x44 n = decide (n = 1) := rfl

theorem lengthAllowed_statusGet (n : Nat) : lengthAllowed 0x40 n = decide (n = 0) := rfl

/-! ### The entries as TRIP_GET carries them -/

/-- The ten bytes TRIP_GET gives an entry: cause, state, count, first time, first ordinal (R176). -/
def tripEntryBytes (t : TripTable) (c : TripCause) : List Byte :=
  u8 (causeCode c) ++ u8 (t.get c).state.code ++ u8 (t.get c).count ++ optField 4 u32 (t.get c).firstTime ++
    u16 (t.get c).firstOrdinal

theorem ownTripGet_eq (s : State) : ownTripGet s = (s, .ok (allCauses.flatMap (tripEntryBytes s.trip))) := rfl

/-- An entry that never occurred carries a first time of five zero bytes. -/
theorem tripEntryBytes_never {t : TripTable} {c : TripCause} (h : (t.get c).firstTime = none) :
    tripEntryBytes t c =
      [BitVec.ofNat 8 (causeCode c), BitVec.ofNat 8 (t.get c).state.code, BitVec.ofNat 8 (t.get c).count] ++
        [0, 0, 0, 0, 0] ++ u16 (t.get c).firstOrdinal := by
  rw [tripEntryBytes, h]
  rfl

/-- An entry that has occurred carries the presence byte and the first time. -/
theorem tripEntryBytes_occurred {t : TripTable} {c : TripCause} {n : Nat} (h : (t.get c).firstTime = some n) :
    tripEntryBytes t c =
      [BitVec.ofNat 8 (causeCode c), BitVec.ofNat 8 (t.get c).state.code, BitVec.ofNat 8 (t.get c).count] ++
        (0x01 :: u32 n) ++ u16 (t.get c).firstOrdinal := by
  rw [tripEntryBytes, h]
  rfl

/-! ### The trip summary of STATUS_GET -/

theorem optField_length {width : Nat} {enc : Nat → List Byte} (v : Option Nat) (h : ∀ n, (enc n).length = width) :
    (optField width enc v).length = width + 1 := by
  cases v with
  | none => simp [optField, flag, u8]
  | some n => simp [optField, flag, u8, h]

/-- Each element has nine bytes in a STATUS_GET reply (R188). -/
theorem elementBytes_length (s : State) :
    (allElements.flatMap fun e =>
      u8 (s.hstg.elements.get e).state.code ++ u8 (s.hstg.elements.get e).lastOff.code ++
        u16 (s.hstg.elements.get e).onCount ++ optField 4 u32 (s.hstg.elements.get e).onSince).length = 36 := by
  have onSince (e : Element) := optField_length (s.hstg.elements.get e).onSince (enc := u32) (width := 4) fun _ => rfl
  simp [allElements, onSince, u8, u16]

/-- In a STATUS_GET reply 81 bytes stand before the states of the trip entries, and four after them (R188). -/
theorem statusBytes_summary (s : State) :
    ∃ before : List Byte, before.length = 81 ∧
      statusBytes s = before ++ (allCauses.flatMap fun c => u8 (s.trip.get c).state.code) ++
        flag s.prof.write.isSome ++ u8 s.prof.lastResult.code ++ u8 s.link.flags.number := by
  unfold statusBytes
  refine ⟨_, ?_, rfl⟩
  have byteField (v : Option Nat) := optField_length (enc := u8) (width := 1) v fun _ => rfl
  have wordField (v : Option Nat) := optField_length (enc := u16) (width := 2) v fun _ => rfl
  simp only [List.length_append, elementBytes_length, byteField, wordField]
  rfl

/-- The trip summary of a STATUS_GET reply, the result code in front, is its bytes 82 to 89 (R188). -/
theorem status_tripSummary (s : State) :
    ((ReplyCode.ok (statusBytes s)).payload.drop 82).take 8 =
      allCauses.map fun c => BitVec.ofNat 8 (s.trip.get c).state.code := by
  obtain ⟨before, len, split⟩ := statusBytes_summary s
  rw [split]
  simp only [ReplyCode.payload, List.drop_succ_cons, List.append_assoc, List.drop_left' len]
  rfl

/-! ### HELD entries cleared -/

theorem clearHeld_of_not_active {e : TripEntry} (h : e.state ≠ .active) : clearHeld e = { e with state := .clear } := by
  obtain ⟨state, count, firstTime, firstOrdinal⟩ := e
  cases state with
  | clear => rfl
  | active => exact absurd rfl h
  | held => rfl

/-- Clearing neither makes nor ends an ACTIVE entry. -/
theorem clearHeld_active_iff (e : TripEntry) : (clearHeld e).state = .active ↔ e.state = .active := by
  unfold clearHeld
  split
  · next held => simp [held]
  · rfl

/-- A pass over distinct causes updates each cause's entry once, from the entry the table came with. -/
theorem TripTable.get_foldl_set (g : TripEntry → TripEntry) (cs : List TripCause) (t : TripTable) (c : TripCause)
    (distinct : cs.Nodup) :
    (cs.foldl (fun t c => t.set c (g (t.get c))) t).get c = if c ∈ cs then g (t.get c) else t.get c := by
  induction cs generalizing t with
  | nil => simp
  | cons d ds ih =>
    obtain ⟨notLater, distinct⟩ := List.nodup_cons.mp distinct
    rw [List.foldl_cons, ih _ distinct, TripTable.get_set]
    by_cases same : c = d
    · subst same
      simp [notLater]
    · simp [same]

/-- The table after a TRIP_CLEAR of all causes. -/
def heldCleared (t : TripTable) : TripTable := allCauses.foldl (fun t c => t.set c (clearHeld (t.get c))) t

theorem heldCleared_get (t : TripTable) (c : TripCause) : (heldCleared t).get c = clearHeld (t.get c) := by
  rw [heldCleared, TripTable.get_foldl_set clearHeld allCauses t c (by decide), if_pos (mem_allCauses c)]

/-! ### What TRIP answers to a clear -/

theorem causeOf_causeCode (c : TripCause) : causeOf (causeCode c) = some c := by cases c <;> rfl

theorem causeCode_le (c : TripCause) : causeCode c ≤ 8 := by cases c <;> decide

/-- Only 1 to 8 are cause codes (R165). -/
theorem causeOf_none {n : Nat} (h : n = 0 ∨ 9 ≤ n) : causeOf n = none := by
  unfold causeOf
  split
  case h_9 => rfl
  all_goals omega

/-- A byte that is neither 255 nor a cause code is refused as field 1 (R177). -/
theorem ownTripClear_no_cause {b : Byte} (s : State) (h : b.toNat = 0 ∨ 9 ≤ b.toNat ∧ b.toNat ≤ 254) :
    ownTripClear [b] s = (s, .badField 1 0) := by
  have notAll : byteAt [b] 0 ≠ 255 := show b.toNat ≠ 255 by omega
  have noCause : causeOf (byteAt [b] 0) = none := causeOf_none (n := b.toNat) (by omega)
  simp only [ownTripClear, if_neg notAll, noCause]

/-- A cause code is answered by the state of that cause's entry (R177). -/
theorem ownTripClear_cause {b : Byte} {c : TripCause} (s : State) (code : b.toNat = causeCode c) :
    ownTripClear [b] s =
      if (s.trip.get c).state = .active then (s, .stillActive)
      else (s.updTrip fun t => t.set c (clearHeld (t.get c)), .ok []) := by
  have small := causeCode_le c
  have notAll : byteAt [b] 0 ≠ 255 := show b.toNat ≠ 255 by omega
  have cause : causeOf (byteAt [b] 0) = some c := (congrArg causeOf code).trans (causeOf_causeCode c)
  simp only [ownTripClear, if_neg notAll, cause]

theorem ownTripClear_active {b : Byte} {c : TripCause} {s : State} (code : b.toNat = causeCode c)
    (active : (s.trip.get c).state = .active) : ownTripClear [b] s = (s, .stillActive) := by
  rw [ownTripClear_cause s code, if_pos active]

theorem ownTripClear_not_active {b : Byte} {c : TripCause} {s : State} (code : b.toNat = causeCode c)
    (notActive : (s.trip.get c).state ≠ .active) :
    ownTripClear [b] s = (s.updTrip fun t => t.set c { t.get c with state := .clear }, .ok []) := by
  rw [ownTripClear_cause s code, if_neg notActive, State.updTrip, clearHeld_of_not_active notActive]
  rfl

/-- 255 clears every HELD entry, and an entry that stays ACTIVE shows in the answer (R177). -/
theorem ownTripClear_all {b : Byte} (s : State) (h : b.toNat = 255) :
    ownTripClear [b] s =
      (s.updTrip fun _ => heldCleared s.trip,
        if ∃ c ∈ allCauses, (s.trip.get c).state = .active then .stillActive else .ok []) := by
  have cleared : ownTripClear [b] s =
      (s.updTrip fun _ => heldCleared s.trip,
        if allCauses.any fun c => decide (((heldCleared s.trip).get c).state = .active) then .stillActive else .ok []) :=
    if_pos h
  rw [cleared]
  simp only [heldCleared_get, clearHeld_active_iff, List.any_eq_true, decide_eq_true_eq]

/-! ### The three requests, delivered -/

/-- LINK answers a TRIP_GET that carries anything itself (R176, R182). -/
theorem exec_tripGet_bad_length {tag : Byte} {payload : List Byte} {f : InFrame} {s : State}
    (due : requestDue 0x43 tag payload f s) (nonempty : payload ≠ []) :
    exec (.tripGet tag payload) s = .next (answered 0x43 tag [0x13] (dequeued s)) := by
  have notAllowed : lengthAllowed 0x43 payload.length = false := by
    rw [lengthAllowed_tripGet, decide_eq_false (mt List.eq_nil_of_length_eq_zero nonempty)]
  rw [exec_tripGet, serve_bad_length due notAllowed]

/-- An empty TRIP_GET is answered with the eight entries, and TRIP keeps them (R176, R182). -/
theorem exec_tripGet_empty {tag : Byte} {f : InFrame} {s : State} (due : requestDue 0x43 tag [] f s) :
    exec (.tripGet tag []) s = .next
      (answered 0x43 tag (0x00 :: allCauses.flatMap (tripEntryBytes (atOwner f s).trip)) (atOwner f s)) := by
  rw [exec_tripGet, serve_due due (lengthAllowed_tripGet 0), ownTripGet_eq]
  rfl

/-- An empty STATUS_GET is answered with the status bytes, and the event flags are then clear (R188, R189). -/
theorem exec_statusGet_empty {tag : Byte} {f : InFrame} {s : State} (due : requestDue 0x40 tag [] f s) :
    exec (.statusGet tag []) s = .next
      (answered 0x40 tag (ReplyCode.ok (statusBytes (atOwner f s))).payload
        ((atOwner f s).updLink fun l => { l with flags := .clear })) := by
  rw [exec_statusGet, serve_due due (lengthAllowed_statusGet 0), ownStatusGet]

/-- LINK answers a TRIP_CLEAR of another length itself (R177, R182). -/
theorem exec_tripClear_bad_length {tag : Byte} {payload : List Byte} {f : InFrame} {s : State}
    (due : requestDue 0x44 tag payload f s) (len : payload.length ≠ 1) :
    exec (.tripClear tag payload) s = .next (answered 0x44 tag [0x13] (dequeued s)) := by
  have notAllowed : lengthAllowed 0x44 payload.length = false := by
    rw [lengthAllowed_tripClear, decide_eq_false len]
  rw [exec_tripClear, serve_bad_length due notAllowed]

/-- A TRIP_CLEAR of one byte is answered with TRIP's reply to that byte (R177, R182). -/
theorem exec_tripClear_one {tag b : Byte} {f : InFrame} {s : State} (due : requestDue 0x44 tag [b] f s) :
    exec (.tripClear tag [b]) s = .next
      (answered 0x44 tag (ownTripClear [b] (atOwner f s)).2.payload (ownTripClear [b] (atOwner f s)).1) := by
  rw [exec_tripClear, serve_due due (lengthAllowed_tripClear 1)]

/-- Settles O16: an empty TRIP_GET gives each cause's entry, read with or without a first time, and a STATUS_GET reply has the
states of the same causes from its byte 82 on. -/
theorem tripGetReturnsTheTable : Obligations.TripGetReturnsTheTable := by
  unfold Obligations.TripGetReturnsTheTable
  refine ⟨fun tag payload f s due => ⟨exec_tripGet_bad_length due, ?entries⟩, fun tag f s due => ?summary⟩
  case entries =>
    rintro rfl
    rw [exec_tripGet_empty due]
    refine congrArg (fun entries => Host.Outcome.next (answered 0x43 tag (0x00 :: entries) (atOwner f s))) ?_
    have codes : ([(.highLimit, 1), (.exhaustFire, 2), (.airflow, 3), (.drumStall, 4), (.sensor, 5), (.tach, 6),
        (.supplyExcess, 7), (.hostSilent, 8)] : List (TripCause × Byte)) =
        allCauses.map fun c => (c, BitVec.ofNat 8 (causeCode c)) := rfl
    rw [codes, List.flatMap_map]
    refine List.flatMap_congr fun c _ => ?_
    cases first : ((atOwner f s).trip.get c).firstTime with
    | none => exact tripEntryBytes_never first
    | some n => exact tripEntryBytes_occurred first
  case summary => exact ⟨_, _, exec_statusGet_empty due, rfl, status_tripSummary _⟩

/-- Settles O17: LINK refuses a wrong length, and TRIP answers by the byte: no cause, one cause in its state, or all of them. -/
theorem tripClearTakesHeldToClear : Obligations.TripClearTakesHeldToClear := by
  unfold Obligations.TripClearTakesHeldToClear
  refine fun tag payload f s due => ⟨exec_tripClear_bad_length due, ?_⟩
  rintro b rfl
  rw [exec_tripClear_one due]
  refine ⟨fun noCause => ?_, fun c code => ⟨fun active => ?_, fun notActive => ?_⟩, fun all => ?_⟩
  · rw [ownTripClear_no_cause _ noCause]
    rfl
  · rw [ownTripClear_active code active]
    rfl
  · rw [ownTripClear_not_active code notActive]
    rfl
  · refine ⟨heldCleared (atOwner f s).trip, ?_, heldCleared_get _⟩
    rw [ownTripClear_all _ all]
    split <;> rfl

end Sys2Proof.Machine
end

section
/-! SUPPORT. The receiver of LINK: what it does with each byte by its state (R180), and what a CRC-good frame does (R181). -/

namespace Sys2Proof.Machine

/-! ### A bad frame and the gap timer's expiry (R180) -/

theorem exec_rxByte (b : Byte) (s : State) : exec (.rxByte b) s = .next (receive b s) := rfl

theorem badFrame_eq (reason : BadReason) (s : State) : badFrame reason s = badFrameGiven reason.code s := rfl

/-- A running gap timer's expiry outside HUNT abandons the frame with reason GAP. -/
theorem exec_gapTimerExpiry_abandons {s : State} (outside : s.link.rx ≠ .hunt) (running : s.link.gapTimer ≠ none) :
    exec .gapTimerExpiry s = .next (badFrameGiven 2 s) :=
  congrArg Host.Outcome.next (if_pos ⟨Option.isSome_iff_ne_none.mpr running, outside⟩)

/-! ### A byte, by the receiver's state (R180) -/

section
variable {b : Byte} {s : State}

theorem receive_hunt_start (state : s.link.rx = .hunt) (start : b = 0x7E) :
    receive b s = s.updLink fun l => { l with rx := .length, gapTimer := some 10 } := by
  simp only [receive, state, if_pos start, Config.gapMs]

theorem receive_hunt_ignored (state : s.link.rx = .hunt) (other : b ≠ 0x7E) : receive b s = s := by
  simp only [receive, state, if_neg other]

theorem receive_length_taken (state : s.link.rx = .length) (fits : 2 ≤ b.toNat ∧ b.toNat ≤ 200) :
    receive b s = s.updLink fun l => { l with rx := .body b.toNat [], gapTimer := some 10 } := by
  simp only [receive, state, if_pos fits, Config.gapMs]

theorem receive_length_bad (state : s.link.rx = .length) (outside : b.toNat < 2 ∨ 200 < b.toNat) :
    receive b s = badFrameGiven 3 s := by
  have misfit : ¬ (2 ≤ b.toNat ∧ b.toNat ≤ 200) := by omega
  simp only [receive, state, if_neg misfit, badFrame_eq, BadReason.code]

/-- A body byte that is not the LEN-th is stored, and BODY stays. -/
theorem receive_body_stored {len : Nat} {got : List Byte} (state : s.link.rx = .body len got) (more : got.length + 1 < len) :
    receive b s = s.updLink fun l => { l with rx := .body len (got ++ [b]), gapTimer := some 10 } := by
  have unfinished : ¬ len ≤ (got ++ [b]).length := by simpa using more
  simp only [receive, state, if_neg unfinished, Config.gapMs]

/-- The LEN-th body byte is stored and enters CHECK. -/
theorem receive_body_last {len : Nat} {got : List Byte} (state : s.link.rx = .body len got) (last : len ≤ got.length + 1) :
    receive b s = s.updLink fun l => { l with rx := .check len (got ++ [b]) none, gapTimer := some 10 } := by
  have finished : len ≤ (got ++ [b]).length := by simpa using last
  simp only [receive, state, if_pos finished, Config.gapMs]

/-- The first CRC byte is stored. -/
theorem receive_check_first {len : Nat} {body : List Byte} (state : s.link.rx = .check len body none) :
    receive b s = s.updLink fun l => { l with rx := .check len body (some b), gapTimer := some 10 } := by
  simp only [receive, state, Config.gapMs]

theorem receive_check_bad {len : Nat} {body : List Byte} {high : Byte} (state : s.link.rx = .check len body (some high))
    (differs : crcBytes (crc16 (BitVec.ofNat 8 len :: body)) ≠ [high, b]) : receive b s = badFrameGiven 1 s := by
  simp only [receive, state, if_neg differs, badFrame_eq, BadReason.code]

theorem receive_check_good {len : Nat} {body : List Byte} {high : Byte} (state : s.link.rx = .check len body (some high))
    (good : crcBytes (crc16 (BitVec.ofNat 8 len :: body)) = [high, b]) : receive b s = admitFrame body s := by
  simp only [receive, state, if_pos good]

end

/-! ### A CRC-good frame (R181) -/

/-- The host heard and the receiver back in HUNT is `frameHeard`, whether or not a silence was standing. -/
theorem hearHost_hunt (s : State) :
    ((hearHost s).updLink fun l => { l with rx := .hunt, gapTimer := none }) = frameHeard s := by
  cases standing : s.link.silentRaised <;> simp only [hearHost, frameHeard, standing] <;> rfl

theorem frameHeard_closing (s : State) : (frameHeard s).link.closing = s.link.closing := rfl

theorem frameHeard_dropped (s : State) : (frameHeard s).link.dropped = s.link.dropped := rfl

/-- Hearing the host marks waiting frames and takes none away. -/
theorem frameHeard_inbound_length (s : State) : (frameHeard s).link.inbound.length = s.link.inbound.length := by
  cases standing : s.link.silentRaised <;> simp [frameHeard, standing]

/-- Once the transmitter has the OK reply of an accepted LINK_RESET, a good frame is heard and not admitted (R182). -/
theorem admitFrame_not_admitted {body : List Byte} {s : State} (taken : s.link.closing = .replyTaken) :
    admitFrame body s = frameHeard s := by
  simp only [admitFrame, hearHost_hunt, frameHeard_closing, if_pos taken]

/-- A full inbound queue drops the frame, with the count and the REQ_DROPPED warning. -/
theorem admitFrame_full {body : List Byte} {s : State} (admits : s.link.closing ≠ .replyTaken)
    (full : 4 ≤ s.link.inbound.length) :
    admitFrame body s = report .link .warning 0x02 ([body.getD 0 0, body.getD 1 0] ++ u16 (bump 65535 s.link.dropped))
      ((frameHeard s).updLink fun l => { l with dropped := bump 65535 s.link.dropped }) := by
  have noRoom : Config.inboundCapacity ≤ (frameHeard s).link.inbound.length := by
    rw [frameHeard_inbound_length]
    exact full
  simp only [admitFrame, hearHost_hunt, frameHeard_closing, if_neg admits, if_pos noRoom]
  rfl

/-- With room in the inbound queue the frame joins its tail. -/
theorem admitFrame_queued {body : List Byte} {s : State} (admits : s.link.closing ≠ .replyTaken)
    (room : s.link.inbound.length < 4) :
    admitFrame body s = frameQueued (body.getD 0 0) (body.getD 1 0) (body.drop 2) s := by
  have notFull : ¬ Config.inboundCapacity ≤ (frameHeard s).link.inbound.length := by
    rw [frameHeard_inbound_length]
    exact Nat.not_le.mpr room
  simp only [admitFrame, hearHost_hunt, frameHeard_closing, if_neg admits, if_neg notFull]
  rfl

/-- Whatever becomes of a good frame, the receiver is in HUNT, the gap timer is stopped and no bad frame is counted. -/
theorem admitFrame_receiver (body : List Byte) (s : State) :
    (admitFrame body s).link.rx = .hunt ∧ (admitFrame body s).link.gapTimer = none ∧
      (admitFrame body s).link.badFrames = s.link.badFrames := by
  by_cases taken : s.link.closing = .replyTaken
  · rw [admitFrame_not_admitted taken]
    exact ⟨rfl, rfl, rfl⟩
  · by_cases full : 4 ≤ s.link.inbound.length
    · rw [admitFrame_full taken full]
      obtain ⟨reports, lost, link⟩ := report_link .link .warning 0x02
        ([body.getD 0 0, body.getD 1 0] ++ u16 (bump 65535 s.link.dropped))
        ((frameHeard s).updLink fun l => { l with dropped := bump 65535 s.link.dropped })
      rw [link]
      exact ⟨rfl, rfl, rfl⟩
    · rw [admitFrame_queued taken (Nat.not_le.mp full)]
      exact ⟨rfl, rfl, rfl⟩

/-- Settles O4: each clause is the receiver's equation for its state; a good frame is handed to `admitFrame`. -/
theorem receiverActsOnEachByteByItsState : Obligations.ReceiverActsOnEachByteByItsState := by
  unfold Obligations.ReceiverActsOnEachByteByItsState
  intro b s
  simp only [exec_rxByte]
  refine ⟨?huntStart, ?huntOther, ?lengthTaken, ?lengthBad, ?bodyStored, ?bodyLast, ?checkFirst, ?crcBad, ?crcGood, ?gap⟩
  case huntStart => exact fun state start => congrArg _ (receive_hunt_start state start)
  case huntOther => exact fun state other => congrArg _ (receive_hunt_ignored state other)
  case lengthTaken => exact fun state fits => congrArg _ (receive_length_taken state fits)
  case lengthBad => exact fun state outside => congrArg _ (receive_length_bad state outside)
  case bodyStored => exact fun _ _ state more => congrArg _ (receive_body_stored state more)
  case bodyLast => exact fun _ _ state last => congrArg _ (receive_body_last state last)
  case checkFirst => exact fun _ _ state => congrArg _ (receive_check_first state)
  case crcBad => exact fun _ _ _ state differs => congrArg _ (receive_check_bad state differs)
  case crcGood =>
    exact fun _ body _ state good => ⟨admitFrame body s, congrArg _ (receive_check_good state good), admitFrame_receiver body s⟩
  case gap => exact exec_gapTimerExpiry_abandons

end Sys2Proof.Machine
end

section
/-! SUPPORT. What one command can do, said once: every command but a reset is a chain of `Change`s, each of one block under the guard
its rule gives it. An invariant that each `Change` and each reset keeps is kept by every step. -/

namespace Sys2Proof.Machine

/-! ### The changes -/

/-- A new profile takes force, with DRUM's offset clamped to it (R197). -/
def profileTaken (p : Profile) (s : State) : State :=
  (s.updProf fun f => { f with active := p }).updDrum fun d =>
    { d with offset := clampInt (-(p.maxAdjust : Int)) p.maxAdjust d.offset }

/-- A message of TRIP's path is taken. -/
def tripMsgTaken (m : TripMsg) (s : State) : State := s.updPaths fun p => { p with trip := p.trip.erase m }

/-- The table with a condition entered: an entry that is not ACTIVE has occurred (R166). -/
def conditionEntered (c : TripCause) (time ordinal : Nat) (t : TripTable) : TripTable :=
  if (t.get c).state = .active then t else t.set c (occurred time ordinal (t.get c))

/-- The table with the end of a condition entered: an ACTIVE entry is HELD (R167). -/
def endEntered (c : TripCause) (t : TripTable) : TripTable :=
  if (t.get c).state = .active then t.set c { t.get c with state := .held } else t

/-- An entry after a condition of a cause is as it was, or is that cause's own, occurred. -/
theorem conditionEntered_get (c c' : TripCause) (time ordinal : Nat) (t : TripTable) :
    (conditionEntered c time ordinal t).get c' = t.get c' ∨
      c' = c ∧ (conditionEntered c time ordinal t).get c' = occurred time ordinal (t.get c) := by
  unfold conditionEntered
  split
  · exact .inl rfl
  · rw [TripTable.get_set]
    split
    · exact .inr ⟨‹_›, rfl⟩
    · exact .inl rfl

/-- An entry after the end of a condition is as it was, or is that cause's own, ACTIVE before and HELD after. -/
theorem endEntered_get (c c' : TripCause) (t : TripTable) :
    (endEntered c t).get c' = t.get c' ∨
      c' = c ∧ (t.get c).state = .active ∧ (endEntered c t).get c' = { t.get c with state := .held } := by
  unfold endEntered
  split
  · next active =>
    rw [TripTable.get_set]
    split
    · exact .inr ⟨‹_›, active, rfl⟩
    · exact .inl rfl
  · exact .inl rfl

/-- One change within a command, guarded by what the rules give it. `sums` says that the sums EFE offers DRUM at the command keep
their ranges (R43); `own` says that LINK does its own part, and without it LINK only takes reports and event flags. -/
inductive Change (sums own : Prop) : State → State → Prop
  -- LINK
  | reported (src sev code data s) : Change sums own s (report src sev code data s)
  | flagged (g : EventFlag) (s) : Change sums own s (raiseFlag g s)
  | link (h : own) (f : Link → Link) (s) (hi : (f s.link).inbound.length ≤ s.link.inbound.length)
      (hr : (f s.link).reports.length ≤ s.link.reports.length)
      (hc : (f s.link).closing = .open → s.link.closing = .open)
      (hw : (f s.link).closing ≠ .open → s.link.closing ≠ .open ∨ s.prof.write = none)
      (hs : (f s.link).silentRaised = s.link.silentRaised) : Change sums own s (s.updLink f)
  | frameJoins (h : own) (g : InFrame) (s) (room : s.link.inbound.length < 4) :
      Change sums own s (s.updLink fun l => { l with inbound := l.inbound ++ [g] })
  | silenceRaised (h : own) (s) :
      Change sums own s (handCondition .hostSilent (s.updLink fun l => { l with silence := none, silentRaised := true }))
  | hostHeard (h : own) (s) : Change sums own s (hearHost s)
  -- PROF and SAA
  | allowance (v : Nat) (s) : Change sums own s (s.updProf fun f => { f with active := { f.active with allowance := v } })
  | profile (p : Profile) (s) (hk : p.filterExp ≤ 7) (hw : p.windowStart + p.windowLen ≤ 64) : Change sums own s (profileTaken p s)
  | storeWriting (copy : List Byte) (s) (hc : s.link.closing = .open) :
      Change sums own s (s.updProf fun f => { f with write := some copy })
  | storeWritten (r : StoreResult) (bs : List Byte) (s) :
      Change sums own s (s.updProf fun f => { f with write := none, lastResult := r, stored := bs })
  | saa (f : Saa → Saa) (s) : Change sums own s (s.updSaa f)
  -- the paths
  | paths (f : Paths → Paths) (s) (ht : (f s.paths).trip = s.paths.trip) : Change sums own s (s.updPaths f)
  | condition (m : TripMsg) (s) (hc : m.cause ≠ .hostSilent) :
      Change sums own s (s.updPaths fun p => { p with trip := p.trip ++ [m] })
  -- ATU
  | atu (f : Atu → Atu) (s)
      (hg : energizeGate s.atu = true → energizeGate (f s.atu) = true ∨ ∀ e, (s.elem e).state.energized = false) :
      Change sums own s (s.updAtu f)
  -- HSTG
  | hstg (f : Hstg → Hstg) (s) (he : (f s.hstg).elements = s.hstg.elements) (ho : (f s.hstg).onOrder = s.hstg.onOrder) :
      Change sums own s (s.updHstg f)
  | elem (e : Element) (f : ElementRec → ElementRec) (s)
      (he : (f (s.elem e)).state.energized = (s.elem e).state.energized) : Change sums own s (s.updElem e f)
  | deenergized (cause : OffCause) (e : Element) (s) : Change sums own s (deenergize cause e s)
  | energized (e : Element) (s) (hw : (s.elem e).state = .waitGrant) (hg : energizeGate s.atu = true) :
      Change sums own s (energize e s)
  -- DRUM and EFE
  | drum (f : Drum → Drum) (s) (ho : (f s.drum).offset = s.drum.offset) (hh : (f s.drum).history = s.drum.history) :
      Change sums own s (s.updDrum f)
  | offset (v : Int) (s) (hv : offsetBounded s → -(s.profile.maxAdjust : Int) ≤ v ∧ v ≤ s.profile.maxAdjust) :
      Change sums own s (s.updDrum fun d => { d with offset := v })
  | history (r : RevRecord) (s) : Change sums own s (closeHistory r s)
  | historyCleared (s) : Change sums own s (s.updDrum fun d => { d with history := [] })
  | pulse (c : Nat) (s) : Change sums own s (s.updEfe (efePulse s.profile c))
  | marker (s) : Change sums own s (s.updEfe efeMarker)
  -- MEST
  | mest (f : Mest → Mest) (s) (hf : ∀ v, (f s.mest).f = some v → s.mest.f = some v ∨ v ≤ 65535)
      (hb : (f s.mest).b = 0 ∨
        (f s.mest).b = s.mest.b ∧ ((f s.mest).stage = s.mest.stage ∨ (f s.mest).stage = none))
      (ht : (f s.mest).trend.length ≤ s.mest.trend.length) : Change sums own s (s.updMest f)
  | filtered (m : Nat) (s) (hm : sums → m ≤ 65535) : Change sums own s (filterUpdate m s)
  | dryCount (st : MestStage) (d : DryTarget) (v : Nat) (s) (hst : s.mest.stage = some st) (hd : st.dry = some d) :
      Change sums own s (s.updMest fun m => { m with b := dryCountAfter d v s.atu.exhaust s.mest.b })
  | trend (v : Nat) (s) :
      Change sums own s (s.updMest fun m =>
        { m with trend := (if m.trend.length < Config.trendCapacity then m.trend else m.trend.drop 1) ++ [v] })
  -- CPX
  | cpx (f : Cpx → Cpx) (s) (hp : (f s.cpx).plan = s.cpx.plan) (hd : (f s.cpx).digest = s.cpx.digest) :
      Change sums own s (s.updCpx f)
  | headDropped (r : StageRec) (rest : List StageRec) (s) (hp : s.cpx.plan = r :: rest) : Change sums own s (setPlan rest s)
  | planEmptied (s) : Change sums own s (setPlan [] s)
  | planJoined (l : List StageRec) (s) (room : s.cpx.plan.length + l.length ≤ 16)
      (none : ∀ r ∈ s.cpx.plan, r.final = false) (last : ∀ r ∈ l.dropLast, r.final = false) :
      Change sums own s (setPlan (s.cpx.plan ++ l) s)
  -- TRIP
  | conditionTaken (c : TripCause) (time ordinal : Nat) (s)
      (oldest : s.paths.trip.find? (fun x => decide (x.cause = c)) = some ⟨c, false⟩) :
      Change sums own s ((tripMsgTaken ⟨c, false⟩ s).updTrip (conditionEntered c time ordinal))
  | endTaken (c : TripCause) (s) (oldest : s.paths.trip.find? (fun x => decide (x.cause = c)) = some ⟨c, true⟩) :
      Change sums own s ((tripMsgTaken ⟨c, true⟩ s).updTrip (endEntered c))
  | heldCleared (t : TripTable) (s) (ht : ∀ c, t.get c = s.trip.get c ∨ t.get c = clearHeld (s.trip.get c)) :
      Change sums own s (s.updTrip fun _ => t)

/-- What a chain of changes leads to. -/
abbrev Reaches (sums own : Prop) : State → State → Prop := Relation.ReflTransGen (Change sums own)

/-- An invariant every change keeps is kept by a chain of them. -/
theorem Reaches.keeps {sums own : Prop} {P : State → Prop} (keep : ∀ s t, Change sums own s t → P s → P t) {s t : State}
    (h : Reaches sums own s t) (hs : P s) : P t := by
  induction h with
  | refl => exact hs
  | tail _ change ih => exact keep _ _ change ih

variable {sums own : Prop} {s : State}

theorem reaches_ite {p : Prop} [Decidable p] {a b : State} (ha : p → Reaches sums own s a) (hb : ¬ p → Reaches sums own s b) :
    Reaches sums own s (if p then a else b) := by
  split
  · exact ha ‹_›
  · exact hb ‹_›

/-- A step taken only under a condition. -/
theorem reaches_when {p : Prop} [Decidable p] {a : State} (ha : p → Reaches sums own s a) :
    Reaches sums own s (if p then a else s) := reaches_ite ha fun _ => .refl

theorem reaches_unless {p : Prop} [Decidable p] {a : State} (ha : ¬ p → Reaches sums own s a) :
    Reaches sums own s (if p then s else a) := reaches_ite (fun _ => .refl) ha

theorem reaches_foldl {α : Type} {f : State → α → State} (hf : ∀ a s, Reaches sums own s (f s a)) (l : List α) (s : State) :
    Reaches sums own s (l.foldl f s) := by
  induction l generalizing s with
  | nil => exact .refl
  | cons a l ih => exact (hf a s).trans (ih _)

/-- Steps on distinct elements, each of which needs something of its element's record alone. -/
theorem reaches_foldl_distinct {f : State → Element → State} {need : ElementRec → Prop}
    (hf : ∀ e s, need (s.elem e) → Reaches sums own s (f s e)) (keep : ∀ e e' s, e' ≠ e → (f s e).elem e' = s.elem e')
    {l : List Element} (distinct : l.Nodup) {s : State} (meets : ∀ e ∈ l, need (s.elem e)) :
    Reaches sums own s (l.foldl f s) := by
  induction l generalizing s with
  | nil => exact .refl
  | cons e l ih =>
    obtain ⟨notIn, distinct⟩ := List.nodup_cons.mp distinct
    refine (hf e s (meets e (by simp))).trans (ih distinct fun e' he' => ?_)
    rw [keep e e' s fun same => notIn (same ▸ he')]
    exact meets e' (by simp [he'])

/-! ### Messages and flags -/

theorem raiseFlag_reaches (g : EventFlag) (s : State) : Reaches sums own s (raiseFlag g s) :=
  .single (.flagged g s)

theorem report_reaches (src : Source) (sev : Severity) (code : Byte) (data : List Byte) (s : State) :
    Reaches sums own s (report src sev code data s) := .single (.reported ..)

theorem sendToSaa_reaches (m : HstgMsg) (s : State) : Reaches sums own s (sendToSaa m s) := .single (.paths _ _ rfl)
theorem sendToHstg_reaches (m : SaaMsg) (s : State) : Reaches sums own s (sendToHstg m s) := .single (.paths _ _ rfl)
theorem sendDrumToSaa_reaches (m : DrumMsg) (s : State) : Reaches sums own s (sendDrumToSaa m s) := .single (.paths _ _ rfl)
theorem sendToDrum_reaches (n : Byte) (s : State) : Reaches sums own s (sendToDrum n s) := .single (.paths _ _ rfl)
theorem sendDry_reaches (n : Nat) (s : State) : Reaches sums own s (sendDry n s) := .single (.paths _ _ rfl)

theorem handCondition_reaches {c : TripCause} (hc : c ≠ .hostSilent) (s : State) : Reaches sums own s (handCondition c s) :=
  .single (.condition _ _ hc)

theorem handConditionEnd_reaches {c : TripCause} (hc : c ≠ .hostSilent) (s : State) : Reaches sums own s (handConditionEnd c s) :=
  .single (.condition _ _ hc)

/-! ### HSTG -/

theorem updHstg_reaches (f : Hstg → Hstg) (s : State) (he : (f s.hstg).elements = s.hstg.elements)
    (ho : (f s.hstg).onOrder = s.hstg.onOrder) : Reaches sums own s (s.updHstg f) := .single (.hstg _ _ he ho)

theorem setHeatEnable_reaches (b : Bool) (s : State) : Reaches sums own s (setHeatEnable b s) := by
  unfold setHeatEnable
  exact updHstg_reaches _ _ (by split <;> rfl) (by split <;> rfl)

theorem switchOff_reaches (cause : OffCause) (e : Element) (s : State) : Reaches sums own s (switchOff cause e s) :=
  .head (.deenergized cause e s) (sendToSaa_reaches _ _)

theorem dropWaiting_reaches {e : Element} {s : State} (h : (s.elem e).state = .waitGrant) :
    Reaches sums own s (dropWaiting e s) :=
  .head (.elem e _ s (by rw [h]; rfl)) (reaches_ite (fun _ => sendToSaa_reaches _ _) fun _ => .refl)

theorem requestElement_reaches (e : Element) (s : State) : Reaches sums own s (requestElement e s) :=
  .head (.elem e _ s rfl) (sendToSaa_reaches _ _)

theorem choose_reaches {e : Element} {s : State} (h : (s.elem e).state = .offReady) : Reaches sums own s (choose e s) := by
  have waits : Reaches sums own s (s.updElem e fun r => { r with state := .waitGrant }) :=
    .single (.elem e _ s (by rw [h]; rfl))
  refine waits.trans (.trans ?_ (requestElement_reaches _ _))
  exact reaches_when fun _ => updHstg_reaches (fun h => { h with pointer := nextElement e }) _ (by rfl) (by rfl)

theorem dropWaiting_elem_ne {e e' : Element} (h : e' ≠ e) (s : State) : (dropWaiting e s).elem e' = s.elem e' := by
  unfold dropWaiting
  split <;> simp [State.elem, State.updElem, sendToSaa, Elements.get_set_ne _ _ h]

theorem requestElement_elem_ne {e e' : Element} (h : e' ≠ e) (s : State) : (requestElement e s).elem e' = s.elem e' := by
  simp [requestElement, State.elem, State.updElem, sendToSaa, Elements.get_set_ne _ _ h]

theorem choose_elem_ne {e e' : Element} (h : e' ≠ e) (s : State) : (choose e s).elem e' = s.elem e' := by
  unfold choose
  simp only []
  rw [requestElement_elem_ne h]
  split <;> simp [State.elem, State.updElem, Elements.get_set_ne _ _ h]

theorem allElements_nodup : allElements.Nodup := by decide

theorem scanFrom_nodup (e : Element) : (scanFrom e).Nodup := by cases e <;> decide

theorem removeExcess_reaches (x : Nat) (s : State) : Reaches sums own s (removeExcess x s) := by
  refine .trans (reaches_foldl_distinct (need := fun r => r.state = .waitGrant) (fun _ _ h => dropWaiting_reaches h)
    (fun _ _ s h => dropWaiting_elem_ne h s) ?_ fun e he => ?_) (reaches_foldl (fun e s => switchOff_reaches _ e s) _ _)
  · exact ((List.nodup_reverse.mpr allElements_nodup).filter _).sublist (List.take_sublist _ _)
  · simpa [State.elem] using (List.mem_filter.mp (List.mem_of_mem_take he)).2

theorem chooseMore_reaches (y : Nat) (s : State) : Reaches sums own s (chooseMore y s) := by
  refine reaches_foldl_distinct (need := fun r => r.state = .offReady) (fun _ _ h => choose_reaches h)
    (fun _ _ s h => choose_elem_ne h s) ?_ fun e he => ?_
  · refine List.Nodup.sublist (List.take_sublist _ _) (List.Nodup.filter _ ?_)
    split
    · exact scanFrom_nodup _
    · exact allElements_nodup
  · simpa [State.elem] using (List.mem_filter.mp (List.mem_of_mem_take he)).2

theorem applyDemand_reaches (s : State) : Reaches sums own s (applyDemand s) :=
  reaches_ite (fun _ => removeExcess_reaches _ _) fun _ => reaches_when fun _ => chooseMore_reaches _ _

theorem setDemand_reaches (d : Nat) (s : State) : Reaches sums own s (setDemand d s) :=
  (updHstg_reaches _ _ (by rfl) (by rfl)).trans (applyDemand_reaches _)

theorem stopElement_reaches (e : Element) (s : State) : Reaches sums own s (stopElement e s) := by
  unfold stopElement
  split
  · exact switchOff_reaches _ _ _
  · exact switchOff_reaches _ _ _
  · exact dropWaiting_reaches ‹_›
  all_goals exact .refl

theorem hstgStop_reaches (fromCycle : Bool) (s : State) : Reaches sums own s (hstgStop fromCycle s) :=
  .trans (reaches_when fun _ => setHeatEnable_reaches _ _)
    (.trans (updHstg_reaches _ _ (by rfl) (by rfl)) (reaches_foldl (fun e s => stopElement_reaches e s) _ _))

theorem hstgStarved_reaches (s : State) : Reaches sums own s (hstgStarved s) :=
  (setHeatEnable_reaches _ _).trans (setDemand_reaches _ _)

theorem hstgStageStart_reaches (st : HeatSettings) (s : State) : Reaches sums own s (hstgStageStart st s) := by
  refine .trans (updHstg_reaches (fun h => { h with settings := some st }) s (by rfl) (by rfl)) ?_
  unfold hstgStageStart
  split
  · exact setHeatEnable_reaches _ _
  · exact setHeatEnable_reaches _ _
  · exact hstgStarved_reaches _
  · exact hstgStarved_reaches _

theorem hstgResume_reaches (heat : Bool) (s : State) : Reaches sums own s (hstgResume heat s) :=
  reaches_ite (fun _ => setHeatEnable_reaches _ _) fun _ => hstgStarved_reaches _

theorem hstgLoad_reaches (st : HeatSettings) (e : Element) (s : State) : Reaches sums own s (hstgLoad st e s) :=
  (setHeatEnable_reaches _ _).trans (updHstg_reaches _ _ (by rfl) (by rfl))

theorem hstgClose_reaches (s : State) : Reaches sums own s (hstgClose s) :=
  (setHeatEnable_reaches _ _).trans (updHstg_reaches _ _ (by rfl) (by rfl))

theorem hstgExhaust_reaches (v : Int) (s : State) : Reaches sums own s (hstgExhaust v s) :=
  reaches_when fun _ => setDemand_reaches _ _

theorem hstgInlet_reaches (v : Int) (valid : Bool) (s : State) : Reaches sums own s (hstgInlet v valid s) := by
  unfold hstgInlet
  refine reaches_when fun _ => ?_
  split
  · exact .refl
  · split
    · exact .refl
    · refine reaches_ite (fun _ => reaches_when fun _ => updHstg_reaches _ _ (by rfl) (by rfl)) fun _ => reaches_when fun _ => ?_
      exact (updHstg_reaches _ _ (by rfl) (by rfl)).trans ((setDemand_reaches _ _).trans (report_reaches ..))

theorem rerequest_reaches (s : State) : Reaches sums own s (rerequest s) :=
  reaches_when fun _ => reaches_foldl (fun e s => requestElement_reaches e s) _ _

theorem alignElement_energized (p : Profile) (e : Element) (r : ElementRec) :
    (alignElement p e r).state.energized = r.state.energized := by
  unfold alignElement
  split
  · cases h : r.state <;> simp [h, ElementState.energized]
  · split
    · next h => rw [h]; rfl
    · rfl

theorem hstgProfile_reaches (s : State) : Reaches sums own s (hstgProfile s) :=
  reaches_foldl (fun e s => .single (.elem e _ s (alignElement_energized _ _ _))) _ _

theorem takeGrant_reaches (e : Element) (s : State) : Reaches sums own s (takeGrant e s) := by
  refine reaches_ite (fun waits => reaches_ite (fun gate => .single (.energized e s waits.1 gate)) fun _ => ?_)
    fun _ => sendToSaa_reaches _ _
  exact .head (.elem e _ s rfl) (sendToSaa_reaches _ _)

theorem takeShed_reaches (e : Element) (s : State) : Reaches sums own s (takeShed e s) := by
  unfold takeShed
  split
  · exact .head (.deenergized _ e s) (applyDemand_reaches _)
  · exact .head (.deenergized _ e s) (applyDemand_reaches _)
  all_goals exact .refl

theorem minOnExpires_reaches (e : Element) (s : State) : Reaches sums own s (minOnExpires e s) := by
  refine reaches_when fun due => ?_
  have freed : Reaches sums own s (s.updElem e fun r => { r with state := .onFree, minOn := none }) :=
    .single (.elem e _ s (by rw [due.2]; rfl))
  refine freed.trans ((applyDemand_reaches _).trans ?_)
  exact reaches_when fun _ => sendToSaa_reaches _ _

theorem minOffExpires_reaches (e : Element) (s : State) : Reaches sums own s (minOffExpires e s) :=
  reaches_when fun due => .head (.elem e _ s (by rw [due.2]; rfl)) (applyDemand_reaches _)

end Sys2Proof.Machine
end

section
/-! SUPPORT. Every operation the blocks share as a chain of changes, in the order of the model. -/

namespace Sys2Proof.Machine

variable {sums own : Prop} {s : State}

/-! ### ATU -/

theorem updAtu_reaches (f : Atu → Atu) (s : State) (hg : energizeGate s.atu = true → energizeGate (f s.atu) = true) :
    Reaches sums own s (s.updAtu f) := .single (.atu f s fun open_ => .inl (hg open_))

theorem endAirflow_reaches (s : State) : Reaches sums own s (endAirflow s) :=
  reaches_when fun _ => (updAtu_reaches _ s id).trans (handConditionEnd_reaches (by decide) _)

theorem raiseAirflow_reaches (s : State) : Reaches sums own s (raiseAirflow s) :=
  reaches_unless fun _ => (updAtu_reaches _ s id).trans (handCondition_reaches (by decide) _)

/-! A stop of heat touches HSTG and its path to SAA alone, so it commutes with what ATU does to its own state and to TRIP's path. -/

theorem stopElement_updAtu (e : Element) (f : Atu → Atu) (s : State) :
    stopElement e (s.updAtu f) = (stopElement e s).updAtu f := by
  have same : (s.updAtu f).elem e = s.elem e := rfl
  unfold stopElement
  rw [same]
  split
  · rfl
  · rfl
  · unfold dropWaiting
    rw [same]
    split <;> rfl
  all_goals rfl

theorem stopElement_tripMsg (e : Element) (m : TripMsg) (s : State) :
    stopElement e (s.updPaths fun p => { p with trip := p.trip ++ [m] }) =
      (stopElement e s).updPaths fun p => { p with trip := p.trip ++ [m] } := by
  have same : (s.updPaths fun p => { p with trip := p.trip ++ [m] }).elem e = s.elem e := rfl
  unfold stopElement
  rw [same]
  split
  · rfl
  · rfl
  · unfold dropWaiting
    rw [same]
    split <;> rfl
  all_goals rfl

theorem hstgStop_updAtu (f : Atu → Atu) (s : State) : hstgStop false (s.updAtu f) = (hstgStop false s).updAtu f := by
  have cleared : (s.updAtu f).updHstg (fun h => { h with demand := 0 }) =
      (s.updHstg fun h => { h with demand := 0 }).updAtu f := rfl
  simp [hstgStop, allElements, cleared, stopElement_updAtu]

theorem hstgStop_tripMsg (m : TripMsg) (s : State) :
    hstgStop false (s.updPaths fun p => { p with trip := p.trip ++ [m] }) =
      (hstgStop false s).updPaths fun p => { p with trip := p.trip ++ [m] } := by
  have cleared : (s.updPaths fun p => { p with trip := p.trip ++ [m] }).updHstg (fun h => { h with demand := 0 }) =
      (s.updHstg fun h => { h with demand := 0 }).updPaths fun p => { p with trip := p.trip ++ [m] } := rfl
  simp [hstgStop, allElements, cleared, stopElement_tripMsg]

theorem hstgStop_endAirflow (s : State) : hstgStop false (endAirflow s) = endAirflow (hstgStop false s) := by
  unfold endAirflow
  rw [(hstgStop_frame false s).2.2.1]
  split
  · rw [handConditionEnd, hstgStop_tripMsg, hstgStop_updAtu]
    rfl
  · rfl

/-- What a stop leaves of an element's record. -/
theorem stopElement_not_counted (e : Element) (s : State) : ((stopElement e s).elem e).state.counted = false := by
  unfold stopElement
  split
  · simp [switchOff, deenergize, sendToSaa, State.elem, State.updElem, ElementState.counted]
  · simp [switchOff, deenergize, sendToSaa, State.elem, State.updElem, ElementState.counted]
  · unfold dropWaiting
    split <;> simp [sendToSaa, State.elem, State.updElem, ElementState.counted]
  · next h => rw [h]; rfl
  · next h => rw [h]; rfl
  · next h => rw [h]; rfl

theorem stopElement_elem_ne {e e' : Element} (h : e' ≠ e) (s : State) : (stopElement e s).elem e' = s.elem e' := by
  unfold stopElement
  split
  · simp [switchOff, deenergize, sendToSaa, State.elem, State.updElem, Elements.get_set_ne _ _ h]
  · simp [switchOff, deenergize, sendToSaa, State.elem, State.updElem, Elements.get_set_ne _ _ h]
  · exact dropWaiting_elem_ne h s
  all_goals rfl

/-- No element is on or waits after a stop (R104). -/
theorem hstgStop_not_counted (fromCycle : Bool) (s : State) (e : Element) :
    ((hstgStop fromCycle s).elem e).state.counted = false := by
  simp only [hstgStop, allElements, List.foldl_cons, List.foldl_nil]
  cases e
  · rw [stopElement_elem_ne (by decide), stopElement_elem_ne (by decide), stopElement_elem_ne (by decide)]
    exact stopElement_not_counted _ _
  · rw [stopElement_elem_ne (by decide), stopElement_elem_ne (by decide)]
    exact stopElement_not_counted _ _
  · rw [stopElement_elem_ne (by decide)]
    exact stopElement_not_counted _ _
  · exact stopElement_not_counted _ _

theorem ElementState.energized_of_not_counted {x : ElementState} (h : x.counted = false) : x.energized = false := by
  cases x <;> first | rfl | exact absurd h (by decide)

theorem energizeGate_iff (a : Atu) : energizeGate a = true ↔
    a.blower = .on ∧ a.airflowProven = true ∧ a.highLimit.settled = some .closed ∧ a.door.settled = some .closed := by
  simp [energizeGate, DebouncedInput.isClosed, and_assoc]

theorem energizeGate_blower {a : Atu} (h : energizeGate a = true) : a.blower = .on := ((energizeGate_iff a).mp h).1

/-- The blower leaves a state with heat taken away first where it was ON: the order in which ATU and HSTG act is the same to each. -/
theorem gateLost_reaches (f : Atu → Atu) (s : State) :
    Reaches sums own s ((if s.atu.blower = .on then hstgStop false s else s).updAtu f) := by
  split
  · exact (hstgStop_reaches _ _).tail (.atu f _ fun _ => .inr fun e =>
      ElementState.energized_of_not_counted (hstgStop_not_counted false s e))
  · next off => exact updAtu_reaches f s fun gate => absurd (energizeGate_blower gate) off

theorem enterOff_eq (s : State) :
    enterOff s = endAirflow ((if s.atu.blower = .on then hstgStop false s else s).updAtu fun a =>
      { a with blower := .off, airflowProven := false, grace := none, lowFlow := none, runOn := none }) := by
  unfold enterOff
  simp only []
  split
  · rw [hstgStop_endAirflow, hstgStop_updAtu]
  · rfl

/-- The blower goes OFF right after an update of ATU that leaves it as it was, as an opened door does (R87). -/
theorem enterOff_updAtu_reaches {f : Atu → Atu} {s : State} (hf : (f s.atu).blower = s.atu.blower) :
    Reaches sums own s (enterOff (s.updAtu f)) := by
  have order : (if (s.updAtu f).atu.blower = .on then hstgStop false (s.updAtu f) else s.updAtu f) =
      (if s.atu.blower = .on then hstgStop false s else s).updAtu f := by
    rw [State.updAtu_atu, hf]
    split
    · exact hstgStop_updAtu f s
    · rfl
  rw [enterOff_eq, order]
  exact (gateLost_reaches (fun a =>
    { f a with blower := .off, airflowProven := false, grace := none, lowFlow := none, runOn := none }) s).trans
    (endAirflow_reaches _)

theorem enterOff_reaches (s : State) : Reaches sums own s (enterOff s) := enterOff_updAtu_reaches (f := id) rfl

theorem enterRunOn_reaches {s : State} (on : s.atu.blower = .on) : Reaches sums own s (enterRunOn s) := by
  have := gateLost_reaches (sums := sums) (own := own) (fun a =>
    { a with blower := .runOn, airflowProven := false, grace := none, lowFlow := none,
             runOn := some (s.profile.runOnLimit * 60000) }) s
  rwa [if_pos on, ← hstgStop_updAtu] at this

theorem enterOn_reaches {s : State} (notOn : s.atu.blower ≠ .on) : Reaches sums own s (enterOn s) :=
  updAtu_reaches _ s fun gate => absurd (energizeGate_blower gate) notOn

theorem blowerRequest_reaches (q : BlowerRequest) (s : State) : Reaches sums own s (blowerRequest q s) := by
  unfold blowerRequest
  split
  · next h => exact reaches_when fun _ => enterOn_reaches (by simp [h])
  · exact .refl
  · next h => exact reaches_ite (fun _ => enterOn_reaches (by simp [h])) fun _ => enterOff_reaches _
  · exact .refl
  · next h => exact reaches_ite (fun _ => enterRunOn_reaches h) fun _ => enterOff_reaches _
  · exact reaches_unless fun _ => enterOff_reaches _
  · exact .refl
  · exact enterOff_reaches _
  · exact enterOff_reaches _

theorem pressureConverted_reaches (raw : Int) (s : State) : Reaches sums own s (pressureConverted raw s) := by
  refine (updAtu_reaches (fun a => { a with pressure := (clampInt 0 2000 raw).toNat }) s id).trans ?_
  refine reaches_unless fun _ => reaches_ite (fun _ => reaches_when fun _ => ?_) fun _ => reaches_ite
    (fun _ => reaches_unless fun _ => updAtu_reaches _ _ id) fun _ => updAtu_reaches _ _ id
  refine (updAtu_reaches _ _ fun gate => ?_).trans (rerequest_reaches _)
  obtain ⟨blower, _, highLimit, door⟩ := (energizeGate_iff _).mp gate
  exact (energizeGate_iff _).mpr ⟨blower, rfl, highLimit, door⟩

theorem judgeSensor_reaches (run : Nat) (valid : Bool) (s : State) : Reaches sums own s (judgeSensor run valid s) :=
  reaches_ite
    (fun _ => reaches_when fun _ => (updAtu_reaches _ _ id).trans (handConditionEnd_reaches (by decide) _))
    fun _ => reaches_when fun _ => (updAtu_reaches _ _ id).trans (handCondition_reaches (by decide) _)

theorem judgeFire_reaches (s : State) : Reaches sums own s (judgeFire s) :=
  reaches_ite
    (fun _ => reaches_when fun _ => (updAtu_reaches _ _ id).trans (handConditionEnd_reaches (by decide) _))
    fun _ => reaches_when fun _ => (updAtu_reaches _ _ id).trans (handCondition_reaches (by decide) _)

theorem judgeRunOn_reaches (s : State) : Reaches sums own s (judgeRunOn s) := reaches_when fun _ => enterOff_reaches _

theorem lineConverted_reaches (raw : Int) (s : State) : Reaches sums own s (lineConverted raw s) := by
  refine (updAtu_reaches (fun a => { a with lineCurrent := raw.toNat }) s id).trans (reaches_ite (fun _ => ?_) fun _ => ?_)
  · refine reaches_ite (fun _ => reaches_ite (fun _ => ?_) fun _ => updAtu_reaches _ _ id) fun _ => updAtu_reaches _ _ id
    exact (updAtu_reaches _ _ id).trans (handConditionEnd_reaches (by decide) _)
  · refine reaches_ite (fun _ => reaches_ite (fun _ => ?_) fun _ => updAtu_reaches _ _ id) fun _ => updAtu_reaches _ _ id
    exact (updAtu_reaches _ _ id).trans (handCondition_reaches (by decide) _)

/-! ### MEST -/

theorem reestimate_reaches (s : State) : Reaches sums own s (reestimate s) :=
  .single (.mest _ _ (fun _ => .inl) (.inr ⟨rfl, .inl rfl⟩) le_rfl)

theorem mestStageStart_reaches (st : MestStage) (s : State) : Reaches sums own s (mestStageStart st s) :=
  .head (.mest _ s (fun _ => .inl) (.inl rfl) le_rfl) (reestimate_reaches _)

theorem mestWithdraw_reaches (s : State) : Reaches sums own s (mestWithdraw s) :=
  .head (.mest _ s (fun _ => .inl) (.inr ⟨rfl, .inr rfl⟩) le_rfl) (reestimate_reaches _)

theorem mestStart_reaches (s : State) : Reaches sums own s (mestStart s) :=
  .single (.mest _ s (fun _ h => nomatch h) (.inr ⟨rfl, .inr rfl⟩) (Nat.zero_le _))

theorem mestResume_reaches (s : State) : Reaches sums own s (mestResume s) :=
  .single (.mest _ s (fun _ => .inl) (.inl rfl) le_rfl)

theorem mestTangle_reaches (s : State) : Reaches sums own s (mestTangle s) :=
  .single (.mest _ s (fun _ => .inl) (.inl rfl) le_rfl)

theorem mestLoad_reaches (st : MestStage) {f : Option Nat} (hf : ∀ v, f = some v → v ≤ 65535) (sparse : Nat) (b : Bool)
    (s : State) : Reaches sums own s (mestLoad st f sparse b s) :=
  .single (.mest _ s (fun v h => .inr (hf v h)) (.inl rfl) (Nat.zero_le _))

theorem signalDry_reaches (d : DryTarget) (ordinal f : Nat) (s : State) : Reaches sums own s (signalDry d ordinal f s) :=
  .head (.mest _ s (fun _ => .inl) (.inr ⟨rfl, .inl rfl⟩) le_rfl)
    ((sendDry_reaches _ _).trans ((report_reaches ..).trans (raiseFlag_reaches _ _)))

theorem judgeDry_reaches (s : State) : Reaches sums own s (judgeDry s) := by
  unfold judgeDry
  split
  · exact .refl
  · next st hst =>
    split
    · exact .refl
    · next d hd =>
      refine .head (.dryCount st d (s.mest.f.getD 0) s hst hd) ?_
      exact reaches_ite (fun _ => signalDry_reaches _ _ _ _) fun _ => .refl

theorem trendStep_reaches (s : State) : Reaches sums own s (trendStep s) :=
  reaches_when fun _ => .head (.trend (s.mest.f.getD 0) s) (reestimate_reaches _)

theorem foldValue_reaches {m : Nat} (hm : sums → m ≤ 65535) (s : State) : Reaches sums own s (foldValue m s) :=
  .head (.filtered m s hm) ((judgeDry_reaches _).trans (trendStep_reaches _))

/-- What MEST counts of sparse revolutions stands apart from F, B, the stage held and the trend. -/
theorem updMest_reaches (f : Mest → Mest) (s : State) (hf : (f s.mest).f = s.mest.f)
    (hb : (f s.mest).b = s.mest.b) (hst : (f s.mest).stage = s.mest.stage)
    (ht : (f s.mest).trend = s.mest.trend) : Reaches sums own s (s.updMest f) :=
  .single (.mest f s (fun _ h => .inl (hf ▸ h)) (.inr ⟨hb, .inl hst⟩) (ht ▸ le_rfl))

theorem fold_reaches (number : Nat) (cls : RevClass) {k sum : Nat} (hsum : sums → sum ≤ 65535 * k) (s : State) :
    Reaches sums own s (fold number cls k sum s).1 := by
  cases cls with
  | ramp => exact .refl
  | malformed => exact .refl
  | steady =>
    obtain enough | few := Nat.lt_or_ge k s.profile.minContacts |>.symm
    · rw [fold_folded enough]
      exact (updMest_reaches _ _ (by rfl) (by rfl) (by rfl) (by rfl)).trans
        (foldValue_reaches (fun h => Nat.div_le_of_le_mul (by rw [Nat.mul_comm]; exact hsum h)) _)
    · obtain below | atLimit := Nat.lt_or_ge (bump 255 s.mest.sparse) s.profile.sparseLimit
      · rw [fold_sparse few below]
        exact updMest_reaches (fun m => { m with sparse := bump 255 s.mest.sparse }) s (by rfl) (by rfl) (by rfl) (by rfl)
      · rw [fold_sparseAsDry few atLimit]
        refine .trans (reaches_ite (fun _ => updMest_reaches _ _ (by rfl) (by rfl) (by rfl) (by rfl)) fun _ => ?_) (foldValue_reaches (fun _ => Nat.zero_le _) _)
        exact (updMest_reaches (fun m => { m with sparse := bump 255 s.mest.sparse, sparseWarned := true }) s (by rfl) (by rfl) (by rfl) (by rfl)).trans
          (report_reaches ..)

/-! ### DRUM and EFE -/

theorem updDrum_reaches (f : Drum → Drum) (s : State) (ho : (f s.drum).offset = s.drum.offset)
    (hh : (f s.drum).history = s.drum.history) : Reaches sums own s (s.updDrum f) := .single (.drum f s ho hh)

theorem loseLock_reaches (s : State) : Reaches sums own s (loseLock s) :=
  reaches_when fun _ => (updDrum_reaches _ s (by rfl) (by rfl)).trans ((report_reaches ..).trans (raiseFlag_reaches _ _))

theorem endMalformedRun_reaches (s : State) : Reaches sums own s (endMalformedRun s) :=
  (updDrum_reaches _ s (by rfl) (by rfl)).trans (reaches_ite (fun _ => handConditionEnd_reaches (by decide) _) fun _ => .refl)

theorem endStall_reaches (s : State) : Reaches sums own s (endStall s) :=
  reaches_when fun _ => (updDrum_reaches _ s (by rfl) (by rfl)).trans (handConditionEnd_reaches (by decide) _)

theorem enterStopped_reaches (s : State) : Reaches sums own s (enterStopped s) :=
  (updDrum_reaches _ s (by rfl) (by rfl)).trans ((endMalformedRun_reaches _).trans (endStall_reaches _))

theorem enterSurgeWait_reaches (s : State) : Reaches sums own s (enterSurgeWait s) :=
  (updDrum_reaches _ s (by rfl) (by rfl)).trans (sendDrumToSaa_reaches _ _)

theorem startFromRest_reaches (s : State) : Reaches sums own s (startFromRest s) :=
  (updDrum_reaches _ s (by rfl) (by rfl)).trans (enterSurgeWait_reaches _)

theorem enterDecel_reaches (reverse : Bool) (s : State) : Reaches sums own s (enterDecel reverse s) := by
  unfold enterDecel
  exact .trans (reaches_when fun _ => loseLock_reaches _) (updDrum_reaches _ _ (by rfl) (by rfl))

theorem endDwell_reaches (s : State) : Reaches sums own s (endDwell s) :=
  (updDrum_reaches _ s (by rfl) (by rfl)).trans (enterSurgeWait_reaches _)

theorem enterDwell_reaches (s : State) : Reaches sums own s (enterDwell s) :=
  (updDrum_reaches _ s (by rfl) (by rfl)).trans (reaches_ite (fun _ => endDwell_reaches _) fun _ => .refl)

theorem runRequest_reaches (s : State) : Reaches sums own s (runRequest s) := by
  unfold runRequest
  split
  · exact reaches_ite (fun _ => startFromRest_reaches _) fun _ => updDrum_reaches _ _ (by rfl) (by rfl)
  · exact updDrum_reaches _ _ (by rfl) (by rfl)
  all_goals exact .refl

theorem drumStop_reaches (s : State) : Reaches sums own s (drumStop s) := by
  unfold drumStop
  split
  · exact updDrum_reaches _ _ (by rfl) (by rfl)
  · exact (sendDrumToSaa_reaches _ _).trans (enterStopped_reaches _)
  · exact (sendDrumToSaa_reaches _ _).trans (enterDecel_reaches _ _)
  · exact enterDecel_reaches _ _
  · exact updDrum_reaches _ _ (by rfl) (by rfl)
  · exact updDrum_reaches _ _ (by rfl) (by rfl)
  · exact enterStopped_reaches _

theorem burstRequest_reaches (s : State) : Reaches sums own s (burstRequest s) :=
  reaches_when fun _ => (updDrum_reaches _ s (by rfl) (by rfl)).trans (runRequest_reaches _)

theorem takeSurge_reaches (n : Byte) (s : State) : Reaches sums own s (takeSurge n s) :=
  reaches_ite (fun _ => updDrum_reaches _ _ (by rfl) (by rfl)) fun _ => sendDrumToSaa_reaches _ _

theorem stopDetected_reaches (s : State) : Reaches sums own s (stopDetected s) := by
  refine reaches_unless fun _ => (updDrum_reaches (fun d => { d with stopDetect := none, stopConfirmed := true }) s (by rfl) (by rfl)).trans ?_
  simp only []
  split
  · exact (enterStopped_reaches _).trans (reaches_when fun _ => startFromRest_reaches _)
  · exact enterDwell_reaches _
  · exact reaches_when fun _ => startFromRest_reaches _
  all_goals exact .refl

/-- A stage's pattern is installed with an offset that the active profile allows. -/
theorem installPattern_reaches (kind : StageKind) (idx burstRevs tangles : Nat) {offset : Int} (dir : Direction) {s : State}
    (h : offsetBounded s → -(s.profile.maxAdjust : Int) ≤ offset ∧ offset ≤ s.profile.maxAdjust) :
    Reaches sums own s (s.updDrum fun d => { installPattern kind idx burstRevs offset tangles d with direction := dir }) :=
  .head (.offset offset s h) (updDrum_reaches (fun d =>
    { installPattern kind idx burstRevs offset tangles d with direction := dir }) _ (by rfl) (by rfl))

theorem drumStageStart_reaches (kind : StageKind) (idx burstRevs : Nat) (s : State) :
    Reaches sums own s (drumStageStart kind idx burstRevs s) := by
  refine installPattern_reaches kind idx burstRevs 0 (offset := if idx = s.drum.activeIdx then s.drum.offset else 0)
    s.drum.direction fun bounded => ?_
  by_cases same : idx = s.drum.activeIdx
  · rw [if_pos same]
    exact bounded
  · rw [if_neg same]
    exact ⟨by omega, by omega⟩

theorem drumLoad_reaches (kind : StageKind) (idx burstRevs tangles : Nat) {offset : Int} (dir : Direction) {s : State}
    (low : -(s.profile.maxAdjust : Int) ≤ offset) (high : offset ≤ s.profile.maxAdjust) :
    Reaches sums own s (drumLoad kind idx burstRevs offset tangles dir s) :=
  installPattern_reaches kind idx burstRevs tangles dir fun _ => ⟨low, high⟩

theorem drumResume_reaches (s : State) : Reaches sums own s (drumResume s) := updDrum_reaches _ _ (by rfl) (by rfl)

theorem closeLock_reaches (q : Measured) (s : State) : Reaches sums own s (closeLock q s) :=
  (updDrum_reaches _ s (by rfl) (by rfl)).trans (reaches_ite (fun _ => updDrum_reaches _ _ (by rfl) (by rfl)) fun _ => loseLock_reaches _)

/-- Regulation moves the offset by one step at most and never past max adjust (R15). -/
theorem regulated_bounded (p : Profile) (delta : Int) {offset : Int} (low : -(p.maxAdjust : Int) ≤ offset)
    (high : offset ≤ p.maxAdjust) :
    -(p.maxAdjust : Int) ≤ regulated p delta offset ∧ regulated p delta offset ≤ p.maxAdjust := by
  unfold regulated
  (repeat' split) <;> omega

theorem closeRegulate_reaches (q : Measured) (s : State) : Reaches sums own s (closeRegulate q s) :=
  reaches_when fun _ => .single (.offset _ s fun bounded => regulated_bounded _ _ bounded.1 bounded.2)

theorem closeMalformed_reaches (q : Measured) (s : State) : Reaches sums own s (closeMalformed q s) :=
  reaches_ite (fun _ => endMalformedRun_reaches _) fun _ => (updDrum_reaches _ s (by rfl) (by rfl)).trans
    ((report_reaches ..).trans (reaches_ite (fun _ => handCondition_reaches (by decide) _) fun _ => .refl))

theorem closeCount_reaches (s : State) : Reaches sums own s (closeCount s) := reaches_when fun _ => updDrum_reaches _ _ (by rfl) (by rfl)

theorem forceReversal_reaches (q : Measured) (iBase : Nat) (s : State) : Reaches sums own s (forceReversal q iBase s) :=
  (updDrum_reaches _ s (by rfl) (by rfl)).trans ((mestTangle_reaches _).trans ((report_reaches ..).trans ((raiseFlag_reaches _ _).trans
    (reaches_when fun _ => report_reaches ..))))

theorem closeTangle_reaches (q : Measured) (s : State) : Reaches sums own s (closeTangle q s).1 := by
  unfold closeTangle
  split
  · exact .refl
  · split
    · dsimp only
      exact updDrum_reaches _ _ (by rfl) (by rfl)
    · dsimp only
      split
      · split
        · exact (updDrum_reaches _ s (by rfl) (by rfl)).trans (forceReversal_reaches _ _ _)
        · dsimp only
          exact updDrum_reaches _ _ (by rfl) (by rfl)
      · dsimp only
        exact updDrum_reaches _ _ (by rfl) (by rfl)

theorem closeTurn_reaches (forced : Bool) (s : State) : Reaches sums own s (closeTurn forced s) :=
  reaches_unless fun _ => reaches_ite (fun _ => enterDecel_reaches _ _) fun _ => reaches_ite
    (fun _ => reaches_when fun _ => drumStop_reaches _) fun _ => reaches_when fun _ => enterDecel_reaches _ _

theorem closeRevolution_reaches (elapsed : Nat) (o : OpenRev) (m : Nat) {k sum : Nat} (hsum : sums → sum ≤ 65535 * k)
    (s : State) : Reaches sums own s (closeRevolution elapsed o m k sum s) :=
  (closeLock_reaches _ s).trans ((closeRegulate_reaches _ _).trans ((closeMalformed_reaches _ _).trans
    ((fold_reaches _ _ hsum _).trans (.head (.history _ _) ((closeCount_reaches _).trans
      ((closeTangle_reaches _ _).trans (closeTurn_reaches _ _)))))))

theorem endAccel_reaches (s : State) : Reaches sums own s (endAccel s) :=
  reaches_when fun _ => (updDrum_reaches _ s (by rfl) (by rfl)).trans (sendDrumToSaa_reaches _ _)

theorem drumMarker_reaches (elapsed m : Nat) {k sum : Nat} (hsum : sums → sum ≤ 65535 * k) (s : State) :
    Reaches sums own s (drumMarker elapsed m k sum s) := by
  refine reaches_when fun _ => .trans (reaches_when (p := s.drum.state.driven = true) fun _ => updDrum_reaches
    (fun d => { d with stallTimer := some (s.profile.stallTime * 1000) }) s (by rfl) (by rfl))
    (.trans ?_ ((endAccel_reaches _).trans (updDrum_reaches _ _ (by rfl) (by rfl))))
  split <;> split
  · exact closeRevolution_reaches _ _ _ hsum _
  · exact .refl
  · exact closeRevolution_reaches _ _ _ hsum _
  · exact .refl

theorem stallExpires_reaches (s : State) : Reaches sums own s (stallExpires s) :=
  reaches_unless fun _ => (updDrum_reaches _ s (by rfl) (by rfl)).trans
    (reaches_ite (fun _ => .refl) fun _ => handCondition_reaches (by decide) _)

end Sys2Proof.Machine
end

section
/-! SUPPORT. CPX, the air path, TRIP, LINK and the requests as chains of changes, and with them every command that is no reset. -/

namespace Sys2Proof.Machine

variable {sums own : Prop} {s : State}

/-! ### CPX -/

theorem updCpx_reaches (f : Cpx → Cpx) (s : State) (hp : (f s.cpx).plan = s.cpx.plan)
    (hd : (f s.cpx).digest = s.cpx.digest) : Reaches sums own s (s.updCpx f) := .single (.cpx f s hp hd)

theorem reportChange_reaches (old : CycleState) (s : State) : Reaches sums own s (reportChange old s) := report_reaches ..

theorem enterCycle_reaches (new : CycleState) (s : State) : Reaches sums own s (enterCycle new s) :=
  (updCpx_reaches _ s (by rfl) (by rfl)).trans (reportChange_reaches _ _)

theorem enterPaused_reaches (cause : PauseCause) (s : State) : Reaches sums own s (enterPaused cause s) :=
  (updCpx_reaches _ s (by rfl) (by rfl)).trans ((hstgStop_reaches _ _).trans ((drumStop_reaches _).trans
    (.trans (reaches_unless fun _ => blowerRequest_reaches _ _) (reportChange_reaches _ _))))

theorem enterDone_reaches (reason : EndReason) (s : State) : Reaches sums own s (enterDone reason s) :=
  (updCpx_reaches _ s (by rfl) (by rfl)).trans ((enterCycle_reaches _ _).trans ((updCpx_reaches _ _ (by rfl) (by rfl)).trans ((hstgStop_reaches _ _).trans
    ((drumStop_reaches _).trans ((blowerRequest_reaches _ _).trans (mestWithdraw_reaches _))))))

theorem enterStarved_reaches (s : State) : Reaches sums own s (enterStarved s) :=
  (enterCycle_reaches _ s).trans ((report_reaches ..).trans ((raiseFlag_reaches _ _).trans ((hstgStarved_reaches _).trans
    ((mestWithdraw_reaches _).trans ((updCpx_reaches _ _ (by rfl) (by rfl)).trans (reaches_unless fun _ => enterPaused_reaches _ _))))))

theorem stageStarted_reaches (r : StageRec) (s : State) : Reaches sums own s (stageStarted r s) :=
  (updCpx_reaches _ s (by rfl) (by rfl)).trans ((hstgStageStart_reaches _ _).trans ((drumStageStart_reaches _ _ _ _).trans
    (.trans (reaches_ite (fun _ => drumStop_reaches _) fun _ => runRequest_reaches _)
      ((mestStageStart_reaches _ _).trans ((blowerRequest_reaches _ _).trans
        ((report_reaches ..).trans (raiseFlag_reaches _ _)))))))

/-- A stage start sets CPX's own fields of it and leaves the buffer (R134 step 1). -/
theorem stageStarted_cpx (r : StageRec) (s : State) :
    (stageStarted r s).cpx =
      { s.cpx with stageActive := true, ordinal := bump 65535 s.cpx.ordinal, stageElapsed := 0, dryLatched := false } := by
  unfold stageStarted
  by_cases guard : r.kind = .guard <;> simp [guard]

theorem dropHead_reaches (reason : ExitReason) {r : StageRec} {rest : List StageRec} {s : State} (h : s.cpx.plan = r :: rest) :
    Reaches sums own s (dropHead reason rest s) := (updCpx_reaches _ s (by rfl) (by rfl)).tail (.headDropped r rest _ h)

theorem startStages_reaches {l : List StageRec} {s : State} (h : s.cpx.plan = l) : Reaches sums own s (startStages l s) := by
  induction l generalizing s with
  | nil => exact .refl
  | cons r rest ih =>
    have dropped : Reaches sums own (stageStarted r s) (dropHead .door rest (drumStop (stageStarted r s))) :=
      (drumStop_reaches _).trans (dropHead_reaches _ (r := r) (by simp [stageStarted_cpx, h]))
    refine (stageStarted_reaches r s).trans (reaches_unless fun _ => reaches_ite (fun _ => dropped.trans
      (reaches_ite (fun _ => enterDone_reaches _ _) fun _ => ?_)) fun _ => enterPaused_reaches _ _)
    cases rest with
    | nil => exact enterStarved_reaches _
    | cons r' rest => exact ih rfl

theorem startHead_reaches (s : State) : Reaches sums own s (startHead s) := startStages_reaches rfl

theorem retire_reaches (reason : ExitReason) (s : State) : Reaches sums own s (retire reason s) := by
  unfold retire
  split
  · exact .refl
  · next r rest h =>
    refine .trans (reaches_when (p := r.kind = .dry ∧ reason = .time) fun _ => report_reaches ..)
      ((dropHead_reaches reason (r := r) ?_).trans (reaches_ite (fun _ => enterDone_reaches _ _) fun _ => ?_))
    · split <;> simp [h]
    · cases rest with
      | nil => exact enterStarved_reaches _
      | cons r' rest => exact startHead_reaches _

theorem judgeCooled_reaches (v : Int) (valid : Bool) (s : State) : Reaches sums own s (judgeCooled v valid s) := by
  unfold judgeCooled
  split
  · exact reaches_when fun _ => retire_reaches _ _
  · exact .refl

theorem cpxDoorOpened_reaches (s : State) : Reaches sums own s (cpxDoorOpened s) := by
  unfold cpxDoorOpened
  split
  · split
    · exact reaches_ite (fun _ => (drumStop_reaches _).trans (retire_reaches _ _)) fun _ => enterPaused_reaches _ _
    · exact enterPaused_reaches _ _
  · exact enterPaused_reaches _ _
  all_goals exact .refl

theorem dryReached_reaches (ordinal : Nat) (s : State) : Reaches sums own s (dryReached ordinal s) := by
  unfold dryReached
  split
  · exact .refl
  · refine reaches_when fun _ => ?_
    split
    · exact reaches_ite (fun _ => retire_reaches _ _) fun _ => updCpx_reaches _ _ (by rfl) (by rfl)
    · exact updCpx_reaches _ _ (by rfl) (by rfl)
    · exact updCpx_reaches _ _ (by rfl) (by rfl)
    all_goals exact .refl

theorem cpxFault_reaches (s : State) : Reaches sums own s (cpxFault s) := by
  have faulted : Reaches sums own s (enterCycle .faulted (s.updCpx fun c => { c with starve := none, pauseCause := none })) :=
    (updCpx_reaches _ s (by rfl) (by rfl)).trans (enterCycle_reaches _ _)
  unfold cpxFault
  split <;> first | exact faulted | exact .refl

theorem cpxSilence_reaches (s : State) : Reaches sums own s (cpxSilence s) := by
  unfold cpxSilence
  split <;> first | exact enterPaused_reaches _ _ | exact .refl

theorem judgeCount_reaches (s : State) : Reaches sums own s (judgeCount s) := by
  unfold judgeCount
  split
  · exact .refl
  · exact reaches_ite (fun _ => retire_reaches _ _) fun _ => reaches_ite (fun _ => retire_reaches _ _) fun _ =>
      reaches_when fun _ => burstRequest_reaches _

theorem countSecond_reaches (s : State) : Reaches sums own s (countSecond s) := by
  unfold countSecond
  split
  · exact (updCpx_reaches _ s (by rfl) (by rfl)).trans (judgeCount_reaches _)
  · exact updCpx_reaches _ _ (by rfl) (by rfl)
  all_goals exact .refl

theorem starveExpires_reaches (s : State) : Reaches sums own s (starveExpires s) := by
  unfold starveExpires
  split
  · exact reaches_when fun _ => enterDone_reaches _ _
  · exact .refl

/-- The records a PLAN_APPEND is taken with are FINAL at most at their last (R131 step 4). -/
theorem checkStages_final {idx : Nat} {bss : List (List Byte)} {rs : List StageRec} (h : checkStages idx bss = .ok rs) :
    rs.length = bss.length ∧ ∀ r ∈ rs.dropLast, r.final = false := by
  induction bss generalizing idx rs with
  | nil =>
    obtain rfl : [] = rs := by simpa [checkStages] using h
    simp
  | cons bs rest ih =>
    simp only [checkStages] at h
    split at h
    · cases h
    · next r _ =>
      split at h
      · cases h
      · next inRange =>
        split at h
        · cases h
        · next rs' rest_ok =>
          obtain rfl : r :: rs' = rs := by simpa using h
          obtain ⟨len, final⟩ := ih rest_ok
          refine ⟨by simp [len], fun r' mem => ?_⟩
          cases rs' with
          | nil => simp at mem
          | cons r'' rs'' =>
            rw [List.dropLast_cons_cons] at mem
            obtain rfl | mem := List.mem_cons.mp mem
            · have more : rest.isEmpty = false := by cases rest <;> simp_all
              by_contra isFinal
              rw [Bool.not_eq_false] at isFinal
              simp [stageFault, more, isFinal] at inRange
            · exact final r' mem

theorem chunks_length (w n : Nat) (bs : List Byte) : (chunks w n bs).length = n := by
  induction n generalizing bs with
  | zero => rfl
  | succ n ih => simp [chunks, ih]

theorem ownPlanAppend_reaches (payload : List Byte) (s : State) : Reaches sums own s (ownPlanAppend payload s).1 := by
  unfold ownPlanAppend
  dsimp only
  split
  · exact .refl
  · split
    · exact .refl
    · next room =>
      split
      · exact .refl
      · next noFinal =>
        split
        · exact .refl
        · next rs ok =>
          obtain ⟨len, final⟩ := checkStages_final ok
          rw [chunks_length] at len
          refine .head (.planJoined (rs.map fun r =>
            if r.kind.heats then { r with exhaustTarget := clampTarget s.profile r } else r) s ?_ ?_ ?_) ?_
          · simpa [len, Config.planCapacity] using room
          · simpa using noFinal
          · rw [← List.map_dropLast]
            intro r mem
            obtain ⟨r', mem', rfl⟩ := List.mem_map.mp mem
            split <;> exact final r' mem'
          · dsimp only
            split
            · exact enterCycle_reaches _ _
            · exact (updCpx_reaches _ _ (by rfl) (by rfl)).trans ((enterCycle_reaches _ _).trans (startHead_reaches _))
            all_goals exact .refl

theorem ownPlanClear_reaches (s : State) : Reaches sums own s (ownPlanClear s).1 := by
  have emptied : Reaches sums own s ((setPlan [] s).updCpx fun c => { c with stageActive := false }) :=
    .head (.planEmptied s) (updCpx_reaches _ _ (by rfl) (by rfl))
  unfold ownPlanClear
  split
  · exact emptied
  · exact emptied.trans (enterCycle_reaches _ _)
  all_goals exact .refl

theorem ownStart_reaches (s : State) : Reaches sums own s (ownStart s).1 := by
  unfold ownStart
  split
  · exact .refl
  · split
    · exact .refl
    · split
      · exact .refl
      · exact (updCpx_reaches _ s (by rfl) (by rfl)).trans (.head (.historyCleared _) ((mestStart_reaches _).trans
          ((blowerRequest_reaches _ _).trans ((enterCycle_reaches _ _).trans (startHead_reaches _)))))

theorem ownPause_reaches (s : State) : Reaches sums own s (ownPause s).1 := by
  unfold ownPause
  split <;> first | exact enterPaused_reaches _ _ | exact .refl

theorem resumeStage_reaches (r : StageRec) (s : State) : Reaches sums own s (resumeStage r s) :=
  (updCpx_reaches _ s (by rfl) (by rfl)).trans ((mestResume_reaches _).trans ((drumResume_reaches _).trans
    (.trans (reaches_unless fun _ => runRequest_reaches _) ((hstgResume_reaches _ _).trans
      ((blowerRequest_reaches _ _).trans (reportChange_reaches _ _))))))

theorem resumeStarved_reaches (s : State) : Reaches sums own s (resumeStarved s) :=
  (updCpx_reaches _ s (by rfl) (by rfl)).trans ((mestResume_reaches _).trans ((drumResume_reaches _).trans
    (.trans (reaches_unless fun _ => runRequest_reaches _) ((hstgResume_reaches _ _).trans
      ((blowerRequest_reaches _ _).trans ((updCpx_reaches _ _ (by rfl) (by rfl)).trans (reportChange_reaches _ _)))))))

theorem resumeHead_reaches (s : State) : Reaches sums own s (resumeHead s) :=
  (enterCycle_reaches _ s).trans ((blowerRequest_reaches _ _).trans (startHead_reaches _))

theorem clearHeld_of_held {e : TripEntry} (h : e.state = .held) : clearHeld e = { e with state := .clear } := by
  simp [clearHeld, h]

theorem ownResume_reaches (s : State) : Reaches sums own s (ownResume s).1 := by
  have resumes (u : State) : Reaches sums own u
      (match currentStage u.cpx with
        | some r => resumeStage r u
        | none => if u.cpx.plan.isEmpty then resumeStarved u else resumeHead u) := by
    split
    · exact resumeStage_reaches _ _
    · exact reaches_ite (fun _ => resumeStarved_reaches _) fun _ => resumeHead_reaches _
  unfold ownResume
  split
  · exact .refl
  · split
    · exact .refl
    · split
      · exact .refl
      · split
        · exact .refl
        · dsimp only
          refine .head (.heldCleared (if s.trip.hostSilent.state = .held then
            { s.trip with hostSilent := { s.trip.hostSilent with state := .clear } } else s.trip) s fun c => ?_)
            ((updCpx_reaches (fun c => { c with pauseCause := none }) _ (by rfl) (by rfl)).trans ?_)
          · split
            · next held =>
              cases c <;> first | exact .inl rfl | exact .inr (clearHeld_of_held held).symm
            · exact .inl rfl
          · exact resumes _

theorem ownAbort_reaches (s : State) : Reaches sums own s (ownAbort s).1 := by
  unfold ownAbort
  split <;> first | exact enterDone_reaches _ _ | exact .refl

theorem ownAdvance_reaches (s : State) : Reaches sums own s (ownAdvance s).1 := by
  unfold ownAdvance
  split <;> first | exact retire_reaches _ _ | exact .refl

theorem closeCycle_reaches (s : State) : Reaches sums own s (closeCycle s) :=
  (updCpx_reaches _ s (by rfl) (by rfl)).trans (.head (.planEmptied _) ((mestWithdraw_reaches _).trans ((hstgClose_reaches _).trans
    (enterCycle_reaches _ _))))

theorem ownCycleClose_reaches (s : State) : Reaches sums own s (ownCycleClose s).1 := by
  unfold ownCycleClose
  split
  · exact closeCycle_reaches _
  · split
    · exact .refl
    · exact closeCycle_reaches _
  all_goals exact .refl

/-- What passes the RANGE check keeps the offset's bounds, and F fits its field of two bytes (R161 step 7). -/
theorem rangeContext_some {p : Profile} {head : StageRec} {c : ContextRec} {l : LoadedContext}
    (h : rangeContext p head c = some l) :
    (-(p.maxAdjust : Int) ≤ l.offset ∧ l.offset ≤ p.maxAdjust) ∧ ∀ v, l.f = some v → v = c.fValue := by
  unfold rangeContext at h
  split at h
  · split at h
    · next ok =>
      obtain rfl := Option.some.inj h
      refine ⟨⟨ok.1, ok.2.1⟩, fun v hv => ?_⟩
      dsimp only at hv
      split at hv
      · exact (Option.some.inj hv).symm
      · cases hv
    · cases h
  · cases h

theorem byteAt_lt (bs : List Byte) (i : Nat) : byteAt bs i < 256 := (bs.getD i 0).isLt

theorem wordAt_lt (bs : List Byte) (i : Nat) : wordAt bs i < 65536 := by
  have high := byteAt_lt bs i
  have low := byteAt_lt bs (i + 1)
  unfold wordAt
  omega

theorem loadContext_reaches {payload : List Byte} {l : LoadedContext} {head : StageRec} {s : State}
    (h : rangeContext s.profile head (contextOf payload) = some l) :
    Reaches sums own s (loadContext (contextOf payload) l head s) := by
  obtain ⟨⟨low, high⟩, value⟩ := rangeContext_some h
  refine (updCpx_reaches _ s (by rfl) (by rfl)).trans ((mestLoad_reaches _ (fun v hv => ?_) _ _ _).trans ((drumLoad_reaches _ _ _ _ _ ?_ ?_).trans
    ((hstgLoad_reaches _ _ _).trans ((updCpx_reaches _ _ (by rfl) (by rfl)).trans (enterCycle_reaches _ _)))))
  · rw [value v hv]
    exact Nat.le_of_lt_succ (wordAt_lt _ _)
  · exact low
  · exact high

theorem ownContextLoad_reaches (payload : List Byte) (s : State) : Reaches sums own s (ownContextLoad payload s).1 := by
  unfold ownContextLoad
  dsimp only
  (repeat' split) <;> first | exact .refl | exact loadContext_reaches ‹_›

/-! ### The air path -/

theorem exhaustConverted_reaches (raw : Int) (s : State) : Reaches sums own s (exhaustConverted raw s) := by
  refine (updAtu_reaches (fun a => { a with exhaust := channelAfter raw a.exhaust }) s id).trans
    ((judgeSensor_reaches _ _ _).trans (.trans (reaches_when fun _ => (judgeFire_reaches _).trans (judgeRunOn_reaches _))
      ((hstgExhaust_reaches _ _).trans (judgeCooled_reaches _ _ _))))

theorem inletConverted_reaches (raw : Int) (s : State) : Reaches sums own s (inletConverted raw s) :=
  (updAtu_reaches (fun a => { a with inlet := channelAfter raw a.inlet }) s id).trans
    ((judgeSensor_reaches _ _ _).trans (hstgInlet_reaches _ _ _))

end Sys2Proof.Machine
end

section
/-! SUPPORT. Inputs, TRIP, SAA, LINK and PROF as chains of changes, and with them every command that is no reset. -/

namespace Sys2Proof.Machine

variable {sums own : Prop} {s : State}

/-! ### The debounced inputs -/

/-- The door as its debounce timer leaves it. -/
def doorSettled (a : Atu) : Atu := { a with door := { a.door with timer := none, settled := some a.door.raw } }

/-- The high-limit input as its debounce timer leaves it. -/
def highLimitSettled (a : Atu) : Atu :=
  { a with highLimit := { a.highLimit with timer := none, settled := some a.highLimit.raw } }

/-- A door that settles otherwise than from CLOSED to OPEN leaves an open gate open. -/
theorem doorSettled_reaches {s : State} (h : s.atu.door.settled = some .closed → s.atu.door.raw = .closed) :
    Reaches sums own s (s.updAtu doorSettled) :=
  updAtu_reaches _ s fun gate => by
    obtain ⟨blower, airflow, highLimit, door⟩ := (energizeGate_iff _).mp gate
    exact (energizeGate_iff _).mpr ⟨blower, airflow, highLimit, congrArg some (h door)⟩

theorem highLimitSettled_reaches {s : State} (h : s.atu.highLimit.settled = some .closed → s.atu.highLimit.raw = .closed) :
    Reaches sums own s (s.updAtu highLimitSettled) :=
  updAtu_reaches _ s fun gate => by
    obtain ⟨blower, airflow, highLimit, door⟩ := (energizeGate_iff _).mp gate
    exact (energizeGate_iff _).mpr ⟨blower, airflow, congrArg some (h highLimit), door⟩

theorem doorOpened_reaches (s : State) : Reaches sums own s (doorOpened (s.updAtu doorSettled)) := by
  have blower : Reaches sums own s
      (if s.atu.blower = .off then s.updAtu doorSettled else enterOff (s.updAtu doorSettled)) :=
    reaches_ite (fun off => updAtu_reaches _ s fun gate => by rw [energizeGate_blower gate] at off; cases off)
      fun _ => enterOff_updAtu_reaches rfl
  unfold doorOpened
  exact blower.trans ((cpxDoorOpened_reaches _).trans (hstgStop_reaches _ _))

theorem doorDebounced_reaches (s : State) : Reaches sums own s (doorDebounced s) := by
  unfold doorDebounced
  refine reaches_unless fun _ => ?_
  dsimp only
  split
  · exact doorOpened_reaches s
  · next was now => exact (doorSettled_reaches fun _ => now).trans (rerequest_reaches _)
  · next was now => exact doorSettled_reaches fun _ => now
  all_goals next was now => exact doorSettled_reaches fun closed => by rw [was] at closed; cases closed

theorem highLimitDebounced_reaches (s : State) : Reaches sums own s (highLimitDebounced s) := by
  unfold highLimitDebounced
  refine reaches_unless fun _ => ?_
  dsimp only
  split
  · rw [handCondition, hstgStop_tripMsg, hstgStop_updAtu]
    refine (hstgStop_reaches false s).trans (.head (.atu highLimitSettled _ fun _ => .inr fun e => ?_)
      (handCondition_reaches (by decide) _))
    exact ElementState.energized_of_not_counted (hstgStop_not_counted false s e)
  · next was now =>
    exact (highLimitSettled_reaches fun closed => by rw [was] at closed; cases closed).trans (handCondition_reaches (by decide) _)
  · next was now =>
    exact (highLimitSettled_reaches fun _ => now).trans ((handConditionEnd_reaches (by decide) _).trans (rerequest_reaches _))
  · next was now => exact highLimitSettled_reaches fun _ => now
  all_goals next was now => exact highLimitSettled_reaches fun closed => by rw [was] at closed; cases closed

theorem levelChange_settled (level : Level) (i : DebouncedInput) : (levelChange level i).settled = i.settled := by
  unfold levelChange
  split <;> rfl

/-! ### TRIP -/

theorem stopEffects_reaches (severe : Bool) (s : State) : Reaches sums own s (stopEffects severe s) := by
  have working : Reaches sums own s (blowerRequest (if severe then .off else .runOn) (drumStop (hstgStop true (cpxFault s)))) :=
    (cpxFault_reaches s).trans ((hstgStop_reaches _ _).trans ((drumStop_reaches _).trans (blowerRequest_reaches _ _)))
  have idle : Reaches sums own s (if severe then blowerRequest .off (cpxFault s) else cpxFault s) :=
    reaches_ite (fun _ => (cpxFault_reaches s).trans (blowerRequest_reaches _ _)) fun _ => cpxFault_reaches s
  unfold stopEffects
  split <;> first | exact working | exact idle

theorem classEffects_reaches (c : TripCause) (s : State) : Reaches sums own s (classEffects c s) := by
  unfold classEffects
  split
  · exact stopEffects_reaches _ _
  · exact stopEffects_reaches _ _
  · exact cpxSilence_reaches _

theorem takeCondition_reaches {c : TripCause} {s : State}
    (oldest : s.paths.trip.find? (fun x => decide (x.cause = c)) = some ⟨c, false⟩) :
    Reaches sums own s (takeCondition c (tripMsgTaken ⟨c, false⟩ s)) := by
  refine .head (.conditionTaken c s.cpx.cycleElapsed s.cpx.ordinal s oldest) ?_
  have entry : ((tripMsgTaken ⟨c, false⟩ s).trip.get c) = s.trip.get c := rfl
  unfold takeCondition
  rw [entry]
  split
  · next active =>
    rw [State.updTrip, conditionEntered, if_pos (show ((tripMsgTaken ⟨c, false⟩ s).trip.get c).state = .active from active)]
  · next notActive =>
    rw [State.updTrip, conditionEntered, if_neg (show ¬ ((tripMsgTaken ⟨c, false⟩ s).trip.get c).state = .active from notActive)]
    exact (report_reaches ..).trans ((raiseFlag_reaches _ _).trans (classEffects_reaches _ _))

theorem takeConditionEnd_reaches {c : TripCause} {s : State}
    (oldest : s.paths.trip.find? (fun x => decide (x.cause = c)) = some ⟨c, true⟩) :
    Reaches sums own s (takeConditionEnd c (tripMsgTaken ⟨c, true⟩ s)) := by
  refine .head (.endTaken c s oldest) ?_
  have entry : ((tripMsgTaken ⟨c, true⟩ s).trip.get c) = s.trip.get c := rfl
  unfold takeConditionEnd
  rw [entry]
  split
  · next active =>
    rw [State.updTrip, endEntered, if_pos (show ((tripMsgTaken ⟨c, true⟩ s).trip.get c).state = .active from active)]
    exact report_reaches ..
  · next notActive =>
    rw [State.updTrip, endEntered, if_neg (show ¬ ((tripMsgTaken ⟨c, true⟩ s).trip.get c).state = .active from notActive)]

theorem takeTripMsg_reaches (m : TripMsg) (s : State) : Reaches sums own s (takeTripMsg m (tripTakes m) s) := by
  obtain ⟨c, ends⟩ := m
  refine reaches_when fun oldest => ?_
  cases ends
  · exact takeCondition_reaches oldest
  · exact takeConditionEnd_reaches oldest

theorem settleSilence_reaches (n : Nat) (ms : List TripMsg) (s : State) : Reaches sums own s (settleSilence n ms s) := by
  induction ms generalizing n s with
  | nil => cases n <;> exact .refl
  | cons m ms ih =>
    cases n with
    | zero => exact .refl
    | succ n => exact reaches_ite (fun _ => (takeTripMsg_reaches m s).trans (ih _ _)) fun _ => ih _ _

theorem settleFor_reaches (f : InFrame) (s : State) : Reaches sums own s (settleFor f s) := settleSilence_reaches _ _ _

theorem ownTripClear_reaches (payload : List Byte) (s : State) : Reaches sums own s (ownTripClear payload s).1 := by
  unfold ownTripClear
  dsimp only
  split
  · exact .single (.heldCleared (heldCleared s.trip) s fun c => .inr (heldCleared_get s.trip c ▸ rfl))
  · split
    · exact .refl
    · next c _ =>
      split
      · exact .refl
      · refine .single (.heldCleared (s.trip.set c (clearHeld (s.trip.get c))) s fun c' => ?_)
        rw [TripTable.get_set]
        split
        · next same => exact .inr (same ▸ rfl)
        · exact .inl rfl

/-! ### SAA -/

theorem updSaa_reaches (f : Saa → Saa) (s : State) : Reaches sums own s (s.updSaa f) := .single (.saa f s)

theorem grantElement_reaches (e : Element) (current : Nat) (s : State) : Reaches sums own s (grantElement e current s) :=
  (updSaa_reaches _ s).trans (sendToHstg_reaches _ _)

theorem serveHeads_reaches (n : Nat) (s : State) : Reaches sums own s (serveHeads n s) := by
  induction n generalizing s with
  | zero => exact .refl
  | succ n ih =>
    unfold serveHeads
    split
    · exact .refl
    · exact reaches_when fun _ => (updSaa_reaches _ s).trans ((grantElement_reaches _ _ _).trans (ih _))

theorem serveQueue_reaches (s : State) : Reaches sums own s (serveQueue s) := reaches_unless fun _ => serveHeads_reaches _ _

theorem shedEntry_reaches (e : Element) (s : State) : Reaches sums own s (shedEntry e s) :=
  (updSaa_reaches _ s).trans (sendToHstg_reaches _ _)

theorem shedUntil_reaches (need : Int) (es : List Element) (s : State) : Reaches sums own s (shedUntil need es s) := by
  induction es generalizing s with
  | nil => exact .refl
  | cons e es ih => exact reaches_unless fun _ => (shedEntry_reaches e s).trans (ih _)

theorem grantSurge_reaches (s : State) : Reaches sums own s (grantSurge s) := by
  refine (updSaa_reaches (fun a => { a with surge := .granted, grantTimer := none }) s).trans ?_
  unfold grantSurge
  split
  · exact sendToDrum_reaches _ _
  · exact .refl

theorem recheckSurge_reaches (s : State) : Reaches sums own s (recheckSurge s) :=
  reaches_when fun _ => (grantSurge_reaches _).trans (serveQueue_reaches _)

theorem surgeAsked_reaches (n : Byte) (s : State) : Reaches sums own s (surgeAsked n s) := by
  unfold surgeAsked
  split
  · exact .refl
  · exact .refl
  · exact (updSaa_reaches (fun a => { a with txn := some n }) s).trans (reaches_ite (fun _ => grantSurge_reaches _) fun _ =>
      (updSaa_reaches _ _).trans ((shedUntil_reaches _ _ _).trans (reaches_ite
        (fun _ => (grantSurge_reaches _).trans (serveQueue_reaches _)) fun _ => updSaa_reaches _ _)))

theorem endSurge_reaches (s : State) : Reaches sums own s (endSurge s) := (updSaa_reaches _ s).trans (serveQueue_reaches _)

theorem surgeReleased_reaches (n : Byte) (s : State) : Reaches sums own s (surgeReleased n s) :=
  reaches_when fun _ => endSurge_reaches _

theorem surgeWithdrawn_reaches (n : Byte) (s : State) : Reaches sums own s (surgeWithdrawn n s) :=
  reaches_when fun _ => endSurge_reaches _

theorem elementAsked_reaches (e : Element) (current : Nat) (s : State) : Reaches sums own s (elementAsked e current s) :=
  reaches_unless fun _ => reaches_ite (fun _ => grantElement_reaches _ _ _) fun _ => updSaa_reaches _ _

theorem elementWithdrawn_reaches (e : Element) (s : State) : Reaches sums own s (elementWithdrawn e s) :=
  reaches_unless fun _ => reaches_when fun _ => (updSaa_reaches _ s).trans (reaches_when fun _ => serveQueue_reaches _)

theorem elementReleased_reaches (e : Element) (s : State) : Reaches sums own s (elementReleased e s) :=
  reaches_when fun _ => (updSaa_reaches _ s).trans (reaches_ite (fun _ => recheckSurge_reaches _) fun _ => serveQueue_reaches _)

theorem elementFreed_reaches (e : Element) (s : State) : Reaches sums own s (elementFreed e s) :=
  reaches_when fun _ => (updSaa_reaches _ s).trans (reaches_when fun _ => (shedEntry_reaches _ _).trans (recheckSurge_reaches _))

theorem grantTimerExpires_reaches (s : State) : Reaches sums own s (grantTimerExpires s) :=
  reaches_when fun _ => (updSaa_reaches _ s).trans ((shedUntil_reaches _ _ _).trans
    (.trans (reaches_when fun _ => grantSurge_reaches _) ((report_reaches ..).trans ((raiseFlag_reaches _ _).trans
      (serveQueue_reaches _)))))

theorem allowanceRaised_reaches (s : State) : Reaches sums own s (allowanceRaised s) :=
  reaches_ite (fun _ => recheckSurge_reaches _) fun _ => serveQueue_reaches _

theorem allowanceLowered_reaches (s : State) : Reaches sums own s (allowanceLowered s) :=
  (shedUntil_reaches _ _ s).trans (.trans (reaches_when fun _ => report_reaches ..) (allowanceRaised_reaches _))

theorem ownAllowanceSet_reaches (payload : List Byte) (s : State) : Reaches sums own s (ownAllowanceSet payload s).1 := by
  unfold ownAllowanceSet
  dsimp only
  split
  · exact .refl
  · exact .head (.allowance (wordAt payload 0) s) (reaches_ite (fun _ => allowanceLowered_reaches _) fun _ =>
      reaches_ite (fun _ => allowanceRaised_reaches _) fun _ => serveQueue_reaches _)

/-! ### PROF -/

theorem rangeFault_cons {idx lo hi v : Nat} {rs : List (Nat × Nat)} {vs : List Nat}
    (h : rangeFault idx ((lo, hi) :: rs) (v :: vs) = none) : (lo ≤ v ∧ v ≤ hi) ∧ rangeFault (idx + 1) rs vs = none := by
  unfold rangeFault at h
  split at h
  · cases h
  · next inRange => exact ⟨by omega, h⟩

/-- A profile that passes PROFILE_SET's checks has its window within a turn of at most 64 pulses, and its surge fits (R196). -/
theorem profileFault_none {p : Profile} (h : profileFault p = none) :
    p.windowStart + p.windowLen ≤ 64 ∧ p.baseLoad + p.surge ≤ p.allowance := by
  unfold profileFault at h
  split at h
  · cases h
  · next ranges =>
    have turn : p.tachPulses ≤ 64 := (rangeFault_cons ranges).1.2
    (repeat' split at h) <;> first | omega | cases h

theorem applyProfile_reaches {p : Profile} (hk : p.filterExp ≤ 7) (hw : p.windowStart + p.windowLen ≤ 64) (s : State) :
    Reaches sums True s (applyProfile p s) :=
  .head (.profile p s hk hw) ((hstgProfile_reaches (profileTaken p s)).tail
    (.link trivial (fun l => { l with silence := silenceAfter s.profile.silenceTimeout p.silenceTimeout l.silence }) _
      le_rfl le_rfl id .inl rfl))

theorem settleAccount_reaches (s : State) : Reaches sums own s (settleAccount s) :=
  (updSaa_reaches _ s).tail (.paths _ _ rfl)

theorem profileAccepted_reaches {p : Profile} (ok : profileFault p = none) (s : State) :
    Reaches sums True s (applyProfile (Profile.masked p) (settleAccount s)) := by
  have exponent : (Profile.masked p).filterExp ≤ 7 := Nat.le_of_lt_succ (Nat.mod_lt _ (by decide))
  exact (settleAccount_reaches s).trans (applyProfile_reaches exponent (profileFault_none ok).1 _)

theorem ownProfileSet_reaches (payload : List Byte) (s : State) : Reaches sums True s (ownProfileSet payload s).1 := by
  unfold ownProfileSet
  generalize profileOf payload = p
  split
  · exact .refl
  · split
    · exact .refl
    · next ok => exact profileAccepted_reaches ok s

theorem ownProfileStore_reaches {s : State} (notClosing : s.link.closing = .open) : Reaches sums own s (ownProfileStore s).1 := by
  have writing : (s.updProf fun f => { f with write := some (storedCopy f.active) }) =
      s.updProf fun f => { f with write := some (storedCopy s.profile) } := by simp only [State.updProf, State.profile]
  unfold ownProfileStore
  split
  · exact .refl
  · split
    · exact .refl
    · rw [writing]
      exact .single (.storeWriting (storedCopy s.profile) s notClosing)

theorem verifyStore_reaches (readBack : List Byte) (s : State) : Reaches sums own s (verifyStore readBack s) := by
  unfold verifyStore
  split
  · exact .refl
  · exact reaches_ite (fun _ => .head (.storeWritten _ _ s) (report_reaches ..)) fun _ =>
      .head (.storeWritten _ _ s) (report_reaches ..)

/-! ### LINK -/

/-- An update of LINK that leaves its two queues, the closing and the silence as they are. -/
theorem updLink_reaches (f : Link → Link) (s : State)
    (same : (f s.link).inbound = s.link.inbound ∧ (f s.link).reports = s.link.reports ∧
      (f s.link).closing = s.link.closing ∧ (f s.link).silentRaised = s.link.silentRaised) :
    Reaches sums True s (s.updLink f) := by
  obtain ⟨hi, hr, hc, hs⟩ := same
  exact .single (.link trivial f s (hi ▸ le_rfl) (hr ▸ le_rfl) (fun h => hc ▸ h) (fun h => .inl (hc ▸ h)) hs)

theorem inboundShrinks_reaches {rest : List InFrame} {s : State} (shorter : rest.length ≤ s.link.inbound.length) :
    Reaches sums True s (s.updLink fun l => { l with inbound := rest }) :=
  .single (.link trivial _ s shorter le_rfl id .inl rfl)

theorem putReply_reaches (kind tag : Byte) (code : ReplyCode) (s : State) : Reaches sums True s (putReply kind tag code s) :=
  updLink_reaches _ s (by exact ⟨rfl, rfl, rfl, rfl⟩)

theorem badFrame_reaches (reason : BadReason) (s : State) : Reaches sums True s (badFrame reason s) :=
  (updLink_reaches _ s (by exact ⟨rfl, rfl, rfl, rfl⟩)).trans (report_reaches ..)

theorem admitFrame_reaches (body : List Byte) (s : State) : Reaches sums True s (admitFrame body s) := by
  refine .head (.hostHeard trivial s) ((updLink_reaches (fun l => { l with rx := .hunt, gapTimer := none }) _ ⟨rfl, rfl, rfl, rfl⟩).trans ?_)
  exact reaches_unless fun _ => reaches_ite (fun _ => (updLink_reaches _ _ (by exact ⟨rfl, rfl, rfl, rfl⟩)).trans
    (report_reaches ..)) fun notFull =>
    .single (.frameJoins trivial _ _ (Nat.not_le.mp notFull))

theorem receive_reaches (b : Byte) (s : State) : Reaches sums True s (receive b s) := by
  unfold receive
  dsimp only
  split
  · exact reaches_when fun _ => updLink_reaches _ _ (by exact ⟨rfl, rfl, rfl, rfl⟩)
  · exact reaches_ite (fun _ => updLink_reaches _ _ (by exact ⟨rfl, rfl, rfl, rfl⟩)) fun _ => badFrame_reaches _ _
  · exact updLink_reaches _ _ (by exact ⟨rfl, rfl, rfl, rfl⟩)
  · exact updLink_reaches _ _ (by exact ⟨rfl, rfl, rfl, rfl⟩)
  · exact reaches_ite (fun _ => admitFrame_reaches _ _) fun _ => badFrame_reaches _ _

theorem answerBusy_reaches (s : State) : Reaches sums True s (answerBusy s) := by
  have answers {f : InFrame} {rest : List InFrame} (h : s.link.inbound = f :: rest) :
      Reaches sums True s (putReply f.kind f.tag .busy (s.updLink fun l => { l with inbound := rest })) :=
    (inboundShrinks_reaches (by simp [h])).trans (putReply_reaches _ _ _ _)
  unfold answerBusy
  split
  · exact answers ‹_›
  · exact answers ‹_›
  all_goals exact .refl

theorem sendReply_reaches (r : OutFrame) (s : State) : Reaches sums True s (sendReply r s) := by
  refine .head (.link trivial (fun l =>
    { l with slot := none, line := some (frameBytes r), closing := if l.closing = .accepted then .replyTaken else l.closing }) s
    le_rfl le_rfl (fun h => ?_) (fun h => ?_) rfl) (answerBusy_reaches _)
  · by_cases accepted : s.link.closing = .accepted <;> simp_all
  · by_cases accepted : s.link.closing = .accepted <;> simp_all

theorem frameBoundary_reaches (s : State) : Reaches sums True s (frameBoundary s) := by
  refine (updLink_reaches (fun l => { l with line := none }) s ⟨rfl, rfl, rfl, rfl⟩).trans ?_
  unfold frameBoundary
  dsimp only
  split
  · exact sendReply_reaches _ _
  · refine reaches_unless fun _ => ?_
    split
    · exact .refl
    · next h =>
      refine .single (.link trivial _ _ le_rfl ?_ id .inl rfl)
      dsimp only
      rw [h]
      split <;> simp

theorem ownLinkReset_reaches (s : State) : Reaches sums True s (ownLinkReset s).1 := by
  unfold ownLinkReset
  split
  · exact .refl
  · split
    · exact .refl
    · next notWriting =>
      exact .single (.link trivial (fun l => { l with closing := .accepted }) s le_rfl le_rfl (fun h => by cases h)
        (fun _ => .inr (by simpa using notWriting)) rfl)

theorem ownReportLevelSet_reaches (payload : List Byte) (s : State) : Reaches sums True s (ownReportLevelSet payload s).1 := by
  unfold ownReportLevelSet
  dsimp only
  split
  · exact .refl
  · dsimp only
    exact updLink_reaches _ _ (by exact ⟨rfl, rfl, rfl, rfl⟩)

theorem ownPatternSet_reaches (payload : List Byte) (s : State) : Reaches sums own s (ownPatternSet payload s).1 := by
  unfold ownPatternSet
  dsimp only
  (repeat' split) <;> dsimp only <;> first | exact .refl | exact updDrum_reaches _ _ (by rfl) (by rfl)

/-- LINK's own part is done by no other block: they hand it reports and set event flags. -/
theorem Change.link_quiet {s t : State} (h : Change sums False s t) :
    ∃ reports lost flags, t.link = { s.link with reports := reports, lost := lost, flags := flags } := by
  have same : ∃ reports lost flags, s.link = { s.link with reports := reports, lost := lost, flags := flags } := ⟨_, _, _, rfl⟩
  cases h with
  | reported src sev code data =>
    obtain ⟨reports, lost, link⟩ := report_link src sev code data s
    exact ⟨reports, lost, s.link.flags, link⟩
  | flagged g => exact ⟨s.link.reports, s.link.lost, s.link.flags.put g, rfl⟩
  | link own | frameJoins own | silenceRaised own | hostHeard own => exact own.elim
  | deenergized | energized => simpa using same
  | _ => exact same

theorem Reaches.link_quiet {s t : State} (h : Reaches sums False s t) :
    ∃ reports lost flags, t.link = { s.link with reports := reports, lost := lost, flags := flags } := by
  induction h with
  | refl => exact ⟨_, _, _, rfl⟩
  | tail _ change ih =>
    obtain ⟨_, _, _, before⟩ := ih
    obtain ⟨reports, lost, flags, after⟩ := change.link_quiet
    exact ⟨reports, lost, flags, by rw [after, before]⟩

/-- TRIP's messages taken on the way to an owner leave LINK as it was but for reports and event flags. -/
theorem settleFor_link (f : InFrame) (s : State) :
    ∃ reports lost flags, (settleFor f s).link = { s.link with reports := reports, lost := lost, flags := flags } :=
  (settleFor_reaches (sums := True) f s).link_quiet

theorem settleFor_closing (f : InFrame) (s : State) : (settleFor f s).link.closing = s.link.closing := by
  obtain ⟨_, _, _, link⟩ := settleFor_link f s
  rw [link]

theorem dueFrame_shorter {kind tag : Byte} {payload : List Byte} {l : Link} {f : InFrame} {rest : List InFrame}
    (due : dueFrame kind tag payload l = some (f, rest)) : rest.length ≤ l.inbound.length := by
  unfold dueFrame at due
  split at due
  · next hi =>
    split at due
    · obtain ⟨rfl, rfl⟩ := Prod.mk.inj (Option.some.inj due)
      simp [hi]
    · cases due
  · cases due

/-- A delivery is a chain of changes where its owner's part is one; the owner finds LINK open. -/
theorem serve_reaches {kind tag : Byte} {payload : List Byte} {owner : State → State × ReplyCode}
    (h : ∀ u, u.link.closing = .open → Reaches sums True u (owner u).1) (s : State) :
    Reaches sums True s (serve kind tag payload owner s) := by
  unfold serve
  split
  · exact .refl
  · next f rest due =>
    refine (inboundShrinks_reaches (dueFrame_shorter due)).trans ?_
    refine reaches_ite (fun _ => putReply_reaches _ _ _ _) fun notClosing => reaches_ite (fun _ => ?_) fun _ => putReply_reaches _ _ _ _
    exact (settleFor_reaches f _).trans ((h _ (by rw [settleFor_closing]; exact not_not.mp notClosing)).trans
      (putReply_reaches _ _ _ _))

theorem serveUnknown_reaches (kind tag : Byte) (payload : List Byte) (s : State) :
    Reaches sums True s (serveUnknown kind tag payload s) := by
  unfold serveUnknown
  split
  · exact .refl
  · next due =>
    exact reaches_unless fun _ => (inboundShrinks_reaches (dueFrame_shorter due)).trans (putReply_reaches _ _ _ _)

/-! ### Messages taken -/

theorem takeHstgMsg_reaches {m : HstgMsg} {act : State → State} (h : ∀ u, Reaches sums own u (act u)) (s : State) :
    Reaches sums own s (takeHstgMsg m act s) := by
  unfold takeHstgMsg
  split
  · exact reaches_when fun _ => .head (.paths _ s rfl) (h _)
  · exact .refl

theorem takeSaaMsg_reaches {m : SaaMsg} {act : State → State} (h : ∀ u, Reaches sums own u (act u)) (s : State) :
    Reaches sums own s (takeSaaMsg m act s) := by
  unfold takeSaaMsg
  split
  · exact reaches_when fun _ => .head (.paths _ s rfl) (h _)
  · exact .refl

theorem takeDrumMsg_reaches {m : DrumMsg} {act : State → State} (h : ∀ u, Reaches sums own u (act u)) (s : State) :
    Reaches sums own s (takeDrumMsg m act s) := by
  unfold takeDrumMsg
  split
  · exact reaches_when fun _ => .head (.paths _ s rfl) (h _)
  · exact .refl

theorem takeSurgeGrant_reaches {n : Byte} {act : State → State} (h : ∀ u, Reaches sums own u (act u)) (s : State) :
    Reaches sums own s (takeSurgeGrant n act s) := by
  unfold takeSurgeGrant
  split
  · exact reaches_when fun _ => .head (.paths _ s rfl) (h _)
  · exact .refl

theorem takeDry_reaches {n : Nat} {act : State → State} (h : ∀ u, Reaches sums own u (act u)) (s : State) :
    Reaches sums own s (takeDry n act s) := by
  unfold takeDry
  split
  · exact reaches_when fun _ => .head (.paths _ s rfl) (h _)
  · exact .refl

/-! ### The requests that only read -/

theorem ownPatternGet_state (payload : List Byte) (s : State) : (ownPatternGet payload s).1 = s := by
  unfold ownPatternGet
  dsimp only
  (repeat' split) <;> rfl

theorem ownPlanGet_state (payload : List Byte) (s : State) : (ownPlanGet payload s).1 = s := by
  unfold ownPlanGet
  dsimp only
  (repeat' split) <;> rfl

theorem ownHistoryGet_state (payload : List Byte) (s : State) : (ownHistoryGet payload s).1 = s := by
  unfold ownHistoryGet
  dsimp only
  split <;> rfl

theorem ownContextGet_state (s : State) : (ownContextGet s).1 = s := by
  unfold ownContextGet
  split <;> rfl

/-- A request that only reads is a delivery and no more. -/
theorem serve_reads_reaches {kind tag : Byte} {payload : List Byte} {owner : State → State × ReplyCode}
    (h : ∀ u, (owner u).1 = u) (s : State) : Reaches sums True s (serve kind tag payload owner s) :=
  serve_reaches (fun u _ => (h u).symm ▸ .refl) s

/-! ### Every command -/

/-- A command is a chain of changes, or resets the part: POWER_ON and BROWN_OUT with their own cause, the others with theirs. -/
theorem exec_reaches {c : Instr} {s t : State} (h : exec c s = .next t) :
    Reaches (s.efe.s ≤ 65535 * s.efe.k) True s t ∨
      ∃ cause, t = resetPart cause s ∧ (c = .powerOn ∨ c = .brownOut ∨ cause = .pin ∨ cause = .link) := by
  have only {u : State} (reached : Reaches (s.efe.s ≤ 65535 * s.efe.k) True s u) (same : Host.Outcome.next (φ := Fault) (ρ := Refusal) u = .next t) :
      Reaches (s.efe.s ≤ 65535 * s.efe.k) True s t := by
    injection same with same
    exact same ▸ reached
  cases c with
  | powerOn =>
    injection h with h
    exact .inr ⟨.powerOn, h.symm, .inl rfl⟩
  | brownOut =>
    injection h with h
    exact .inr ⟨.brownOut, h.symm, .inr (.inl rfl)⟩
  | pinReset =>
    injection h with h
    split at h
    · exact .inr ⟨.pin, h.symm, by simp⟩
    · exact .inl (h ▸ .refl)
  | linkResetFollows =>
    injection h with h
    split at h
    · exact .inr ⟨.link, h.symm, by simp⟩
    · exact .inl (h ▸ .refl)
  | rxByte b => exact .inl (only (receive_reaches b s) h)
  | gapTimerExpiry => exact .inl (only (reaches_when fun _ => badFrame_reaches _ _) h)
  | txFrameBoundary => exact .inl (only (frameBoundary_reaches s) h)
  | silenceTimerExpiry => exact .inl (only (reaches_unless fun _ => .single (.silenceRaised trivial s)) h)
  | unknownKindRequest kind tag payload => exact .inl (only (serveUnknown_reaches kind tag payload s) h)
  | profileSet tag payload => exact .inl (only (serve_reaches (fun u _ => ownProfileSet_reaches payload u) s) h)
  | profileStore tag payload => exact .inl (only (serve_reaches (fun u open_ => ownProfileStore_reaches open_) s) h)
  | allowanceSet tag payload => exact .inl (only (serve_reaches (fun u _ => ownAllowanceSet_reaches payload u) s) h)
  | reportLevelSet tag payload => exact .inl (only (serve_reaches (fun u _ => ownReportLevelSet_reaches payload u) s) h)
  | linkReset tag payload => exact .inl (only (serve_reaches (fun u _ => ownLinkReset_reaches u) s) h)
  | patternSet tag payload => exact .inl (only (serve_reaches (fun u _ => ownPatternSet_reaches payload u) s) h)
  | planAppend tag payload => exact .inl (only (serve_reaches (fun u _ => ownPlanAppend_reaches payload u) s) h)
  | planClear tag payload => exact .inl (only (serve_reaches (fun u _ => ownPlanClear_reaches u) s) h)
  | start tag payload => exact .inl (only (serve_reaches (fun u _ => ownStart_reaches u) s) h)
  | pause tag payload => exact .inl (only (serve_reaches (fun u _ => ownPause_reaches u) s) h)
  | resume tag payload => exact .inl (only (serve_reaches (fun u _ => ownResume_reaches u) s) h)
  | abort tag payload => exact .inl (only (serve_reaches (fun u _ => ownAbort_reaches u) s) h)
  | advance tag payload => exact .inl (only (serve_reaches (fun u _ => ownAdvance_reaches u) s) h)
  | cycleClose tag payload => exact .inl (only (serve_reaches (fun u _ => ownCycleClose_reaches u) s) h)
  | statusGet tag payload => exact .inl (only (serve_reaches (fun u _ => updLink_reaches (fun l => { l with flags := .clear }) u ⟨rfl, rfl, rfl, rfl⟩) s) h)
  | tripClear tag payload => exact .inl (only (serve_reaches (fun u _ => ownTripClear_reaches payload u) s) h)
  | contextLoad tag payload => exact .inl (only (serve_reaches (fun u _ => ownContextLoad_reaches payload u) s) h)
  | probe | profileGet | nop | trendGet | tripGet => exact .inl (only (serve_reads_reaches (fun _ => rfl) s) h)
  | patternGet tag payload => exact .inl (only (serve_reads_reaches (ownPatternGet_state payload) s) h)
  | planGet tag payload => exact .inl (only (serve_reads_reaches (ownPlanGet_state payload) s) h)
  | historyGet tag payload => exact .inl (only (serve_reads_reaches (ownHistoryGet_state payload) s) h)
  | contextGet tag payload => exact .inl (only (serve_reads_reaches ownContextGet_state s) h)
  | tachPulse current rawCount => exact .inl (only ((updDrum_reaches _ s (by rfl) (by rfl)).tail (.pulse rawCount.toNat _)) h)
  | indexMarker elapsed => exact .inl (only (.head (.marker s) (drumMarker_reaches _ _ id _)) h)
  | stopDetectExpiry => exact .inl (only (stopDetected_reaches s) h)
  | accelTimerExpiry => exact .inl (only (updDrum_reaches _ s (by rfl) (by rfl)) h)
  | dwellExpiry => exact .inl (only (reaches_when fun _ => endDwell_reaches s) h)
  | stallTimerExpiry => exact .inl (only (stallExpires_reaches s) h)
  | surgeGrant n => exact .inl (only (takeSurgeGrant_reaches (takeSurge_reaches n) s) h)
  | conversionComplete ch raw =>
    cases ch with
    | exhaust => exact .inl (only (exhaustConverted_reaches raw s) h)
    | inlet => exact .inl (only (inletConverted_reaches raw s) h)
    | pressure => exact .inl (only (pressureConverted_reaches raw s) h)
    | lineCurrent => exact .inl (only (lineConverted_reaches raw s) h)
  | inputLevelChange pin level =>
    refine .inl (only (updAtu_reaches _ s fun gate => ?_) h)
    obtain ⟨blower, airflow, highLimit, door⟩ := (energizeGate_iff _).mp gate
    cases pin with
    | door => exact (energizeGate_iff _).mpr ⟨blower, airflow, highLimit, (levelChange_settled _ _).trans door⟩
    | highLimit => exact (energizeGate_iff _).mpr ⟨blower, airflow, (levelChange_settled _ _).trans highLimit, door⟩
  | debounceExpiry pin =>
    cases pin with
    | door => exact .inl (only (doorDebounced_reaches s) h)
    | highLimit => exact .inl (only (highLimitDebounced_reaches s) h)
  | graceTimerExpiry =>
    exact .inl (only (reaches_unless fun _ => (updAtu_reaches _ s id).trans (raiseAirflow_reaches _)) h)
  | lowFlowExpiry =>
    exact .inl (only (reaches_unless fun _ => (updAtu_reaches _ s id).trans (raiseAirflow_reaches _)) h)
  | runOnTimerExpiry => exact .inl (only (reaches_when fun _ => enterOff_reaches s) h)
  | minOnExpiry e => exact .inl (only (minOnExpires_reaches e s) h)
  | minOffExpiry e => exact .inl (only (minOffExpires_reaches e s) h)
  | elementGrant e => exact .inl (only (takeSaaMsg_reaches (takeGrant_reaches e) s) h)
  | shed e => exact .inl (only (takeSaaMsg_reaches (takeShed_reaches e) s) h)
  | elementRequest e current => exact .inl (only (takeHstgMsg_reaches (elementAsked_reaches e current) s) h)
  | elementWithdrawal e => exact .inl (only (takeHstgMsg_reaches (elementWithdrawn_reaches e) s) h)
  | elementRelease e => exact .inl (only (takeHstgMsg_reaches (elementReleased_reaches e) s) h)
  | onFreeNotice e => exact .inl (only (takeHstgMsg_reaches (elementFreed_reaches e) s) h)
  | surgeRequest n => exact .inl (only (takeDrumMsg_reaches (surgeAsked_reaches n) s) h)
  | surgeRelease n => exact .inl (only (takeDrumMsg_reaches (surgeReleased_reaches n) s) h)
  | surgeWithdrawal n => exact .inl (only (takeDrumMsg_reaches (surgeWithdrawn_reaches n) s) h)
  | grantTimerExpiry => exact .inl (only (grantTimerExpires_reaches s) h)
  | oneSecondCount => exact .inl (only (countSecond_reaches s) h)
  | starveTimerExpiry => exact .inl (only (starveExpires_reaches s) h)
  | dryReachedSignal ordinal => exact .inl (only (takeDry_reaches (dryReached_reaches ordinal) s) h)
  | tripCondition c => exact .inl (only (takeTripMsg_reaches ⟨c, false⟩ s) h)
  | tripConditionEnd c => exact .inl (only (takeTripMsg_reaches ⟨c, true⟩ s) h)
  | storeVerify readBack => exact .inl (only (verifyStore_reaches readBack s) h)

/-! ### Every step -/

theorem step_cons {c : Instr} {rest : List Instr} {s : State} (h : s.pending = c :: rest) :
    step s = exec c { s with pending := rest } := by
  simp only [step, h]

theorem step_nil {s : State} (h : s.pending = []) : step s = .next s := by
  simp only [step, h]

/-- An invariant that reads nothing of the waiting commands, and that every change and every reset keeps, is kept by every step. A
reset's command is named, for the invariants that a loaded profile has to meet. -/
theorem step_keeps_of {P : State → Prop} {s t : State} (pending : ∀ u l, P u → P { u with pending := l })
    (change : ∀ u v, Change (s.efe.s ≤ 65535 * s.efe.k) True u v → P u → P v)
    (reset : ∀ cause c rest, s.pending = c :: rest → (c = .powerOn ∨ c = .brownOut ∨ cause = .pin ∨ cause = .link) →
      P { s with pending := rest } → P (resetPart cause { s with pending := rest })) (hs : P s) (h : step s = .next t) : P t := by
  cases hp : s.pending with
  | nil =>
    rw [step_nil hp] at h
    injection h with h
    exact h ▸ hs
  | cons c rest =>
    rw [step_cons hp] at h
    have start := pending s rest hs
    obtain reached | ⟨cause, rfl, named⟩ := exec_reaches h
    · exact reached.keeps change start
    · exact reset cause c rest hp named start

/-- The same for an invariant that every reset sets up by itself. -/
theorem step_keeps {P : State → Prop} (pending : ∀ u l, P u → P { u with pending := l })
    (change : ∀ sums u v, Change sums True u v → P u → P v) (reset : ∀ cause u, P u → P (resetPart cause u)) (s t : State)
    (hs : P s) (h : step s = .next t) : P t :=
  step_keeps_of pending (change _) (fun cause _ _ _ _ => reset cause _) hs h

end Sys2Proof.Machine
end

section
/-! SUPPORT. The invariants that every change keeps: the on-order list (R92), the gate (R100), the speed offset (R1), the queues, counts
and sums (R18, R43, R57, R61, R66, R130, R165, R181, R185), the plan and its digest (R130), and a closing LINK (R182). -/

namespace Sys2Proof.Machine

variable {sums own : Prop} {s t : State}

/-! ### The on-order list (R92) -/

theorem onOrderSound_of_hstg (h : t.hstg = s.hstg) (hs : onOrderSound s) : onOrderSound t := by
  unfold onOrderSound State.elem at hs ⊢
  rwa [h]

theorem onOrderSound_of_energized (ho : t.hstg.onOrder = s.hstg.onOrder)
    (he : ∀ e, (t.elem e).state.energized = (s.elem e).state.energized) (hs : onOrderSound s) : onOrderSound t := by
  unfold onOrderSound at hs ⊢
  simp only [ho, he]
  exact hs

theorem deenergize_elem (cause : OffCause) (e e' : Element) (s : State) :
    (deenergize cause e s).elem e' = if e' = e then
      { s.elem e with state := .offHold, requested := false, lastOff := cause, minOn := none,
                      minOff := some (s.profile.minOff * 1000) } else s.elem e' := by
  simp only [State.elem, deenergize, State.updElem, State.updHstg_hstg, Elements.get_set]

theorem deenergize_onOrder (cause : OffCause) (e : Element) (s : State) :
    (deenergize cause e s).hstg.onOrder = s.hstg.onOrder.erase e := rfl

theorem energize_elem (e e' : Element) (s : State) :
    (energize e s).elem e' = if e' = e then
      { s.elem e with state := .onHold, requested := false, onSince := some s.cpx.cycleElapsed,
                      onCount := bump 65535 (s.elem e).onCount, minOn := some (s.profile.minOn * 1000) } else s.elem e' := by
  simp only [State.elem, energize, State.updElem, State.updHstg_hstg, Elements.get_set]

theorem energize_onOrder (e : Element) (s : State) : (energize e s).hstg.onOrder = s.hstg.onOrder ++ [e] := rfl

theorem Change.keeps_onOrderSound (h : Change sums own s t) (hs : onOrderSound s) : onOrderSound t := by
  cases h with
  | hstg f s he ho => exact onOrderSound_of_energized ho (fun e => by simp only [State.elem, State.updHstg_hstg, he]) hs
  | elem e f s he =>
    refine onOrderSound_of_energized (s := s) rfl (fun e' => ?_) hs
    rw [State.elem_updElem]
    split
    · next same => rw [same, he]
    · rfl
  | deenergized cause e s =>
    obtain ⟨distinct, exactly⟩ := hs
    refine ⟨distinct.erase e, fun e' => ?_⟩
    rw [deenergize_onOrder, distinct.mem_erase_iff, deenergize_elem]
    by_cases same : e' = e <;> simp [same, exactly, ElementState.energized]
  | energized e s hw hg =>
    obtain ⟨distinct, exactly⟩ := hs
    have notOn : e ∉ s.hstg.onOrder := fun on => by
      have := (exactly e).mp on
      rw [hw] at this
      cases this
    refine ⟨?_, fun e' => ?_⟩
    · rw [energize_onOrder]
      exact List.nodup_append.mpr ⟨distinct, by simp, by simpa using fun e' on (same : e' = e) => notOn (same ▸ on)⟩
    · rw [energize_onOrder, energize_elem, List.mem_append]
      by_cases same : e' = e <;> simp [same, exactly, ElementState.energized]
  | _ => exact onOrderSound_of_hstg (by simp [profileTaken, tripMsgTaken]) hs

/-- No element is energized right after a reset (R110). -/
theorem resetPart_not_counted (cause : ResetCause) (s : State) (e : Element) :
    ((resetPart cause s).elem e).state.counted = false := by
  have fresh (p : Profile) : (ElementRec.afterReset p e).state.counted = false := by
    simp only [ElementRec.afterReset]
    split <;> rfl
  cases e <;> exact fresh _

theorem resetPart_not_energized (cause : ResetCause) (s : State) (e : Element) :
    ((resetPart cause s).elem e).state.energized = false :=
  ElementState.energized_of_not_counted (resetPart_not_counted cause s e)

/-- The state the model starts from is one a POWER_ON leaves (log entry 7). -/
theorem State.reset_eq : State.reset = resetPart .powerOn State.reset := by
  have empty : loadStore [] = (factoryProfile, .defaults, some 1) := by simp [loadStore, storeCheckFails]
  simp [resetPart, State.reset, State.fresh, storeAfterReset, empty, Atu.afterReset, DebouncedInput.afterReset]

theorem onOrderSound_resetPart (cause : ResetCause) (s : State) : onOrderSound (resetPart cause s) :=
  ⟨List.nodup_nil, fun e => by rw [resetPart_not_energized]; exact iff_of_false List.not_mem_nil Bool.false_ne_true⟩

/-- Settles O35: the list follows the two changes that switch an element. -/
theorem onOrderListHoldsTheEnergizedElements : Obligations.OnOrderListHoldsTheEnergizedElements :=
  ⟨State.reset_eq ▸ onOrderSound_resetPart _ _,
    step_keeps (fun _ _ h => h) (fun _ _ _ change h => change.keeps_onOrderSound h) fun cause u _ => onOrderSound_resetPart cause u⟩

/-! ### The gate (R100) -/

theorem heatGated_of_hstg_atu (hh : t.hstg = s.hstg) (ha : t.atu = s.atu) (hs : heatGated s) : heatGated t := by
  unfold heatGated State.elem at hs ⊢
  rwa [hh, ha]

theorem Change.keeps_heatGated (h : Change sums own s t) (hs : heatGated s) : heatGated t := by
  cases h with
  | atu f s hg =>
    intro e on
    obtain gate | none := hg (hs e on)
    · exact gate
    · exact absurd on (by rw [show (s.updAtu f).elem e = s.elem e from rfl, none e]; decide)
  | hstg f s he ho => exact fun e on => hs e (by simpa only [State.elem, State.updHstg_hstg, he] using on)
  | elem e f s he =>
    intro e' on
    refine hs e' ?_
    rw [State.elem_updElem] at on
    split at on
    · next same => rwa [same, ← he, ← same]
    · exact on
  | deenergized cause e s =>
    intro e' on
    rw [deenergize_elem] at on
    split at on
    · cases on
    · simpa using hs e' on
  | energized e s hw hg => exact fun _ _ => by simpa using hg
  | _ => exact heatGated_of_hstg_atu (by simp [profileTaken, tripMsgTaken]) (by simp [profileTaken, tripMsgTaken]) hs

theorem heatGated_resetPart (cause : ResetCause) (s : State) : heatGated (resetPart cause s) := fun e on => by
  rw [resetPart_not_energized] at on
  cases on

/-- Settles O36: an element is energized behind the open gate alone, and ATU loses the gate with no element on. -/
theorem heatOnlyBehindAnOpenGate : Obligations.HeatOnlyBehindAnOpenGate :=
  ⟨State.reset_eq ▸ heatGated_resetPart _ _,
    step_keeps (fun _ _ h => h) (fun _ _ _ change h => change.keeps_heatGated h) fun cause u _ => heatGated_resetPart cause u⟩

/-! ### The speed offset (R1) -/

theorem offsetBounded_of_eq (hp : t.profile.maxAdjust = s.profile.maxAdjust) (hd : t.drum.offset = s.drum.offset)
    (hs : offsetBounded s) : offsetBounded t := by
  unfold offsetBounded at hs ⊢
  rwa [hp, hd]

theorem clampInt_bounds {lo hi : Int} (h : lo ≤ hi) (v : Int) : lo ≤ clampInt lo hi v ∧ clampInt lo hi v ≤ hi := by
  unfold clampInt
  (repeat' split) <;> omega

theorem Change.keeps_offsetBounded (h : Change sums own s t) (hs : offsetBounded s) : offsetBounded t := by
  cases h with
  | drum f s ho hh => exact offsetBounded_of_eq (s := s) rfl ho hs
  | offset v s hv => exact hv hs
  | profile p s => exact clampInt_bounds (by omega) _
  | _ => exact offsetBounded_of_eq (by simp [State.profile_eq, tripMsgTaken]) (by simp [tripMsgTaken, closeHistory]) hs

theorem offsetBounded_resetPart (cause : ResetCause) (s : State) : offsetBounded (resetPart cause s) := by
  have zero : (resetPart cause s).drum.offset = 0 := rfl
  unfold offsetBounded
  omega

theorem runEnable_eq (d : Drum) : runEnable d = d.state.timesRevs := rfl

theorem speedDemand_driven {d : Drum} (h : d.state.driven = true) :
    speedDemand d = max 0 (min 1023 ((d.active.nominal : Int) + d.offset)) := by
  rw [speedDemand, if_pos h, clampInt]
  (repeat' split) <;> omega

theorem speedDemand_not_driven {d : Drum} (h : d.state.driven = false) : speedDemand d = 0 := by
  simp [speedDemand, h]

/-- Settles O38: every change of the offset is clamped, and the outputs are read from the drum state. -/
theorem speedOffsetStaysWithinMaxAdjust : Obligations.SpeedOffsetStaysWithinMaxAdjust := by
  refine ⟨State.reset_eq ▸ offsetBounded_resetPart _ _,
    step_keeps (fun _ _ h => h) (fun _ _ _ change h => change.keeps_offsetBounded h) fun cause u _ => offsetBounded_resetPart cause u,
    fun d => ⟨?driven, ?slowing, ?still⟩⟩
  case driven => rintro (h | h) <;> exact ⟨by rw [runEnable_eq, h]; rfl, speedDemand_driven (by rw [h]; rfl)⟩
  case slowing => rintro (h | h) <;> exact ⟨by rw [runEnable_eq, h]; rfl, speedDemand_not_driven (by rw [h]; rfl)⟩
  case still => rintro (h | h | h) <;> exact ⟨by rw [runEnable_eq, h]; rfl, speedDemand_not_driven (by rw [h]; rfl)⟩

end Sys2Proof.Machine
end

section
/-! SUPPORT. The bounds that every change keeps: queues and rings (R18, R66, R130, R181, R185), EFE's sums and F (R43, R57), the filter
exponent (R57), the dry count (R61, R64) and the counts of trip entries (R165). -/

namespace Sys2Proof.Machine

variable {sums own : Prop} {s t : State}

/-! ### Queues and rings -/

theorem queuesBounded_of_le (inbound : t.link.inbound.length ≤ s.link.inbound.length)
    (reports : t.link.reports.length ≤ s.link.reports.length) (plan : t.cpx.plan.length ≤ s.cpx.plan.length)
    (history : t.drum.history.length ≤ s.drum.history.length) (trend : t.mest.trend.length ≤ s.mest.trend.length)
    (hs : queuesBounded s) : queuesBounded t := by
  unfold queuesBounded at *
  omega

theorem report_queues (src : Source) (sev : Severity) (code : Byte) (data : List Byte) (s : State) :
    (report src sev code data s).link.inbound = s.link.inbound ∧
      (s.link.reports.length ≤ 8 → (report src sev code data s).link.reports.length ≤ 8) := by
  obtain below | passes := Nat.lt_or_ge s.link.level sev.code
  · rw [report_discarded below]
    exact ⟨rfl, id⟩
  · obtain room | full := Nat.lt_or_ge s.link.reports.length 8
    · rw [report_queued passes room]
      exact ⟨rfl, fun _ => by simpa using room⟩
    · rw [report_lost passes full]
      exact ⟨rfl, id⟩

theorem hearHost_inbound_length (s : State) : (hearHost s).link.inbound.length = s.link.inbound.length := by
  unfold hearHost
  split <;> simp

theorem hearHost_reports (s : State) : (hearHost s).link.reports = s.link.reports := by
  unfold hearHost
  split <;> simp

/-- A ring that drops its oldest entry at its capacity keeps it. -/
theorem ring_joins_length {α : Type} {capacity : Nat} {l : List α} (a : α) (fits : l.length ≤ capacity) (some : 0 < capacity) :
    ((if l.length < capacity then l else l.drop 1) ++ [a]).length ≤ capacity := by
  split <;> simp <;> omega

theorem Change.keeps_queuesBounded (h : Change sums own s t) (hs : queuesBounded s) : queuesBounded t := by
  have ⟨inbound, reports, plan, historyFits, trendFits⟩ := hs
  cases h with
  | reported src sev code data =>
    obtain ⟨same, bound⟩ := report_queues src sev code data s
    exact ⟨same ▸ inbound, bound reports, by simpa using plan, by simpa using historyFits, by simpa using trendFits⟩
  | flagged g => exact hs
  | link own f s hi hr => exact queuesBounded_of_le (s := s) hi hr le_rfl le_rfl le_rfl hs
  | frameJoins own g s room => exact ⟨by simpa using room, reports, plan, historyFits, trendFits⟩
  | silenceRaised => exact hs
  | hostHeard => exact queuesBounded_of_le (by rw [hearHost_inbound_length]) (by rw [hearHost_reports]) (by simp) (by simp) (by simp) hs
  | drum f s ho hh => exact queuesBounded_of_le (s := s) le_rfl le_rfl le_rfl (hh ▸ le_rfl) le_rfl hs
  | history r =>
    refine ⟨inbound, reports, plan, ?_, trendFits⟩
    simp only [closeHistory, State.updDrum_drum]
    exact ring_joins_length r historyFits (by decide)
  | historyCleared => exact ⟨inbound, reports, plan, Nat.zero_le _, trendFits⟩
  | mest f s hf hb ht => exact queuesBounded_of_le (s := s) le_rfl le_rfl le_rfl le_rfl ht hs
  | trend v =>
    refine ⟨inbound, reports, plan, historyFits, ?_⟩
    simp only [State.updMest_mest]
    exact ring_joins_length v trendFits (by decide)
  | cpx f s hp hd => exact queuesBounded_of_le (s := s) le_rfl le_rfl (hp ▸ le_rfl) le_rfl le_rfl hs
  | headDropped r rest s hp => exact queuesBounded_of_le (s := s) le_rfl le_rfl (by simp [setPlan, hp]) le_rfl le_rfl hs
  | planEmptied => exact ⟨inbound, reports, Nat.zero_le _, historyFits, trendFits⟩
  | planJoined l s room => exact ⟨inbound, reports, by simpa [setPlan] using room, historyFits, trendFits⟩
  | deenergized | energized => exact queuesBounded_of_le (by simp) (by simp) (by simp) (by simp) (by simp) hs
  | _ => exact hs

theorem resetReports_length (p : Profile) (cause : ResetCause) (source : ProfileSource) (defaulted : Option Nat) :
    (resetReports p cause source defaulted).length ≤ 2 := by
  unfold resetReports
  split <;> cases defaulted <;> simp <;> split <;> simp

theorem queuesBounded_resetPart (cause : ResetCause) (s : State) : queuesBounded (resetPart cause s) :=
  ⟨Nat.zero_le _, (resetReports_length _ _ _ _).trans (by decide), Nat.zero_le _, Nat.zero_le _, Nat.zero_le _⟩

/-! ### EFE's sums and F (R43, R57) -/

theorem wetness_le (c : Nat) : wetness c ≤ 65535 := Nat.min_le_left _ _

/-- A sample adds to M, and a contact to K and by its wetness to S (R42). -/
theorem sample_cases (p : Profile) (c : Nat) (e : Efe) :
    (sample p c e).position = e.position ∧ (sample p c e).m = e.m + 1 ∧
      ((sample p c e).k = e.k + 1 ∧ (sample p c e).s ≤ e.s + 65535 ∨ (sample p c e).k = e.k ∧ (sample p c e).s = e.s) := by
  unfold sample
  split
  · exact ⟨rfl, rfl, .inl ⟨rfl, Nat.add_le_add_left (wetness_le c) _⟩⟩
  · exact ⟨rfl, rfl, .inr ⟨rfl, rfl⟩⟩

/-- A tach pulse samples inside the window or leaves the sums as they are (R40, R41). -/
theorem efePulse_cases (p : Profile) (c : Nat) (e : Efe) :
    (e.position ≤ (efePulse p c e).position ∧ (efePulse p c e).m = e.m ∧ (efePulse p c e).k = e.k ∧ (efePulse p c e).s = e.s) ∨
    ((efePulse p c e).position = bump 255 e.position ∧ bump 255 e.position ≤ p.windowStart + p.windowLen ∧
      (efePulse p c e).m = e.m + 1 ∧
      ((efePulse p c e).k = e.k + 1 ∧ (efePulse p c e).s ≤ e.s + 65535 ∨
        (efePulse p c e).k = e.k ∧ (efePulse p c e).s = e.s)) := by
  have advances : e.position ≤ bump 255 e.position := by
    unfold bump
    split <;> omega
  unfold efePulse
  split
  · dsimp only
    split
    · next inWindow =>
      obtain ⟨position, m, rest⟩ := sample_cases p c { e with position := bump 255 e.position }
      exact .inr ⟨position, inWindow.2, m, rest⟩
    · exact .inl ⟨advances, rfl, rfl, rfl⟩
  · exact .inl ⟨le_rfl, rfl, rfl, rfl⟩

theorem filterStep_le {k : Nat} {f : Option Nat} {m : Nat} (hf : ∀ v, f = some v → v ≤ 65535) (hm : m ≤ 65535) :
    filterStep k f m ≤ 65535 := by
  cases f with
  | none => exact hm
  | some v =>
    have hv := hf v rfl
    obtain falling | rising := Nat.lt_or_ge m v
    · exact (filterStep_falling falling).2.le.trans hv
    · have notPast : (m - v) / 2 ^ k ≤ m - v := Nat.div_le_self _ _
      rw [filterStep_rising rising]
      omega

theorem moistureBounded_of_eq (he : t.efe = s.efe) (hf : t.mest.f = s.mest.f) (hs : moistureBounded s) : moistureBounded t := by
  unfold moistureBounded at hs ⊢
  rwa [he, hf]

theorem Change.keeps_moistureBounded (inRange : sums) (h : Change sums own s t) (hs : moistureBounded s) : moistureBounded t := by
  have ⟨contacts, wet, value⟩ := hs
  cases h with
  | pulse c =>
    refine ⟨?_, ?_, value⟩ <;>
    · simp only [State.updEfe_efe]
      obtain ⟨_, _, _, _⟩ | ⟨_, _, _, ⟨_, _⟩ | ⟨_, _⟩⟩ := efePulse_cases s.profile c s.efe <;> omega
  | marker => exact ⟨le_rfl, Nat.zero_le _, value⟩
  | mest f s hf =>
    exact ⟨contacts, wet, fun v hv => (hf v hv).elim (value v) id⟩
  | filtered m s hm =>
    refine ⟨contacts, wet, fun v hv => ?_⟩
    obtain rfl := Option.some.inj hv
    exact filterStep_le value (hm inRange)
  | _ => exact moistureBounded_of_eq (by simp [profileTaken, tripMsgTaken]) (by simp [profileTaken, tripMsgTaken]) hs

theorem moistureBounded_resetPart (cause : ResetCause) (s : State) : moistureBounded (resetPart cause s) :=
  ⟨le_rfl, Nat.zero_le _, fun _ h => nomatch h⟩

theorem sumsInRange_of_eq (hp : t.profile = s.profile) (he : t.efe = s.efe) (hs : sumsInRange s) : sumsInRange t := by
  unfold sumsInRange at hs ⊢
  rwa [hp, he]

theorem Change.keeps_sumsInRange (h : Change sums own s t) (hs : sumsInRange s) : sumsInRange t := by
  have ⟨window, samples, positions, contacts, wet, cap⟩ := hs
  cases h with
  | allowance => exact hs
  | profile p s hk hw => exact ⟨hw, samples, positions, contacts, wet, cap⟩
  | pulse c =>
    unfold windowInTurn at window
    have advance : bump 255 s.efe.position ≤ 64 → bump 255 s.efe.position = s.efe.position + 1 := by
      unfold bump
      split <;> omega
    refine ⟨window, ?_⟩
    simp only [State.updEfe_efe]
    obtain ⟨_, _, _, _⟩ | ⟨_, _, _, ⟨_, _⟩ | ⟨_, _⟩⟩ := efePulse_cases s.profile c s.efe <;> omega
  | marker => exact ⟨window, Nat.zero_le _, le_rfl, le_rfl, Nat.zero_le _, Nat.zero_le _⟩
  | _ => exact sumsInRange_of_eq (by simp [State.profile_eq, tripMsgTaken]) (by simp [tripMsgTaken]) hs

/-- Every reset clears the sums; the window is that of the profile in force after it. -/
theorem sumsInRange_resetPart {cause : ResetCause} {s : State} (window : windowInTurn (resetPart cause s).profile) :
    sumsInRange (resetPart cause s) :=
  ⟨window, Nat.zero_le _, le_rfl, le_rfl, Nat.zero_le _, Nat.zero_le _⟩

/-! ### The filter exponent (R57) -/

theorem Change.keeps_exponentMasked (h : Change sums own s t) (hs : exponentMasked s) : exponentMasked t := by
  unfold exponentMasked at hs ⊢
  cases h with
  | profile p s hk => exact hk
  | _ => simpa [State.profile_eq, tripMsgTaken] using hs

theorem exponentMasked_resetPart (cause : ResetCause) (s : State) (hs : exponentMasked s) : exponentMasked (resetPart cause s) := by
  cases cause with
  | powerOn => exact loadStore_exponent _
  | brownOut => exact loadStore_exponent _
  | pin => exact hs
  | link => exact hs

/-! ### The dry count (R61, R64) -/

theorem dryCountBounded_of_eq (hb : t.mest.b = s.mest.b) (hst : t.mest.stage = s.mest.stage) (hs : dryCountBounded s) :
    dryCountBounded t := by
  unfold dryCountBounded at hs ⊢
  rwa [hb, hst]

theorem dryCountAfter_le {d : DryTarget} {b : Nat} (h : b ≤ d.confirm) (f : Nat) (exhaust : TempChannel) :
    dryCountAfter d f exhaust b ≤ d.confirm := by
  unfold dryCountAfter
  (repeat' split) <;> omega

theorem Change.keeps_dryCountBounded (h : Change sums own s t) (hs : dryCountBounded s) : dryCountBounded t := by
  cases h with
  | mest f s hf hb =>
    obtain zero | ⟨same, held | none⟩ := hb
    · exact fun _ d _ _ => by rw [State.updMest_mest, zero]; exact Nat.zero_le _
    · exact dryCountBounded_of_eq (s := s) same held hs
    · exact fun st d hst => by rw [State.updMest_mest, none] at hst; cases hst
  | dryCount st d v s hst hd =>
    intro st' d' hst' hd'
    obtain rfl : st = st' := Option.some.inj (hst.symm.trans hst')
    obtain rfl : d = d' := Option.some.inj (hd.symm.trans hd')
    exact dryCountAfter_le (hs st d hst hd) _ _
  | _ => exact dryCountBounded_of_eq (by simp [profileTaken, tripMsgTaken, filterUpdate]) (by simp [profileTaken, tripMsgTaken, filterUpdate]) hs

theorem dryCountBounded_resetPart (cause : ResetCause) (s : State) : dryCountBounded (resetPart cause s) :=
  fun _ _ h => nomatch h

/-! ### The counts of trip entries (R165) -/

theorem tripsCounted_of_eq (h : t.trip = s.trip) (hs : tripsCounted s) : tripsCounted t := by
  unfold tripsCounted at hs ⊢
  rwa [h]

theorem bump_pos {ceiling : Nat} (h : 0 < ceiling) (n : Nat) : 1 ≤ bump ceiling n := by
  unfold bump
  split <;> omega

theorem clearHeld_counted {e : TripEntry} (h : e.state ≠ .clear → 1 ≤ e.count) : (clearHeld e).state ≠ .clear → 1 ≤ (clearHeld e).count := by
  unfold clearHeld
  split
  · exact fun clear => absurd rfl clear
  · exact h

theorem Change.keeps_tripsCounted (h : Change sums own s t) (hs : tripsCounted s) : tripsCounted t := by
  cases h with
  | conditionTaken c time ordinal s =>
    intro c'
    obtain same | ⟨_, new⟩ := conditionEntered_get c c' time ordinal s.trip
    · exact same ▸ hs c'
    · exact new ▸ fun _ => bump_pos (by decide) _
  | endTaken c s =>
    intro c'
    obtain same | ⟨_, active, new⟩ := endEntered_get c c' s.trip
    · exact same ▸ hs c'
    · exact new ▸ fun _ => hs c (by rw [active]; decide)
  | heldCleared table s ht =>
    intro c
    simp only [State.updTrip_trip]
    obtain same | cleared := ht c
    · rw [same]
      exact hs c
    · rw [cleared]
      exact clearHeld_counted (hs c)
  | _ => exact tripsCounted_of_eq (by simp [profileTaken]) hs

theorem tripsCounted_resetPart (cause : ResetCause) (s : State) : tripsCounted (resetPart cause s) := fun c standing => by
  cases c <;> exact absurd rfl standing

/-- The factory profile's window lies within a turn (R195). -/
theorem windowInTurn_factory : windowInTurn factoryProfile := by
  unfold windowInTurn
  decide

/-- Settles O48: each bound is kept by every change, EFE's sums by a pulse inside the window. -/
theorem queuesAndCountsKeepTheirBounds : Obligations.QueuesAndCountsKeepTheirBounds := by
  have sumsAtReset : sumsInRange State.reset :=
    ⟨windowInTurn_factory, Nat.zero_le _, le_rfl, le_rfl, Nat.zero_le _, Nat.zero_le _⟩
  have exponentAtReset : exponentMasked State.reset := by
    unfold exponentMasked
    decide
  refine ⟨⟨State.reset_eq ▸ queuesBounded_resetPart _ _, State.reset_eq ▸ moistureBounded_resetPart _ _, sumsAtReset, exponentAtReset,
      State.reset_eq ▸ dryCountBounded_resetPart _ _, State.reset_eq ▸ tripsCounted_resetPart _ _⟩,
    step_keeps (fun _ _ h => h) (fun _ _ _ change h => change.keeps_queuesBounded h) fun cause u _ => queuesBounded_resetPart cause u,
    fun s t hs h => ?moisture,
    step_keeps (fun _ _ h => h) (fun _ _ _ change h => change.keeps_exponentMasked h) exponentMasked_resetPart,
    fun c rest s t pending loaded hs h => ?sums,
    step_keeps (fun _ _ h => h) (fun _ _ _ change h => change.keeps_dryCountBounded h) fun cause u _ => dryCountBounded_resetPart cause u,
    step_keeps (fun _ _ h => h) (fun _ _ _ change h => change.keeps_tripsCounted h) fun cause u _ => tripsCounted_resetPart cause u⟩
  case moisture =>
    exact step_keeps_of (fun _ _ h => h) (fun _ _ change h => change.keeps_moistureBounded hs.2.1 h)
      (fun cause _ _ _ _ _ => moistureBounded_resetPart cause _) hs h
  case sums =>
    refine step_keeps_of (fun _ _ h => h) (fun _ _ change h => change.keeps_sumsInRange h)
      (fun cause c' rest' pending' named before => sumsInRange_resetPart ?_) hs h
    obtain ⟨rfl, rfl⟩ := List.cons.inj (pending.symm.trans pending')
    cases cause with
    | powerOn => exact loaded (by simpa using named)
    | brownOut => exact loaded (by simpa using named)
    | pin => exact hs.1
    | link => exact hs.1

end Sys2Proof.Machine
end

section
/-! SUPPORT. The plan with its digest (R130), and heat within the cycle (R94, R100): what HSTG keeps of it by itself. -/

namespace Sys2Proof.Machine

variable {sums own : Prop} {s t : State}

/-! ### The plan and its digest (R130) -/

theorem planSound_of_eq (hp : t.cpx.plan = s.cpx.plan) (hd : t.cpx.digest = s.cpx.digest) (hs : planSound s) : planSound t := by
  unfold planSound at hs ⊢
  rwa [hp, hd]

theorem planSound_setPlan {l : List StageRec} (last : ∀ r ∈ l.dropLast, r.final = false) (s : State) : planSound (setPlan l s) :=
  ⟨last, rfl⟩

theorem mem_dropLast_cons {α : Type} {a b : α} {l : List α} (h : b ∈ l.dropLast) : b ∈ (a :: l).dropLast := by
  cases l with
  | nil => cases h
  | cons c l =>
    rw [List.dropLast_cons_cons]
    exact List.mem_cons_of_mem a h

theorem Change.keeps_planSound (h : Change sums own s t) (hs : planSound s) : planSound t := by
  cases h with
  | cpx f s hp hd => exact planSound_of_eq (s := s) hp hd hs
  | headDropped r rest s hp =>
    refine planSound_setPlan (fun r' mem => hs.1 r' ?_) s
    rw [hp]
    exact mem_dropLast_cons mem
  | planEmptied s => exact planSound_setPlan (fun _ mem => by cases mem) s
  | planJoined l s room none last =>
    refine planSound_setPlan (fun r mem => ?_) s
    obtain rfl | more := eq_or_ne l []
    · rw [List.append_nil] at mem
      exact hs.1 r mem
    · rw [List.dropLast_append_of_ne_nil more] at mem
      obtain held | new := List.mem_append.mp mem
      · exact none r held
      · exact last r new
  | _ => exact planSound_of_eq (by simp [profileTaken, tripMsgTaken]) (by simp [profileTaken, tripMsgTaken]) hs

theorem planSound_resetPart (cause : ResetCause) (s : State) : planSound (resetPart cause s) :=
  ⟨fun _ mem => (nomatch mem), rfl⟩

/-! ### Heat within the cycle: HSTG's own operations (R94, R100) -/

theorem heatWithinCycle_of_eq (hc : t.cpx.cycle = s.cpx.cycle) (hh : t.hstg = s.hstg) (hs : heatWithinCycle s) :
    heatWithinCycle t := by
  unfold heatWithinCycle State.elem at hs ⊢
  rwa [hc, hh]

theorem updElem_keeps_heat {e : Element} {f : ElementRec → ElementRec}
    (h : s.cpx.cycle ≠ .running → s.cpx.cycle ≠ .starved → (f (s.elem e)).state.counted = false) (hs : heatWithinCycle s) :
    heatWithinCycle (s.updElem e f) := by
  refine ⟨hs.1, hs.2.1, fun notRunning notStarved e' => ?_⟩
  rw [State.elem_updElem]
  split
  · next same => exact same ▸ h notRunning notStarved
  · exact hs.2.2 notRunning notStarved e'

theorem sendToSaa_keeps_heat {m : HstgMsg} (hs : heatWithinCycle s) : heatWithinCycle (sendToSaa m s) :=
  heatWithinCycle_of_eq (s := s) rfl rfl hs

theorem foldl_keeps_heat {α : Type} {f : State → α → State} (h : ∀ a u, heatWithinCycle u → heatWithinCycle (f u a)) (l : List α)
    (hs : heatWithinCycle s) : heatWithinCycle (l.foldl f s) := by
  induction l generalizing s with
  | nil => exact hs
  | cons a l ih => exact ih (h a s hs)

theorem deenergize_keeps_heat (cause : OffCause) (e : Element) (hs : heatWithinCycle s) : heatWithinCycle (deenergize cause e s) := by
  refine ⟨hs.1, hs.2.1, fun notRunning notStarved e' => ?_⟩
  rw [deenergize_elem]
  split
  · rfl
  · exact hs.2.2 notRunning notStarved e'

/-- An element that waits is energized in a working cycle alone. -/
theorem energize_keeps_heat {e : Element} (waits : (s.elem e).state = .waitGrant) (hs : heatWithinCycle s) :
    heatWithinCycle (energize e s) := by
  refine ⟨hs.1, hs.2.1, fun notRunning notStarved e' => ?_⟩
  rw [energize_elem]
  split
  · have := hs.2.2 notRunning notStarved e
    rw [waits] at this
    cases this
  · exact hs.2.2 notRunning notStarved e'

theorem switchOff_keeps_heat (cause : OffCause) (e : Element) (hs : heatWithinCycle s) : heatWithinCycle (switchOff cause e s) :=
  sendToSaa_keeps_heat (deenergize_keeps_heat cause e hs)

theorem dropWaiting_keeps_heat (e : Element) (hs : heatWithinCycle s) : heatWithinCycle (dropWaiting e s) := by
  have dropped : heatWithinCycle (s.updElem e fun r => { r with state := .offReady, requested := false }) :=
    updElem_keeps_heat (fun _ _ => rfl) hs
  unfold dropWaiting
  split
  · exact sendToSaa_keeps_heat dropped
  · exact dropped

theorem requestElement_keeps_heat (e : Element) (hs : heatWithinCycle s) : heatWithinCycle (requestElement e s) :=
  sendToSaa_keeps_heat (updElem_keeps_heat (fun notRunning notStarved => hs.2.2 notRunning notStarved e) hs)

theorem choose_cpx (e : Element) (s : State) : (choose e s).cpx = s.cpx := by
  unfold choose
  dsimp only
  split <;> rfl

/-- Demand chooses elements in RUNNING alone. -/
theorem choose_keeps_heat (e : Element) (running : s.cpx.cycle = .running) (hs : heatWithinCycle s) :
    heatWithinCycle (choose e s) := by
  have waits : heatWithinCycle (s.updElem e fun r => { r with state := .waitGrant }) :=
    updElem_keeps_heat (fun notRunning => absurd running notRunning) hs
  unfold choose
  dsimp only
  split
  · exact requestElement_keeps_heat e ⟨waits.1, waits.2.1, fun notRunning => absurd running notRunning⟩
  · exact requestElement_keeps_heat e waits

theorem chooseMore_keeps_heat (y : Nat) (running : s.cpx.cycle = .running) (hs : heatWithinCycle s) :
    heatWithinCycle (chooseMore y s) := by
  unfold chooseMore
  induction (choosingOrder s.profile s.hstg).take y generalizing s with
  | nil => exact hs
  | cons e es ih => exact ih (by rw [choose_cpx, running]) (choose_keeps_heat e running hs)

theorem applyDemand_keeps_heat (hs : heatWithinCycle s) : heatWithinCycle (applyDemand s) := by
  unfold applyDemand
  dsimp only
  split
  · exact foldl_keeps_heat (fun e _ => switchOff_keeps_heat .normal e) _ (foldl_keeps_heat (fun e _ => dropWaiting_keeps_heat e) _ hs)
  · split
    · next lack =>
      refine chooseMore_keeps_heat _ (hs.1 ?_) hs
      by_contra disabled
      have zero := hs.2.1 (by simpa using disabled)
      omega
    · exact hs

theorem setDemand_keeps_heat {d : Nat} (h : s.hstg.heatEnable = false → d = 0) (hs : heatWithinCycle s) :
    heatWithinCycle (setDemand d s) :=
  applyDemand_keeps_heat (s := s.updHstg fun h => { h with demand := d }) ⟨hs.1, h, hs.2.2⟩

theorem stopElement_keeps_heat (e : Element) (hs : heatWithinCycle s) : heatWithinCycle (stopElement e s) := by
  unfold stopElement
  split
  · exact switchOff_keeps_heat _ _ hs
  · exact switchOff_keeps_heat _ _ hs
  · exact dropWaiting_keeps_heat _ hs
  all_goals exact hs

/-- A stop of one element leaves the demand and heat-enable. -/
theorem stopElement_settings (e : Element) (s : State) :
    (stopElement e s).hstg.heatEnable = s.hstg.heatEnable ∧ (stopElement e s).hstg.demand = s.hstg.demand := by
  unfold stopElement
  split
  · exact ⟨rfl, rfl⟩
  · exact ⟨rfl, rfl⟩
  · unfold dropWaiting
    split <;> exact ⟨rfl, rfl⟩
  all_goals exact ⟨rfl, rfl⟩

theorem setHeatEnable_hstg (b : Bool) (s : State) :
    (setHeatEnable b s).hstg = if s.hstg.heatEnable = b then s.hstg else { s.hstg with heatEnable := b, inletCap := false } := rfl

theorem setHeatEnable_heatEnable (b : Bool) (s : State) : (setHeatEnable b s).hstg.heatEnable = b := by
  rw [setHeatEnable_hstg]
  split
  · assumption
  · rfl

theorem setHeatEnable_demand (b : Bool) (s : State) : (setHeatEnable b s).hstg.demand = s.hstg.demand := by
  rw [setHeatEnable_hstg]
  split <;> rfl

theorem setHeatEnable_elem (b : Bool) (s : State) (e : Element) : (setHeatEnable b s).elem e = s.elem e := by
  rw [State.elem, setHeatEnable_hstg]
  split <;> rfl

theorem hstgStop_settings (fromCycle : Bool) (s : State) :
    (hstgStop fromCycle s).hstg.heatEnable = (!fromCycle && s.hstg.heatEnable) ∧ (hstgStop fromCycle s).hstg.demand = 0 := by
  have kept (u : State) : (allElements.foldl (fun s e => stopElement e s) u).hstg.heatEnable = u.hstg.heatEnable ∧
      (allElements.foldl (fun s e => stopElement e s) u).hstg.demand = u.hstg.demand :=
    ⟨foldl_keeps (fun v => v.hstg.heatEnable) _ (fun v e => (stopElement_settings e v).1) _ _,
      foldl_keeps (fun v => v.hstg.demand) _ (fun v e => (stopElement_settings e v).2) _ _⟩
  unfold hstgStop
  refine ⟨(kept _).1.trans ?_, (kept _).2⟩
  cases fromCycle
  · rfl
  · exact setHeatEnable_heatEnable false s

theorem hstgStop_keeps_heat (fromCycle : Bool) (hs : heatWithinCycle s) : heatWithinCycle (hstgStop fromCycle s) := by
  obtain ⟨enable, demand⟩ := hstgStop_settings fromCycle s
  refine ⟨fun on => ?_, fun _ => demand, fun _ _ => hstgStop_not_counted fromCycle s⟩
  rw [show (hstgStop fromCycle s).cpx = s.cpx by simp]
  rw [enable, Bool.and_eq_true] at on
  exact hs.1 on.2

/-- A stop from CPX or TRIP takes all heat away, whatever stood before. -/
theorem hstgStop_heat (s : State) : heatWithinCycle (hstgStop true s) := by
  obtain ⟨enable, demand⟩ := hstgStop_settings true s
  exact ⟨fun on => by simp [enable] at on, fun _ => demand, fun _ _ => hstgStop_not_counted true s⟩

/-- In a working state heat-enable clear with D 0 is heat within the cycle. -/
theorem hstgStarved_heat (working : s.cpx.cycle = .running ∨ s.cpx.cycle = .starved) : heatWithinCycle (hstgStarved s) := by
  refine applyDemand_keeps_heat (s := (setHeatEnable false s).updHstg fun h => { h with demand := 0 })
    ⟨fun on => ?_, fun _ => rfl, fun notRunning notStarved => ?_⟩
  · have off := setHeatEnable_heatEnable false s
    rw [State.updHstg_hstg] at on
    exact absurd (off.symm.trans on) (by decide)
  · exact absurd working (not_or.mpr ⟨notRunning, notStarved⟩)

theorem setHeatEnable_true_heat (running : s.cpx.cycle = .running) : heatWithinCycle (setHeatEnable true s) :=
  ⟨fun _ => running, fun off => absurd (off.symm.trans (setHeatEnable_heatEnable true s)) (by decide),
    fun notRunning => absurd running notRunning⟩

theorem hstgStageStart_heat (st : HeatSettings) (running : s.cpx.cycle = .running) : heatWithinCycle (hstgStageStart st s) := by
  unfold hstgStageStart
  split
  · exact setHeatEnable_true_heat (s := s.updHstg _) running
  · exact setHeatEnable_true_heat (s := s.updHstg _) running
  · exact hstgStarved_heat (s := s.updHstg _) (.inl running)
  · exact hstgStarved_heat (s := s.updHstg _) (.inl running)

theorem hstgResume_heat {heat : Bool} (h : s.cpx.cycle = .running ∨ s.cpx.cycle = .starved ∧ heat = false) :
    heatWithinCycle (hstgResume heat s) := by
  unfold hstgResume
  split
  · next on =>
    refine setHeatEnable_true_heat (h.resolve_right fun starved => ?_)
    rw [starved.2] at on
    cases on
  · exact hstgStarved_heat (h.imp_right And.left)

/-- Heat-enable clear and D 0 with the elements left alone, as a context load and a CYCLE_CLOSE leave them. -/
theorem heatCleared_keeps_heat {f : Hstg → Hstg} (hf : (f (setHeatEnable false s).hstg).heatEnable = false)
    (hd : (f (setHeatEnable false s).hstg).demand = 0) (he : (f (setHeatEnable false s).hstg).elements = s.hstg.elements)
    (hs : heatWithinCycle s) : heatWithinCycle ((setHeatEnable false s).updHstg f) := by
  refine ⟨fun on => ?_, fun _ => hd, fun notRunning notStarved e => ?_⟩
  · rw [State.updHstg_hstg, hf] at on
    cases on
  · have := hs.2.2 notRunning notStarved e
    simpa only [State.elem, State.updHstg_hstg, he] using this

theorem hstgLoad_keeps_heat (st : HeatSettings) (e : Element) (hs : heatWithinCycle s) : heatWithinCycle (hstgLoad st e s) := by
  refine heatCleared_keeps_heat (setHeatEnable_heatEnable false s) rfl ?_ hs
  dsimp only
  rw [setHeatEnable_hstg]
  split <;> rfl

theorem hstgClose_keeps_heat (hs : heatWithinCycle s) : heatWithinCycle (hstgClose s) := by
  refine heatCleared_keeps_heat (setHeatEnable_heatEnable false s) rfl ?_ hs
  dsimp only
  rw [setHeatEnable_hstg]
  split <;> rfl

theorem hstgExhaust_keeps_heat (v : Int) (hs : heatWithinCycle s) : heatWithinCycle (hstgExhaust v s) := by
  unfold hstgExhaust
  split
  · next on => exact setDemand_keeps_heat (fun off => by rw [on] at off; cases off) hs
  · exact hs

theorem hstgInlet_keeps_heat (v : Int) (valid : Bool) (hs : heatWithinCycle s) : heatWithinCycle (hstgInlet v valid s) := by
  have capped (cap : Bool) : heatWithinCycle (s.updHstg fun h => { h with inletCap := cap }) := hs
  unfold hstgInlet
  split
  · split
    · exact hs
    · split
      · exact hs
      · split
        · split
          · exact capped false
          · exact hs
        · split
          · exact heatWithinCycle_of_eq (by simp) (by simp) (setDemand_keeps_heat (fun _ => rfl) (capped true))
          · exact hs
  · exact hs

theorem rerequest_keeps_heat (hs : heatWithinCycle s) : heatWithinCycle (rerequest s) := by
  unfold rerequest
  split
  · exact foldl_keeps_heat (fun e _ => requestElement_keeps_heat e) _ hs
  · exact hs

theorem alignElement_not_counted {p : Profile} {e : Element} {r : ElementRec} (h : r.state.counted = false) :
    (alignElement p e r).state.counted = false := by
  unfold alignElement
  split
  · split
    · rfl
    · rfl
    all_goals exact h
  · split
    · rfl
    · exact h

theorem hstgProfile_keeps_heat (hs : heatWithinCycle s) : heatWithinCycle (hstgProfile s) :=
  foldl_keeps_heat (fun e _ hu => updElem_keeps_heat (fun notRunning notStarved =>
    alignElement_not_counted (hu.2.2 notRunning notStarved e)) hu) _ hs

theorem takeGrant_keeps_heat (e : Element) (hs : heatWithinCycle s) : heatWithinCycle (takeGrant e s) := by
  unfold takeGrant
  split
  · next waits =>
    split
    · exact energize_keeps_heat waits.1 hs
    · exact sendToSaa_keeps_heat (updElem_keeps_heat (fun notRunning notStarved => hs.2.2 notRunning notStarved e) hs)
  · exact sendToSaa_keeps_heat hs

theorem takeShed_keeps_heat (e : Element) (hs : heatWithinCycle s) : heatWithinCycle (takeShed e s) := by
  unfold takeShed
  split
  · exact applyDemand_keeps_heat (deenergize_keeps_heat _ e hs)
  · exact applyDemand_keeps_heat (deenergize_keeps_heat _ e hs)
  all_goals exact hs

theorem minOnExpires_keeps_heat (e : Element) (hs : heatWithinCycle s) : heatWithinCycle (minOnExpires e s) := by
  unfold minOnExpires
  split
  · next due =>
    have freed : heatWithinCycle (applyDemand (s.updElem e fun r => { r with state := .onFree, minOn := none })) := by
      refine applyDemand_keeps_heat (updElem_keeps_heat (fun notRunning notStarved => ?_) hs)
      have := hs.2.2 notRunning notStarved e
      rw [due.2] at this
      cases this
    dsimp only
    split
    · exact sendToSaa_keeps_heat freed
    · exact freed
  · exact hs

theorem minOffExpires_keeps_heat (e : Element) (hs : heatWithinCycle s) : heatWithinCycle (minOffExpires e s) := by
  unfold minOffExpires
  split
  · exact applyDemand_keeps_heat (updElem_keeps_heat (fun _ _ => rfl) hs)
  · exact hs

/-! ### The blower, the door and the conversions -/

theorem endAirflow_keeps_heat (hs : heatWithinCycle s) : heatWithinCycle (endAirflow s) :=
  heatWithinCycle_of_eq (by simp) (by simp) hs

theorem enterOff_keeps_heat (hs : heatWithinCycle s) : heatWithinCycle (enterOff s) := by
  rw [enterOff_eq]
  refine endAirflow_keeps_heat (s := State.updAtu _ _) ?_
  split
  · exact hstgStop_keeps_heat false hs
  · exact hs

theorem enterRunOn_keeps_heat (hs : heatWithinCycle s) : heatWithinCycle (enterRunOn s) :=
  hstgStop_keeps_heat (s := s.updAtu _) false hs

theorem blowerRequest_keeps_heat (q : BlowerRequest) (hs : heatWithinCycle s) : heatWithinCycle (blowerRequest q s) := by
  have on : heatWithinCycle (enterOn s) := heatWithinCycle_of_eq (by simp) (by simp) hs
  unfold blowerRequest
  (repeat' split) <;>
    first | exact hs | exact on | exact enterOff_keeps_heat hs | exact enterRunOn_keeps_heat hs

theorem judgeRunOn_keeps_heat (hs : heatWithinCycle s) : heatWithinCycle (judgeRunOn s) := by
  unfold judgeRunOn
  split
  · exact enterOff_keeps_heat hs
  · exact hs

theorem pressureConverted_keeps_heat (raw : Int) (hs : heatWithinCycle s) : heatWithinCycle (pressureConverted raw s) := by
  unfold pressureConverted
  dsimp only
  (repeat' split) <;> first | exact hs | exact rerequest_keeps_heat (s := State.updAtu _ _) hs

theorem inletConverted_keeps_heat (raw : Int) (hs : heatWithinCycle s) : heatWithinCycle (inletConverted raw s) :=
  hstgInlet_keeps_heat _ _ (heatWithinCycle_of_eq (by simp) (by simp) hs)

theorem highLimitDebounced_keeps_heat (hs : heatWithinCycle s) : heatWithinCycle (highLimitDebounced s) := by
  unfold highLimitDebounced
  dsimp only
  split
  · exact hs
  · split
    · exact hstgStop_keeps_heat (s := handCondition .highLimit (s.updAtu _)) false hs
    · exact hs
    · exact rerequest_keeps_heat (s := handConditionEnd .highLimit (s.updAtu _)) hs
    all_goals exact hs

end Sys2Proof.Machine
end

section
/-! SUPPORT. The cycle's own moves: what each leaves of the stage (R127), of heat (R94, R100), of a standing trip (R171), and the state it
leads to. -/

namespace Sys2Proof.Machine

variable {s t : State}

/-! ### The door stays through the blower's moves -/

theorem endAirflow_door (s : State) : (endAirflow s).atu.door = s.atu.door := by
  unfold endAirflow
  split <;> simp

@[simp] theorem enterOff_door (s : State) : (enterOff s).atu.door = s.atu.door := by
  rw [enterOff_eq, endAirflow_door, State.updAtu_atu]
  split <;> simp

@[simp] theorem enterRunOn_door (s : State) : (enterRunOn s).atu.door = s.atu.door := by simp [enterRunOn]

@[simp] theorem enterOn_door (s : State) : (enterOn s).atu.door = s.atu.door := rfl

@[simp] theorem blowerRequest_door (q : BlowerRequest) (s : State) : (blowerRequest q s).atu.door = s.atu.door := by
  unfold blowerRequest
  (repeat' split) <;> simp

@[simp] theorem stageStarted_door (r : StageRec) (s : State) : (stageStarted r s).atu.door = s.atu.door := by
  unfold stageStarted
  by_cases guard : r.kind = .guard <;> simp [guard]

/-! ### What the entries to PAUSED, DONE and STARVED leave -/

theorem enterCycle_cpx (new : CycleState) (s : State) : (enterCycle new s).cpx = { s.cpx with cycle := new } := by
  simp [enterCycle]

theorem enterPaused_cpx (cause : PauseCause) (s : State) :
    (enterPaused cause s).cpx = { s.cpx with starve := none, cycle := .paused, pauseCause := some cause } := by
  unfold enterPaused
  dsimp only
  split <;> simp

theorem enterDone_cpx (reason : EndReason) (s : State) :
    (enterDone reason s).cpx =
      { s.cpx with endReason := reason, pauseCause := none, cycle := .done, stageActive := false, starve := none } := by
  simp [enterDone, enterCycle_cpx]

/-- The entry to STARVED behind a CLOSED door. -/
theorem enterStarved_cpx_closed (h : s.atu.door.isClosed = true) :
    (enterStarved s).cpx = { s.cpx with cycle := .starved, starve := some ⟨s.profile.starveLimit, 0⟩ } := by
  unfold enterStarved
  simp [h, enterCycle_cpx, State.profile]

/-- The entry to STARVED behind a door that is not CLOSED goes on to PAUSED (R135). -/
theorem enterStarved_cpx_open (h : s.atu.door.isClosed = false) :
    (enterStarved s).cpx = { s.cpx with cycle := .paused, starve := none, pauseCause := some .door } := by
  unfold enterStarved
  simp [h, enterPaused_cpx, enterCycle_cpx]

theorem reportChange_keeps_heat (old : CycleState) (hs : heatWithinCycle s) : heatWithinCycle (reportChange old s) :=
  heatWithinCycle_of_eq (by simp) (by simp) hs

theorem drumStop_keeps_heat (hs : heatWithinCycle s) : heatWithinCycle (drumStop s) :=
  heatWithinCycle_of_eq (by simp) (by simp) hs

theorem mestWithdraw_keeps_heat (hs : heatWithinCycle s) : heatWithinCycle (mestWithdraw s) :=
  heatWithinCycle_of_eq (by simp) (by simp) hs

theorem enterPaused_heat (cause : PauseCause) (s : State) : heatWithinCycle (enterPaused cause s) := by
  have stopped (u : State) : heatWithinCycle (drumStop (hstgStop true u)) := drumStop_keeps_heat (hstgStop_heat u)
  unfold enterPaused
  dsimp only
  split
  · exact reportChange_keeps_heat _ (stopped _)
  · exact reportChange_keeps_heat _ (blowerRequest_keeps_heat .runOn (stopped _))

theorem enterDone_heat (reason : EndReason) (s : State) : heatWithinCycle (enterDone reason s) :=
  mestWithdraw_keeps_heat (blowerRequest_keeps_heat .runOn (drumStop_keeps_heat (hstgStop_heat _)))

theorem enterStarved_heat (s : State) : heatWithinCycle (enterStarved s) := by
  unfold enterStarved
  dsimp only
  split
  · refine heatWithinCycle_of_eq ?_ ?_ (hstgStarved_heat (s := raiseFlag .starved (report .cpx .warning 0x53
      (u16 (enterCycle .starved s).cpx.ordinal ++ u8 (enterCycle .starved s).cpx.lastExit.code ++
        u8 (enterCycle .starved s).profile.starveLimit) (enterCycle .starved s))) (.inr ?_))
    all_goals simp [enterCycle_cpx]
  · exact enterPaused_heat _ _

theorem report_keeps_heat {src : Source} {sev : Severity} {code : Byte} {data : List Byte} (hs : heatWithinCycle s) :
    heatWithinCycle (report src sev code data s) := heatWithinCycle_of_eq (by simp) (by simp) hs

theorem raiseFlag_keeps_heat {g : EventFlag} (hs : heatWithinCycle s) : heatWithinCycle (raiseFlag g s) :=
  heatWithinCycle_of_eq (by simp) (by simp) hs

theorem runRequest_keeps_heat (hs : heatWithinCycle s) : heatWithinCycle (runRequest s) :=
  heatWithinCycle_of_eq (by simp) (by simp) hs

theorem drumStageStart_keeps_heat {kind : StageKind} {idx burstRevs : Nat} (hs : heatWithinCycle s) :
    heatWithinCycle (drumStageStart kind idx burstRevs s) := heatWithinCycle_of_eq (by simp) (by simp) hs

theorem mestStageStart_keeps_heat {st : MestStage} (hs : heatWithinCycle s) : heatWithinCycle (mestStageStart st s) :=
  heatWithinCycle_of_eq (by simp) (by simp) hs

theorem stageStarted_heat (r : StageRec) {s : State} (running : s.cpx.cycle = .running) : heatWithinCycle (stageStarted r s) := by
  unfold stageStarted
  dsimp only
  refine raiseFlag_keeps_heat (report_keeps_heat (blowerRequest_keeps_heat _ (mestStageStart_keeps_heat ?_)))
  have started (st : HeatSettings) (f : Cpx → Cpx) (hf : (f s.cpx).cycle = s.cpx.cycle) :
      heatWithinCycle (drumStageStart r.kind r.pattern r.burstRevs (hstgStageStart st (s.updCpx f))) :=
    drumStageStart_keeps_heat (hstgStageStart_heat st (hf.trans running))
  split
  · exact drumStop_keeps_heat (started _ _ rfl)
  · exact runRequest_keeps_heat (started _ _ rfl)

/-! ### A stage start and a retirement -/

/-- What a stage start in RUNNING leads to: the stage runs behind a CLOSED door, and the cycle pauses or is DONE otherwise (R134, R135). -/
structure Started (s t : State) : Prop where
  stage : stageSound t
  heat : heatWithinCycle t
  cycle : s.atu.door.isClosed = true ∧ t.cpx.cycle = .running ∨
    s.atu.door.isClosed = false ∧ (t.cpx.cycle = .paused ∨ t.cpx.cycle = .done)

/-- What a retirement in RUNNING leads to (R143). -/
structure Retired (s t : State) : Prop where
  stage : stageSound t
  heat : heatWithinCycle t
  cycle : t.cpx.cycle = .done ∨ s.atu.door.isClosed = true ∧ (t.cpx.cycle = .running ∨ t.cpx.cycle = .starved) ∨
    s.atu.door.isClosed = false ∧ t.cpx.cycle = .paused

theorem Started.retired (h : Started s t) : Retired s t := by
  refine ⟨h.stage, h.heat, ?_⟩
  obtain ⟨closed, running⟩ | ⟨notClosed, paused | done⟩ := h.cycle
  · exact .inr (.inl ⟨closed, .inl running⟩)
  · exact .inr (.inr ⟨notClosed, paused⟩)
  · exact .inl done

theorem stageSound_enterDone (reason : EndReason) (s : State) : stageSound (enterDone reason s) := by
  unfold stageSound
  rw [enterDone_cpx]

theorem stageSound_enterPaused {cause : PauseCause} (h : s.cpx.stageActive = true → s.cpx.plan ≠ []) :
    stageSound (enterPaused cause s) := by
  unfold stageSound
  rw [enterPaused_cpx]
  exact h

theorem enterDone_retired (reason : EndReason) (s : State) : Retired s (enterDone reason s) :=
  ⟨stageSound_enterDone reason s, enterDone_heat reason s, .inl (by rw [enterDone_cpx])⟩

theorem enterStarved_retired (empty : s.cpx.plan = []) (inactive : s.cpx.stageActive = false) : Retired s (enterStarved s) := by
  cases door : s.atu.door.isClosed with
  | true =>
    have cpx := enterStarved_cpx_closed door
    refine ⟨?_, enterStarved_heat s, .inr (.inl ⟨door, .inr (by rw [cpx])⟩)⟩
    unfold stageSound
    rw [cpx]
    exact ⟨empty, inactive⟩
  | false =>
    have cpx := enterStarved_cpx_open door
    refine ⟨?_, enterStarved_heat s, .inr (.inr ⟨door, by rw [cpx]⟩)⟩
    unfold stageSound
    rw [cpx]
    exact fun active => absurd (inactive.symm.trans active) (by decide)

theorem dropHead_cpx (reason : ExitReason) (rest : List StageRec) (s : State) :
    (dropHead reason rest s).cpx =
      { s.cpx with stageActive := false, lastExit := reason, plan := rest, digest := planDigest rest } := rfl

/-- A run of GUARD stages exits behind an open door, each in turn; the first of another kind pauses. -/
theorem startStages_started {l : List StageRec} (held : s.cpx.plan = l) (some : l ≠ []) (running : s.cpx.cycle = .running) :
    Started s (startStages l s) := by
  induction l generalizing s with
  | nil => exact absurd rfl some
  | cons r rest ih =>
    unfold startStages
    dsimp only
    rw [stageStarted_door]
    split
    · next closed =>
      have cycle : (stageStarted r s).cpx.cycle = .running := by rw [stageStarted_cpx]; exact running
      refine ⟨?_, stageStarted_heat r running, .inl ⟨closed, cycle⟩⟩
      unfold stageSound
      rw [cycle]
      rw [stageStarted_cpx]
      exact ⟨held ▸ some, rfl⟩
    · next notClosed =>
      have door : s.atu.door.isClosed = false := by simpa using notClosed
      have leads {t u : State} (same : u.atu.door = s.atu.door) (h : Retired u t) (notStarted : t.cpx.cycle ≠ .running) :
          Started s t := by
        refine ⟨h.stage, h.heat, .inr ⟨door, ?_⟩⟩
        obtain done | ⟨closed, _⟩ | ⟨_, paused⟩ := h.cycle
        · exact .inr done
        · rw [same, door] at closed
          cases closed
        · exact .inl paused
      split
      · split
        · exact leads (by simp) (enterDone_retired .complete _) (by simp [enterDone_cpx])
        · cases rest with
          | nil =>
            refine leads (by simp) (enterStarved_retired rfl rfl) ?_
            simp [enterStarved_cpx_open (s := dropHead .door [] (drumStop (stageStarted r s))) (by simpa using door)]
          | cons r' rest =>
            have again := ih (s := dropHead .door (r' :: rest) (drumStop (stageStarted r s))) rfl (by simp)
              (by simp [dropHead_cpx, stageStarted_cpx, running])
            obtain ⟨closed, _⟩ | ⟨_, ended⟩ := again.cycle
            · simp [door] at closed
            · exact ⟨again.stage, again.heat, .inr ⟨door, ended⟩⟩
      · refine ⟨stageSound_enterPaused fun _ => ?_, enterPaused_heat _ _, .inr ⟨door, .inl (by rw [enterPaused_cpx])⟩⟩
        rw [stageStarted_cpx]
        exact held ▸ some

theorem startHead_started (some : s.cpx.plan ≠ []) (running : s.cpx.cycle = .running) : Started s (startHead s) :=
  startStages_started rfl some running

theorem retire_retired (reason : ExitReason) (some : s.cpx.plan ≠ []) (running : s.cpx.cycle = .running) :
    Retired s (retire reason s) := by
  unfold retire
  split
  · next empty => exact absurd empty some
  · next r rest held =>
    dsimp only
    generalize reported : (if r.kind = .dry ∧ reason = .time then
        report .cpx .info 0x52 (u16 s.cpx.ordinal ++ optField 2 u16 s.mest.f ++ u8 s.mest.b) s else s) = u
    have same : u.cpx = s.cpx ∧ u.atu = s.atu := by
      rw [← reported]
      split <;> simp
    have leads {t : State} (h : Retired (dropHead reason rest u) t) : Retired s t :=
      ⟨h.stage, h.heat, by simpa [same.2] using h.cycle⟩
    split
    · exact leads (enterDone_retired .complete _)
    · cases rest with
      | nil => exact leads (enterStarved_retired rfl rfl)
      | cons r' rest => exact leads (startHead_started (by simp [dropHead_cpx]) (by simp [dropHead_cpx, same.1, running])).retired

/-- A retirement with no stage held changes nothing. -/
theorem retire_nil (reason : ExitReason) (empty : s.cpx.plan = []) : retire reason s = s := by
  unfold retire
  rw [empty]

/-! ### A standing trip (R171) -/

theorem tripBars_iff (t : TripTable) :
    tripBars t = true ↔ ∃ c, tripClass c ≠ .pause ∧ (t.get c).state ≠ .clear := by
  simp [tripBars, mem_allCauses]

/-- A table with no new standing entry bars no more than before. -/
theorem tripBars_of_standing {t u : TripTable}
    (h : ∀ c, tripClass c ≠ .pause → (t.get c).state ≠ .clear → (u.get c).state ≠ .clear) (bars : tripBars t = true) :
    tripBars u = true := by
  obtain ⟨c, cls, standing⟩ := (tripBars_iff t).mp bars
  exact (tripBars_iff u).mpr ⟨c, cls, h c cls standing⟩

/-! ### The moves that keep the cycle's agreements -/

/-- A move that keeps the stage in agreement with the cycle (R127), a standing trip out of work (R171), and heat within the cycle (R94). -/
structure CycleKept (s t : State) : Prop where
  stage : stageSound s → stageSound t
  trips : tripsBarWork s → tripsBarWork t
  heat : heatWithinCycle s → heatWithinCycle t

theorem CycleKept.refl (s : State) : CycleKept s s := ⟨id, id, id⟩

theorem CycleKept.trans {u : State} (h : CycleKept s t) (h' : CycleKept t u) : CycleKept s u :=
  ⟨h'.stage ∘ h.stage, h'.trips ∘ h.trips, h'.heat ∘ h.heat⟩

theorem cycleKept_ite {p : Prop} [Decidable p] {a b : State} (ha : p → CycleKept s a) (hb : ¬ p → CycleKept s b) :
    CycleKept s (if p then a else b) := by
  split
  · exact ha ‹_›
  · exact hb ‹_›

theorem cycleKept_when {p : Prop} [Decidable p] {a : State} (ha : p → CycleKept s a) : CycleKept s (if p then a else s) :=
  cycleKept_ite ha fun _ => .refl s

theorem cycleKept_unless {p : Prop} [Decidable p] {a : State} (ha : ¬ p → CycleKept s a) : CycleKept s (if p then s else a) :=
  cycleKept_ite (fun _ => .refl s) ha

/-- A move that leaves the cycle state, the plan, the stage-active flag and TRIP. -/
theorem CycleKept.of_heat (hc : t.cpx.cycle = s.cpx.cycle) (hp : t.cpx.plan = s.cpx.plan)
    (ha : t.cpx.stageActive = s.cpx.stageActive) (ht : t.trip = s.trip) (heat : heatWithinCycle s → heatWithinCycle t) :
    CycleKept s t := by
  refine ⟨fun h => ?_, fun h => ?_, heat⟩
  · unfold stageSound at h ⊢
    rwa [hc, hp, ha]
  · unfold tripsBarWork at h ⊢
    rwa [hc, ht]

theorem CycleKept.of_cpx (hc : t.cpx = s.cpx) (ht : t.trip = s.trip) (heat : heatWithinCycle s → heatWithinCycle t) :
    CycleKept s t := .of_heat (by rw [hc]) (by rw [hc]) (by rw [hc]) ht heat

/-- A move of the other blocks. -/
theorem CycleKept.of_eq (hc : t.cpx = s.cpx) (ht : t.trip = s.trip) (hh : t.hstg = s.hstg) : CycleKept s t :=
  .of_cpx hc ht (heatWithinCycle_of_eq (by rw [hc]) hh)

/-- A move out of a working state, which no standing trip had left it in. -/
theorem CycleKept.of_working (working : s.cpx.cycle.working = true) (ht : t.trip = s.trip) (stage : stageSound s → stageSound t)
    (heat : heatWithinCycle t) : CycleKept s t := by
  refine ⟨stage, fun h bars => ?_, fun _ => heat⟩
  rw [ht] at bars
  obtain ⟨notRunning, notStarved, notPaused⟩ := h bars
  cases cycle : s.cpx.cycle <;> simp_all [CycleState.working]

theorem enterPaused_kept (cause : PauseCause) (work : s.cpx.cycle = .running ∨ s.cpx.cycle = .starved) :
    CycleKept s (enterPaused cause s) := by
  refine .of_working ?_ (by simp) (fun h => stageSound_enterPaused ?_) (enterPaused_heat _ _)
  · obtain running | starved := work
    · rw [running]; rfl
    · rw [starved]; rfl
  · unfold stageSound at h
    obtain running | starved := work
    · rw [running] at h
      exact fun _ => h.1
    · rw [starved] at h
      exact fun active => absurd (h.2.symm.trans active) (by decide)

theorem enterDone_kept (reason : EndReason) (work : s.cpx.cycle.working = true) : CycleKept s (enterDone reason s) :=
  .of_working work (by simp) (fun _ => stageSound_enterDone _ _) (enterDone_heat _ _)

theorem retire_kept (reason : ExitReason) (running : s.cpx.cycle = .running) : CycleKept s (retire reason s) := by
  obtain empty | some := eq_or_ne s.cpx.plan []
  · rw [retire_nil reason empty]
    exact .refl s
  · have retired := retire_retired reason some running
    exact .of_working (by rw [running]; rfl) (by simp) (fun _ => retired.stage) retired.heat

end Sys2Proof.Machine
end

section
/-! SUPPORT. Every command keeps the stage in agreement with the cycle (R127), a standing trip out of work (R171), and heat within the
cycle (R94, R100). -/

namespace Sys2Proof.Machine

variable {s t : State}

theorem working_of_running (h : s.cpx.cycle = .running) : s.cpx.cycle.working = true := by rw [h]; rfl
theorem working_of_starved (h : s.cpx.cycle = .starved) : s.cpx.cycle.working = true := by rw [h]; rfl
theorem working_of_paused (h : s.cpx.cycle = .paused) : s.cpx.cycle.working = true := by rw [h]; rfl

/-! ### The door, the dry signal, the count -/

theorem currentStage_some {c : Cpx} {r : StageRec} (h : currentStage c = some r) : c.stageActive = true ∧ c.plan ≠ [] := by
  unfold currentStage at h
  split at h
  · exact ⟨‹_›, fun empty => by simp [empty] at h⟩
  · cases h

theorem cpxDoorOpened_kept (s : State) : CycleKept s (cpxDoorOpened s) := by
  unfold cpxDoorOpened
  split
  · next running =>
    split
    · refine cycleKept_ite (fun _ => ?_) fun _ => enterPaused_kept _ (.inl running)
      exact .trans (.of_eq (by simp) (by simp) (by simp)) (retire_kept _ (s := drumStop s) (by simp [running]))
    · exact enterPaused_kept _ (.inl running)
  · next starved => exact enterPaused_kept _ (.inr starved)
  all_goals exact .refl s

theorem doorSettled_kept (s : State) : CycleKept s (s.updAtu doorSettled) := .of_eq rfl rfl rfl

theorem enterOff_kept (s : State) : CycleKept s (enterOff s) := .of_cpx (by simp) (by simp) enterOff_keeps_heat

theorem hstgStop_kept (fromCycle : Bool) (s : State) : CycleKept s (hstgStop fromCycle s) :=
  .of_cpx (by simp) (by simp) (hstgStop_keeps_heat fromCycle)

theorem doorOpened_kept (s : State) : CycleKept s (doorOpened s) := by
  have blower : CycleKept s (if s.atu.blower = .off then s else enterOff s) := cycleKept_unless fun _ => enterOff_kept s
  unfold doorOpened
  exact blower.trans ((cpxDoorOpened_kept _).trans (hstgStop_kept _ _))

theorem rerequest_kept (s : State) : CycleKept s (rerequest s) := .of_cpx (by simp) (by simp) rerequest_keeps_heat

theorem doorDebounced_kept (s : State) : CycleKept s (doorDebounced s) := by
  unfold doorDebounced
  refine cycleKept_unless fun _ => ?_
  dsimp only
  split
  · exact (doorSettled_kept s).trans (doorOpened_kept _)
  · exact (doorSettled_kept s).trans (rerequest_kept _)
  all_goals exact doorSettled_kept s

theorem dryReached_kept (ordinal : Nat) (s : State) : CycleKept s (dryReached ordinal s) := by
  have latched : CycleKept s (s.updCpx fun c => { c with dryLatched := true }) :=
    .of_heat rfl rfl rfl rfl (heatWithinCycle_of_eq rfl rfl)
  unfold dryReached
  split
  · exact .refl s
  · refine cycleKept_when fun _ => ?_
    split
    · next running => exact cycleKept_ite (fun _ => retire_kept _ running) fun _ => latched
    · exact latched
    · exact latched
    all_goals exact .refl s

theorem judgeCooled_kept (v : Int) (valid : Bool) (s : State) : CycleKept s (judgeCooled v valid s) := by
  unfold judgeCooled
  split
  · next running _ => exact cycleKept_when fun _ => retire_kept _ running
  · exact .refl s

theorem judgeCount_kept (running : s.cpx.cycle = .running) : CycleKept s (judgeCount s) := by
  unfold judgeCount
  split
  · exact .refl s
  · exact cycleKept_ite (fun _ => retire_kept _ running) fun _ => cycleKept_ite (fun _ => retire_kept _ running) fun _ =>
      cycleKept_when fun _ => .of_eq (by simp) (by simp) (by simp)

theorem countSecond_kept (s : State) : CycleKept s (countSecond s) := by
  unfold countSecond
  split
  · next running =>
    exact .trans (t := s.updCpx _) (.of_heat rfl rfl rfl rfl (heatWithinCycle_of_eq rfl rfl)) (judgeCount_kept running)
  · exact .of_heat rfl rfl rfl rfl (heatWithinCycle_of_eq rfl rfl)
  all_goals exact .refl s

theorem starveExpires_kept (s : State) : CycleKept s (starveExpires s) := by
  unfold starveExpires
  split
  · next starved _ => exact cycleKept_when fun _ => enterDone_kept _ (working_of_starved starved)
  · exact .refl s

theorem exhaustConverted_kept (raw : Int) (s : State) : CycleKept s (exhaustConverted raw s) := by
  unfold exhaustConverted
  refine .trans (.of_eq (t := judgeSensor _ _ _) (by simp) (by simp) (by simp)) (.trans (cycleKept_when fun _ => ?_)
    (.trans (.of_cpx (t := hstgExhaust _ _) (by simp) (by simp) (hstgExhaust_keeps_heat _)) (judgeCooled_kept _ _ _)))
  exact .trans (t := judgeFire _) (.of_eq (by simp) (by simp) (by simp)) (.of_cpx (by simp) (by simp) judgeRunOn_keeps_heat)

/-! ### TRIP -/

theorem cpxFault_working (work : s.cpx.cycle.working = true) :
    (cpxFault s).cpx = { s.cpx with starve := none, pauseCause := none, cycle := .faulted } := by
  unfold cpxFault
  split
  · simp [enterCycle_cpx]
  · simp [enterCycle_cpx]
  · simp [enterCycle_cpx]
  all_goals next h => rw [h] at work; cases work

theorem cpxFault_not_working (rest : s.cpx.cycle.working = false) : cpxFault s = s := by
  unfold cpxFault
  split
  · next h => rw [h] at rest; cases rest
  · next h => rw [h] at rest; cases rest
  · next h => rw [h] at rest; cases rest
  all_goals rfl

/-- A HALT or SEVERE cause in a working state: the cycle is FAULTED and no heat stands. -/
theorem stopEffects_working (severe : Bool) (work : s.cpx.cycle.working = true) :
    (stopEffects severe s).cpx = { s.cpx with starve := none, pauseCause := none, cycle := .faulted } ∧
      heatWithinCycle (stopEffects severe s) := by
  have effects : stopEffects severe s =
      blowerRequest (if severe then .off else .runOn) (drumStop (hstgStop true (cpxFault s))) := by
    unfold stopEffects
    split
    · rfl
    · rfl
    · rfl
    all_goals next h => rw [h] at work; cases work
  rw [effects]
  exact ⟨by simp [cpxFault_working work], blowerRequest_keeps_heat _ (drumStop_keeps_heat (hstgStop_heat _))⟩

/-- Outside a working state a HALT cause has no effect and a SEVERE one turns the blower OFF. -/
theorem stopEffects_not_working (severe : Bool) (rest : s.cpx.cycle.working = false) :
    stopEffects severe s = if severe then blowerRequest .off s else s := by
  unfold stopEffects
  rw [cpxFault_not_working rest]
  split
  · next h => rw [h] at rest; cases rest
  · next h => rw [h] at rest; cases rest
  · next h => rw [h] at rest; cases rest
  all_goals rfl

theorem stageSound_faulted {c : Cpx} (hc : t.cpx = { c with starve := none, pauseCause := none, cycle := .faulted })
    (work : s.cpx.cycle.working = true) (same : c = s.cpx) (h : stageSound s) : stageSound t := by
  subst same
  unfold stageSound at h ⊢
  rw [hc]
  cases cycle : s.cpx.cycle <;> rw [cycle] at h work
  case running => exact fun _ => h.1
  case starved => exact fun active => absurd (h.2.symm.trans active) (by decide)
  case paused => exact h
  all_goals cases work

/-- The effects of a cause that faults work leave the cycle out of work. -/
theorem stopEffects_kept (severe : Bool) {u : State} (hc : u.cpx = s.cpx) (hh : u.hstg = s.hstg) :
    CycleKept s (stopEffects severe u) ∧ (stopEffects severe u).cpx.cycle.working = false := by
  cases work : u.cpx.cycle.working with
  | true =>
    obtain ⟨cpx, heat⟩ := stopEffects_working severe work
    have out : (stopEffects severe u).cpx.cycle = .faulted := by rw [cpx]
    refine ⟨⟨stageSound_faulted cpx (by rw [← hc]; exact work) hc, fun _ _ => ?_, fun _ => heat⟩, by rw [out]; rfl⟩
    rw [out]
    decide
  | false =>
    have cpx : (stopEffects severe u).cpx = s.cpx := by
      rw [stopEffects_not_working severe work]
      split <;> simp [hc]
    have out : (stopEffects severe u).cpx.cycle.working = false := by rw [cpx, ← hc]; exact work
    refine ⟨⟨fun h => ?_, fun _ _ => ?_, fun h => ?_⟩, out⟩
    · unfold stageSound at h ⊢
      rwa [cpx]
    · cases cycle : (stopEffects severe u).cpx.cycle <;> simp_all [CycleState.working]
    · have heat : heatWithinCycle u := heatWithinCycle_of_eq (by rw [hc]) hh h
      rw [stopEffects_not_working severe work]
      split
      · exact blowerRequest_keeps_heat _ heat
      · exact heat

theorem cpxSilence_kept (s : State) : CycleKept s (cpxSilence s) := by
  unfold cpxSilence
  split
  · next running => exact enterPaused_kept _ (.inl running)
  · next starved => exact enterPaused_kept _ (.inr starved)
  all_goals exact .refl s

theorem takeCondition_kept (c : TripCause) (s : State) : CycleKept s (takeCondition c s) := by
  unfold takeCondition
  refine cycleKept_unless fun _ => ?_
  dsimp only
  generalize entered : raiseFlag .tripRaised _ = u
  have frame : u.cpx = s.cpx ∧ u.hstg = s.hstg ∧
      u.trip = s.trip.set c (occurred s.cpx.cycleElapsed s.cpx.ordinal (s.trip.get c)) := by
    rw [← entered]
    simp
  obtain ⟨hc, hh, ht⟩ := frame
  unfold classEffects
  split
  · exact (stopEffects_kept false hc hh).1
  · exact (stopEffects_kept true hc hh).1
  · next pause =>
    refine .trans ⟨fun h => ?_, fun h bars => ?_, heatWithinCycle_of_eq (by rw [hc]) hh⟩ (cpxSilence_kept u)
    · unfold stageSound at h ⊢
      rwa [hc]
    · rw [hc]
      refine h (tripBars_of_standing (fun c' cls standing => ?_) bars)
      rw [ht, TripTable.get_set] at standing
      split at standing
      · next same => exact absurd (same ▸ pause) cls
      · exact standing

/-- TRIP's table with no new standing entry. -/
theorem CycleKept.of_trip (hc : t.cpx = s.cpx) (hh : t.hstg = s.hstg)
    (ht : ∀ c, (t.trip.get c).state ≠ .clear → (s.trip.get c).state ≠ .clear) : CycleKept s t := by
  refine ⟨fun h => ?_, fun h bars => ?_, heatWithinCycle_of_eq (by rw [hc]) hh⟩
  · unfold stageSound at h ⊢
    rwa [hc]
  · rw [hc]
    exact h (tripBars_of_standing (fun c _ => ht c) bars)

theorem takeConditionEnd_kept (c : TripCause) (s : State) : CycleKept s (takeConditionEnd c s) := by
  unfold takeConditionEnd
  split
  · next active =>
    refine .of_trip (by simp) (by simp) fun c' standing => ?_
    simp only [report_frame, State.updTrip_trip, TripTable.get_set] at standing
    split at standing
    · next same => simp [same, active]
    · exact standing
  · exact .refl s

theorem tripTakes_kept (m : TripMsg) (s : State) : CycleKept s (tripTakes m s) := by
  unfold tripTakes
  split
  · exact takeConditionEnd_kept _ _
  · exact takeCondition_kept _ _

theorem takeTripMsg_kept {m : TripMsg} {act : State → State} (h : ∀ u, CycleKept u (act u)) (s : State) :
    CycleKept s (takeTripMsg m act s) := by
  unfold takeTripMsg
  exact cycleKept_when fun _ => .trans (t := s.updPaths _) (.of_eq rfl rfl rfl) (h _)

theorem settleSilence_kept (n : Nat) (ms : List TripMsg) (s : State) : CycleKept s (settleSilence n ms s) := by
  induction ms generalizing n s with
  | nil => cases n <;> exact .refl s
  | cons m ms ih =>
    cases n with
    | zero => exact .refl s
    | succ n => exact cycleKept_ite (fun _ => (takeTripMsg_kept (tripTakes_kept m) s).trans (ih _ _)) fun _ => ih _ _

theorem clearHeld_standing {e : TripEntry} (h : (clearHeld e).state ≠ .clear) : e.state ≠ .clear := by
  unfold clearHeld at h
  split at h
  · exact absurd rfl h
  · exact h

theorem ownTripClear_kept (payload : List Byte) (s : State) : CycleKept s (ownTripClear payload s).1 := by
  unfold ownTripClear
  dsimp only
  split
  · exact .of_trip rfl rfl fun c standing => clearHeld_standing (heldCleared_get s.trip c ▸ standing)
  · split
    · exact .refl s
    · next c _ =>
      split
      · exact .refl s
      · refine .of_trip rfl rfl fun c' standing => ?_
        rw [State.updTrip_trip, TripTable.get_set] at standing
        split at standing
        · next same => exact same ▸ clearHeld_standing standing
        · exact standing

/-! ### The requests CPX owns -/

/-- A cycle that leaves a state without heat takes none with it. -/
theorem heatWithinCycle_from_rest (rest : s.cpx.cycle ≠ .running ∧ s.cpx.cycle ≠ .starved) (hh : t.hstg = s.hstg)
    (h : heatWithinCycle s) : heatWithinCycle t := by
  unfold heatWithinCycle State.elem at h ⊢
  rw [hh]
  exact ⟨fun on => absurd (h.1 on) rest.1, h.2.1, fun _ _ => h.2.2 rest.1 rest.2⟩

theorem enterCycle_heat_from_rest (new : CycleState) (rest : s.cpx.cycle ≠ .running ∧ s.cpx.cycle ≠ .starved)
    (h : heatWithinCycle s) : heatWithinCycle (enterCycle new s) := heatWithinCycle_from_rest rest (by simp) h

theorem checkStages_ne_nil {payload : List Byte} {rs : List StageRec} (some : 20 ≤ payload.length)
    (ok : checkStages 1 (chunks 20 (payload.length / 20) payload) = .ok rs) : rs ≠ [] := by
  intro empty
  have length := (checkStages_final ok).1
  rw [chunks_length, empty, List.length_nil] at length
  omega

theorem ownPlanAppend_kept {payload : List Byte} (some : 20 ≤ payload.length) (s : State) :
    CycleKept s (ownPlanAppend payload s).1 := by
  unfold ownPlanAppend
  dsimp only
  split
  · exact .refl s
  · next open_ =>
    split
    · exact .refl s
    · split
      · exact .refl s
      · split
        · exact .refl s
        · next rs ok =>
          dsimp only
          generalize joins : (rs.map fun r =>
            if r.kind.heats then { r with exhaustTarget := clampTarget s.profile r } else r) = l
          have more : s.cpx.plan ++ l ≠ [] := by
            rw [← joins]
            simp [checkStages_ne_nil some ok]
          have joined (hc : stageSound s → stageSound (setPlan (s.cpx.plan ++ l) s)) : CycleKept s (setPlan (s.cpx.plan ++ l) s) :=
            ⟨hc, fun h => h, heatWithinCycle_of_eq rfl rfl⟩
          split
          · next idle =>
            refine ⟨fun h => ?_, fun _ _ => ?_, fun h => ?_⟩
            · unfold stageSound at h ⊢
              rw [idle] at h
              simpa [enterCycle_cpx, setPlan, h.2] using more
            · simp [enterCycle_cpx]
            · exact heatWithinCycle_from_rest (by simp [idle]) (by simp) h
          · next starved =>
            have started := startHead_started (s := enterCycle .running
              ((setPlan (s.cpx.plan ++ l) s).updCpx fun c => { c with starve := none })) (by simpa [enterCycle_cpx, setPlan] using more)
                (by simp [enterCycle_cpx])
            exact .of_working (working_of_starved starved) (by simp) (fun _ => started.stage) started.heat
          · next ready =>
            refine joined fun h => ?_
            unfold stageSound at h ⊢
            rw [ready] at h
            simpa [setPlan, ready, h.2] using more
          · next running =>
            refine joined fun h => ?_
            unfold stageSound at h ⊢
            rw [running] at h
            simpa [setPlan, running, h.2] using more
          · next paused =>
            refine joined fun h => ?_
            unfold stageSound
            simpa [setPlan, paused] using fun _ => more
          · next faulted => exact absurd (.inl faulted) open_
          · next done => exact absurd (.inr done) open_

theorem ownPlanClear_kept (s : State) : CycleKept s (ownPlanClear s).1 := by
  unfold ownPlanClear
  split
  · next idle =>
    refine ⟨fun _ => ?_, fun h => h, heatWithinCycle_of_eq rfl rfl⟩
    unfold stageSound
    simp [setPlan, idle]
  · next ready =>
    refine ⟨fun _ => ?_, fun _ _ => by simp [enterCycle_cpx], fun h => ?_⟩
    · unfold stageSound
      simp [setPlan, enterCycle_cpx]
    · exact heatWithinCycle_from_rest (by simp [ready]) (by simp) h
  all_goals exact .refl s

theorem ownStart_kept (s : State) : CycleKept s (ownStart s).1 := by
  unfold ownStart
  split
  · exact .refl s
  · next isReady =>
    split
    · exact .refl s
    · split
      · exact .refl s
      · next noTrip =>
        have ready := not_not.mp isReady
        dsimp only
        generalize cleared : mestStart _ = v
        have vFrame : v.cpx.plan = s.cpx.plan ∧ v.cpx.cycle = .ready ∧ v.trip = s.trip ∧ v.hstg = s.hstg := by
          rw [← cleared]
          simp [ready]
        generalize begun : enterCycle .running (blowerRequest .on v) = u
        have uFrame : u.cpx.plan = v.cpx.plan ∧ u.cpx.cycle = .running ∧ u.trip = v.trip ∧ u.hstg = (blowerRequest .on v).hstg := by
          rw [← begun]
          simp [enterCycle_cpx]
        obtain ⟨vPlan, vCycle, vTrip, vHstg⟩ := vFrame
        obtain ⟨plan, running, trip, hstg⟩ := uFrame
        have started (some : s.cpx.plan ≠ []) := startHead_started (s := u) (by rwa [plan, vPlan]) running
        have notBarred : tripBars (startHead u).trip = false := by simpa [trip, vTrip] using noTrip
        refine ⟨fun h => ?_, fun _ bars => absurd (notBarred.symm.trans bars) (by decide), fun h => ?_⟩
        · unfold stageSound at h
          rw [ready] at h
          exact (started h.1).stage
        · obtain empty | some := eq_or_ne s.cpx.plan []
          · have idle : startHead u = u := by rw [startHead, plan, vPlan, empty]; rfl
            rw [idle]
            have before : heatWithinCycle v := heatWithinCycle_of_eq (by rw [vCycle, ready]) vHstg h
            exact heatWithinCycle_from_rest (by simp [vCycle]) hstg (blowerRequest_keeps_heat .on before)
          · exact (started some).heat

theorem ownPause_kept (s : State) : CycleKept s (ownPause s).1 := by
  unfold ownPause
  split
  · next running => exact enterPaused_kept _ (.inl running)
  · next starved => exact enterPaused_kept _ (.inr starved)
  all_goals exact .refl s

theorem ownAbort_kept (s : State) : CycleKept s (ownAbort s).1 := by
  unfold ownAbort
  split
  · next running => exact enterDone_kept _ (working_of_running running)
  · next starved => exact enterDone_kept _ (working_of_starved starved)
  · next paused => exact enterDone_kept _ (working_of_paused paused)
  all_goals exact .refl s

theorem ownAdvance_kept (s : State) : CycleKept s (ownAdvance s).1 := by
  unfold ownAdvance
  split
  · next running => exact retire_kept _ running
  all_goals exact .refl s

theorem resumeStage_cpx (r : StageRec) (s : State) : (resumeStage r s).cpx = { s.cpx with cycle := .running } := by
  unfold resumeStage
  by_cases guard : r.kind = .guard <;> simp [guard]

theorem resumeStarved_cpx (s : State) :
    (resumeStarved s).cpx = { s.cpx with cycle := .starved, starve := some ⟨s.profile.starveLimit, 0⟩ } := by
  unfold resumeStarved
  dsimp only
  split <;> simp [State.profile]

theorem resumeStage_heat (r : StageRec) (s : State) : heatWithinCycle (resumeStage r s) := by
  have resumed {u : State} (cpx : u.cpx = { s.cpx with cycle := .running }) : heatWithinCycle (hstgResume r.kind.heats u) :=
    hstgResume_heat (.inl (by rw [cpx]))
  unfold resumeStage
  dsimp only
  refine reportChange_keeps_heat _ (blowerRequest_keeps_heat _ (resumed ?_))
  split <;> simp

theorem resumeStarved_heat (s : State) : heatWithinCycle (resumeStarved s) := by
  have resumed {u : State} (cpx : u.cpx = { s.cpx with cycle := .starved }) : heatWithinCycle (hstgResume false u) :=
    hstgResume_heat (.inr ⟨by rw [cpx], rfl⟩)
  unfold resumeStarved
  dsimp only
  refine reportChange_keeps_heat _ (heatWithinCycle_of_eq (s := blowerRequest .on (hstgResume false _)) rfl rfl
    (blowerRequest_keeps_heat _ (resumed ?_)))
  split <;> simp

theorem resumeHead_started (some : s.cpx.plan ≠ []) : Started s (resumeHead s) := by
  have started := startHead_started (s := blowerRequest .on (enterCycle .running s))
    (by simpa [enterCycle_cpx] using some) (by simp [enterCycle_cpx])
  exact ⟨started.stage, started.heat, by simpa [resumeHead] using started.cycle⟩

/-- What an accepted RESUME carries out, by the stage and the plan (R157). -/
def resumed (s : State) : State :=
  match currentStage s.cpx with
  | some r => resumeStage r s
  | none => if s.cpx.plan.isEmpty then resumeStarved s else resumeHead s

theorem resumed_kept (paused : s.cpx.cycle = .paused) : CycleKept s (resumed s) := by
  unfold resumed
  split
  · next r current =>
    obtain ⟨active, some⟩ := currentStage_some current
    refine .of_working (working_of_paused paused) (by simp) (fun _ => ?_) (resumeStage_heat _ _)
    unfold stageSound
    rw [resumeStage_cpx]
    exact ⟨some, active⟩
  · next none =>
    refine cycleKept_ite (fun empty => ?_) fun some => ?_
    · refine .of_working (working_of_paused paused) (by simp) (fun h => ?_) (resumeStarved_heat _)
      unfold stageSound at h ⊢
      rw [paused] at h
      rw [resumeStarved_cpx]
      have nil : s.cpx.plan = [] := by simpa using empty
      exact ⟨nil, by simpa using fun active => h active nil⟩
    · have started := resumeHead_started (s := s) (by simpa using some)
      exact .of_working (working_of_paused paused) (by simp) (fun _ => started.stage) started.heat

/-- The Trip Table RESUME leaves: a HELD HOST_SILENT entry is CLEAR (R157). -/
def silenceCleared (t : TripTable) : TripTable :=
  if t.hostSilent.state = .held then { t with hostSilent := { t.hostSilent with state := .clear } } else t

theorem silenceCleared_standing (t : TripTable) (c : TripCause) (h : ((silenceCleared t).get c).state ≠ .clear) :
    (t.get c).state ≠ .clear := by
  unfold silenceCleared at h
  split at h
  · cases c
    case hostSilent => exact absurd rfl h
    all_goals exact h
  · exact h

theorem ownResume_kept (s : State) : CycleKept s (ownResume s).1 := by
  unfold ownResume
  split
  · exact .refl s
  · next isPaused =>
    split
    · exact .refl s
    · split
      · exact .refl s
      · split
        · exact .refl s
        · refine .trans (t := (s.updTrip silenceCleared).updCpx fun c => { c with pauseCause := none }) ?_
            (resumed_kept (not_not.mp isPaused))
          exact .trans (t := s.updTrip silenceCleared) (.of_trip rfl rfl fun c => silenceCleared_standing s.trip c)
            (.of_heat rfl rfl rfl rfl (heatWithinCycle_of_eq rfl rfl))

theorem closeCycle_cpx (s : State) :
    (closeCycle s).cpx =
      { s.cpx with ordinal := 0, stageElapsed := 0, cycleElapsed := 0, endReason := .none, stageActive := false,
                   dryLatched := false, plan := [], digest := planDigest [], cycle := .idle } := by
  simp [closeCycle, enterCycle_cpx, setPlan]

theorem closeCycle_kept (rest : s.cpx.cycle ≠ .running ∧ s.cpx.cycle ≠ .starved) : CycleKept s (closeCycle s) := by
  refine ⟨fun _ => ?_, fun _ _ => by simp [closeCycle_cpx], fun h => ?_⟩
  · unfold stageSound
    rw [closeCycle_cpx]
    exact ⟨rfl, rfl⟩
  · refine enterCycle_heat_from_rest .idle (by simpa [setPlan] using rest) (hstgClose_keeps_heat (mestWithdraw_keeps_heat ?_))
    exact heatWithinCycle_of_eq (s := s) rfl rfl h

theorem ownCycleClose_kept (s : State) : CycleKept s (ownCycleClose s).1 := by
  unfold ownCycleClose
  split
  · next done => exact closeCycle_kept (by simp [done])
  · next faulted =>
    split
    · exact .refl s
    · exact closeCycle_kept (by simp [faulted])
  all_goals exact .refl s

theorem loadContext_cpx (c : ContextRec) (l : LoadedContext) (head : StageRec) (s : State) :
    (loadContext c l head s).cpx =
      { s.cpx with stageActive := true, ordinal := c.ordinal, stageElapsed := c.stageElapsed, cycleElapsed := c.cycleElapsed,
                   dryLatched := l.dryLatched, endReason := .none, pauseCause := some .restored, cycle := .paused } := by
  simp [loadContext, enterCycle_cpx]

theorem loadContext_kept (c : ContextRec) (l : LoadedContext) (head : StageRec) (ready : s.cpx.cycle = .ready)
    (some : s.cpx.plan ≠ []) (noTrip : tripBars s.trip = false) : CycleKept s (loadContext c l head s) := by
  refine ⟨fun _ => ?_, fun _ bars => ?_, fun h => ?_⟩
  · unfold stageSound
    rw [loadContext_cpx]
    exact fun _ => some
  · rw [show (loadContext c l head s).trip = s.trip by simp, noTrip] at bars
    cases bars
  · unfold loadContext
    dsimp only
    refine enterCycle_heat_from_rest .paused (by simp [ready]) (heatWithinCycle_of_eq (s := hstgLoad _ _ _) rfl rfl
      (hstgLoad_keeps_heat _ _ ?_))
    exact heatWithinCycle_of_eq (by simp) (by simp) h

theorem ownContextLoad_kept (payload : List Byte) (s : State) : CycleKept s (ownContextLoad payload s).1 := by
  unfold ownContextLoad
  dsimp only
  split
  · exact .refl s
  · next isReady =>
    split
    · exact .refl s
    · next noTrip =>
      (repeat' split) <;> first
        | exact .refl s
        | exact loadContext_kept _ _ _ (not_not.mp isReady) (by simp_all) (by simpa using noTrip)

end Sys2Proof.Machine
end

section
/-! SUPPORT. Every command keeps the cycle's agreements, and with it O37, O57 and O60. -/

namespace Sys2Proof.Machine

variable {s t : State}

/-! ### Every command -/

theorem putReply_kept (kind tag : Byte) (code : ReplyCode) (s : State) : CycleKept s (putReply kind tag code s) := .of_eq rfl rfl rfl

/-- A delivery keeps the agreements where its owner does, at the lengths LINK admits. -/
theorem serve_kept {kind tag : Byte} {payload : List Byte} {owner : State → State × ReplyCode}
    (h : lengthAllowed kind payload.length = true → ∀ u, CycleKept u (owner u).1) (s : State) :
    CycleKept s (serve kind tag payload owner s) := by
  unfold serve
  split
  · exact .refl s
  · next f rest due =>
    refine .trans (t := s.updLink fun l => { l with inbound := rest }) (.of_eq rfl rfl rfl) ?_
    refine cycleKept_ite (fun _ => putReply_kept _ _ _ _) fun _ => cycleKept_ite (fun admitted => ?_) fun _ => putReply_kept _ _ _ _
    exact (settleSilence_kept _ _ _).trans ((h admitted _).trans (putReply_kept _ _ _ _))

theorem serve_reads_kept {kind tag : Byte} {payload : List Byte} {owner : State → State × ReplyCode}
    (h : ∀ u, (owner u).1 = u) (s : State) : CycleKept s (serve kind tag payload owner s) :=
  serve_kept (fun _ u => by rw [h]; exact .refl u) s

/-- An owner that touches neither CPX, TRIP nor HSTG. -/
theorem serve_apart_kept {kind tag : Byte} {payload : List Byte} {owner : State → State × ReplyCode}
    (h : ∀ u, (owner u).1.cpx = u.cpx ∧ (owner u).1.trip = u.trip ∧ (owner u).1.hstg = u.hstg) (s : State) :
    CycleKept s (serve kind tag payload owner s) := by
  refine serve_kept (fun _ u => ?_) s
  obtain ⟨cpx, trip, hstg⟩ := h u
  exact .of_eq cpx trip hstg

theorem ownPatternSet_apart (payload : List Byte) (s : State) :
    (ownPatternSet payload s).1.cpx = s.cpx ∧ (ownPatternSet payload s).1.trip = s.trip ∧
      (ownPatternSet payload s).1.hstg = s.hstg := by
  unfold ownPatternSet
  dsimp only
  (repeat' split) <;> exact ⟨rfl, rfl, rfl⟩

theorem ownReportLevelSet_apart (payload : List Byte) (s : State) :
    (ownReportLevelSet payload s).1.cpx = s.cpx ∧ (ownReportLevelSet payload s).1.trip = s.trip ∧
      (ownReportLevelSet payload s).1.hstg = s.hstg := by
  unfold ownReportLevelSet
  dsimp only
  split <;> exact ⟨rfl, rfl, rfl⟩

theorem ownLinkReset_apart (s : State) :
    (ownLinkReset s).1.cpx = s.cpx ∧ (ownLinkReset s).1.trip = s.trip ∧ (ownLinkReset s).1.hstg = s.hstg := by
  unfold ownLinkReset
  (repeat' split) <;> exact ⟨rfl, rfl, rfl⟩

theorem ownProfileStore_apart (s : State) :
    (ownProfileStore s).1.cpx = s.cpx ∧ (ownProfileStore s).1.trip = s.trip ∧ (ownProfileStore s).1.hstg = s.hstg := by
  unfold ownProfileStore
  (repeat' split) <;> simp

theorem ownAllowanceSet_apart (payload : List Byte) (s : State) :
    (ownAllowanceSet payload s).1.cpx = s.cpx ∧ (ownAllowanceSet payload s).1.trip = s.trip ∧
      (ownAllowanceSet payload s).1.hstg = s.hstg := by
  unfold ownAllowanceSet
  dsimp only
  (repeat' split) <;> simp

theorem applyProfile_kept (p : Profile) (s : State) : CycleKept s (applyProfile p s) :=
  .of_cpx (by simp) (by simp) fun h => heatWithinCycle_of_eq (s := hstgProfile (profileTaken p s)) rfl rfl
    (hstgProfile_keeps_heat (heatWithinCycle_of_eq (s := s) rfl rfl h))

theorem settleAccount_kept (s : State) : CycleKept s (settleAccount s) := .of_eq (by simp) (by simp) (by simp)

theorem ownProfileSet_kept (payload : List Byte) (s : State) : CycleKept s (ownProfileSet payload s).1 := by
  unfold ownProfileSet
  split
  · exact .refl s
  · split
    · exact .refl s
    · exact (settleAccount_kept s).trans (applyProfile_kept _ _)

theorem takeSaaMsg_kept {m : SaaMsg} {act : State → State} (h : ∀ u, CycleKept u (act u)) (s : State) :
    CycleKept s (takeSaaMsg m act s) := by
  unfold takeSaaMsg
  split
  · exact cycleKept_when fun _ => .trans (t := s.updPaths _) (.of_eq rfl rfl rfl) (h _)
  · exact .refl s

theorem takeDry_kept {n : Nat} {act : State → State} (h : ∀ u, CycleKept u (act u)) (s : State) :
    CycleKept s (takeDry n act s) := by
  unfold takeDry
  split
  · exact cycleKept_when fun _ => .trans (t := s.updPaths _) (.of_eq rfl rfl rfl) (h _)
  · exact .refl s

theorem takeHstgMsg_kept {m : HstgMsg} {act : State → State} (h : ∀ u, CycleKept u (act u)) (s : State) :
    CycleKept s (takeHstgMsg m act s) := by
  unfold takeHstgMsg
  split
  · exact cycleKept_when fun _ => .trans (t := s.updPaths _) (.of_eq rfl rfl rfl) (h _)
  · exact .refl s

theorem takeDrumMsg_kept {m : DrumMsg} {act : State → State} (h : ∀ u, CycleKept u (act u)) (s : State) :
    CycleKept s (takeDrumMsg m act s) := by
  unfold takeDrumMsg
  split
  · exact cycleKept_when fun _ => .trans (t := s.updPaths _) (.of_eq rfl rfl rfl) (h _)
  · exact .refl s

theorem takeSurgeGrant_kept {n : Byte} {act : State → State} (h : ∀ u, CycleKept u (act u)) (s : State) :
    CycleKept s (takeSurgeGrant n act s) := by
  unfold takeSurgeGrant
  split
  · exact cycleKept_when fun _ => .trans (t := s.updPaths _) (.of_eq rfl rfl rfl) (h _)
  · exact .refl s

theorem serveUnknown_kept (kind tag : Byte) (payload : List Byte) (s : State) : CycleKept s (serveUnknown kind tag payload s) := by
  unfold serveUnknown
  split
  · exact .refl s
  · refine cycleKept_unless fun _ => .of_eq ?_ ?_ ?_ <;> rfl

theorem lengthAllowed_planAppend_le {n : Nat} (h : lengthAllowed 0x20 n = true) : 20 ≤ n := by
  have : n = 20 ∨ n = 40 ∨ n = 60 ∨ n = 80 := by simpa [lengthAllowed] using h
  omega

/-- Every command that is no reset keeps the agreements. -/
theorem exec_kept {c : Instr} {s t : State} (notReset : isReset c = false) (h : exec c s = .next t) : CycleKept s t := by
  have only {u : State} (kept : CycleKept s u) (same : Host.Outcome.next (φ := Fault) (ρ := Refusal) u = .next t) :
      CycleKept s t := by
    injection same with same
    exact same ▸ kept
  cases c with
  | powerOn | brownOut | pinReset | linkResetFollows => cases notReset
  | rxByte b => exact only (.of_eq (by simp) (by simp) (by simp)) h
  | gapTimerExpiry => exact only (cycleKept_when fun _ => .of_eq (by simp) (by simp) (by simp)) h
  | txFrameBoundary => exact only (.of_eq (by simp) (by simp) (by simp)) h
  | silenceTimerExpiry => exact only (cycleKept_unless fun _ => .of_eq (by simp) (by simp) (by simp)) h
  | unknownKindRequest kind tag payload => exact only (serveUnknown_kept kind tag payload s) h
  | profileSet tag payload => exact only (serve_kept (fun _ => ownProfileSet_kept payload) s) h
  | profileStore tag payload => exact only (serve_apart_kept ownProfileStore_apart s) h
  | allowanceSet tag payload => exact only (serve_apart_kept (ownAllowanceSet_apart payload) s) h
  | reportLevelSet tag payload => exact only (serve_apart_kept (ownReportLevelSet_apart payload) s) h
  | linkReset tag payload => exact only (serve_apart_kept ownLinkReset_apart s) h
  | patternSet tag payload => exact only (serve_apart_kept (ownPatternSet_apart payload) s) h
  | planAppend tag payload => exact only (serve_kept (fun admitted => ownPlanAppend_kept (lengthAllowed_planAppend_le admitted)) s) h
  | planClear tag payload => exact only (serve_kept (fun _ => ownPlanClear_kept) s) h
  | start tag payload => exact only (serve_kept (fun _ => ownStart_kept) s) h
  | pause tag payload => exact only (serve_kept (fun _ => ownPause_kept) s) h
  | resume tag payload => exact only (serve_kept (fun _ => ownResume_kept) s) h
  | abort tag payload => exact only (serve_kept (fun _ => ownAbort_kept) s) h
  | advance tag payload => exact only (serve_kept (fun _ => ownAdvance_kept) s) h
  | cycleClose tag payload => exact only (serve_kept (fun _ => ownCycleClose_kept) s) h
  | statusGet tag payload => exact only (serve_apart_kept (fun _ => ⟨rfl, rfl, rfl⟩) s) h
  | tripClear tag payload => exact only (serve_kept (fun _ => ownTripClear_kept payload) s) h
  | contextLoad tag payload => exact only (serve_kept (fun _ => ownContextLoad_kept payload) s) h
  | probe | profileGet | nop | trendGet | tripGet => exact only (serve_reads_kept (fun _ => rfl) s) h
  | patternGet tag payload => exact only (serve_reads_kept (ownPatternGet_state payload) s) h
  | planGet tag payload => exact only (serve_reads_kept (ownPlanGet_state payload) s) h
  | historyGet tag payload => exact only (serve_reads_kept (ownHistoryGet_state payload) s) h
  | contextGet tag payload => exact only (serve_reads_kept ownContextGet_state s) h
  | tachPulse current rawCount => exact only (.of_eq (by simp) (by simp) (by simp)) h
  | indexMarker elapsed => exact only (.of_eq (by simp) (by simp) (by simp)) h
  | stopDetectExpiry => exact only (.of_eq (by simp) (by simp) (by simp)) h
  | accelTimerExpiry => exact only (.of_eq (by simp) (by simp) (by simp)) h
  | dwellExpiry => exact only (cycleKept_when fun _ => .of_eq (by simp) (by simp) (by simp)) h
  | stallTimerExpiry => exact only (.of_eq (by simp) (by simp) (by simp)) h
  | surgeGrant n => exact only (takeSurgeGrant_kept (fun _ => .of_eq (by simp) (by simp) (by simp)) s) h
  | conversionComplete ch raw =>
    cases ch with
    | exhaust => exact only (exhaustConverted_kept raw s) h
    | inlet => exact only (.of_cpx (by simp) (by simp) (inletConverted_keeps_heat raw)) h
    | pressure => exact only (.of_cpx (by simp) (by simp) (pressureConverted_keeps_heat raw)) h
    | lineCurrent => exact only (.of_eq (by simp) (by simp) (by simp)) h
  | inputLevelChange pin level => exact only (.of_eq (by simp) (by simp) (by simp)) h
  | debounceExpiry pin =>
    cases pin with
    | door => exact only (doorDebounced_kept s) h
    | highLimit => exact only (.of_cpx (by simp) (by simp) highLimitDebounced_keeps_heat) h
  | graceTimerExpiry => exact only (cycleKept_unless fun _ => .of_eq (by simp) (by simp) (by simp)) h
  | lowFlowExpiry => exact only (cycleKept_unless fun _ => .of_eq (by simp) (by simp) (by simp)) h
  | runOnTimerExpiry => exact only (cycleKept_when fun _ => enterOff_kept s) h
  | minOnExpiry e => exact only (.of_cpx (by simp) (by simp) (minOnExpires_keeps_heat e)) h
  | minOffExpiry e => exact only (.of_cpx (by simp) (by simp) (minOffExpires_keeps_heat e)) h
  | elementGrant e => exact only (takeSaaMsg_kept (fun _ => .of_cpx (by simp) (by simp) (takeGrant_keeps_heat e)) s) h
  | shed e => exact only (takeSaaMsg_kept (fun _ => .of_cpx (by simp) (by simp) (takeShed_keeps_heat e)) s) h
  | elementRequest e current => exact only (takeHstgMsg_kept (fun _ => .of_eq (by simp) (by simp) (by simp)) s) h
  | elementWithdrawal e => exact only (takeHstgMsg_kept (fun _ => .of_eq (by simp) (by simp) (by simp)) s) h
  | elementRelease e => exact only (takeHstgMsg_kept (fun _ => .of_eq (by simp) (by simp) (by simp)) s) h
  | onFreeNotice e => exact only (takeHstgMsg_kept (fun _ => .of_eq (by simp) (by simp) (by simp)) s) h
  | surgeRequest n => exact only (takeDrumMsg_kept (fun _ => .of_eq (by simp) (by simp) (by simp)) s) h
  | surgeRelease n => exact only (takeDrumMsg_kept (fun _ => .of_eq (by simp) (by simp) (by simp)) s) h
  | surgeWithdrawal n => exact only (takeDrumMsg_kept (fun _ => .of_eq (by simp) (by simp) (by simp)) s) h
  | grantTimerExpiry => exact only (.of_eq (by simp) (by simp) (by simp)) h
  | oneSecondCount => exact only (countSecond_kept s) h
  | starveTimerExpiry => exact only (starveExpires_kept s) h
  | dryReachedSignal ordinal => exact only (takeDry_kept (dryReached_kept ordinal) s) h
  | tripCondition c => exact only (takeTripMsg_kept (takeCondition_kept c) s) h
  | tripConditionEnd c => exact only (takeTripMsg_kept (takeConditionEnd_kept c) s) h
  | storeVerify readBack => exact only (.of_eq (by simp) (by simp) (by simp)) h

/-! ### The resets -/

theorem resetPart_cycle (cause : ResetCause) (s : State) :
    (resetPart cause s).cpx.cycle = .idle ∧ (resetPart cause s).cpx.plan = [] ∧ (resetPart cause s).cpx.stageActive = false :=
  ⟨rfl, rfl, rfl⟩

theorem stageSound_resetPart (cause : ResetCause) (s : State) : stageSound (resetPart cause s) := by
  obtain ⟨cycle, plan, inactive⟩ := resetPart_cycle cause s
  unfold stageSound
  rw [cycle]
  exact ⟨plan, inactive⟩

theorem tripsBarWork_resetPart (cause : ResetCause) (s : State) : tripsBarWork (resetPart cause s) := fun _ => by
  rw [(resetPart_cycle cause s).1]
  decide

theorem heatWithinCycle_resetPart (cause : ResetCause) (s : State) : heatWithinCycle (resetPart cause s) :=
  ⟨fun on => (nomatch on), fun _ => rfl, fun _ _ => resetPart_not_counted cause s⟩

/-- A command is a reset or keeps the agreements. -/
theorem exec_kept_or_reset {c : Instr} {s t : State} (h : exec c s = .next t) :
    CycleKept s t ∨ ∃ cause, t = resetPart cause s := by
  cases reset : isReset c with
  | false => exact .inl (exec_kept reset h)
  | true =>
    cases c
    case powerOn =>
      injection h with h
      exact .inr ⟨_, h.symm⟩
    case brownOut =>
      injection h with h
      exact .inr ⟨_, h.symm⟩
    case pinReset =>
      injection h with h
      split at h
      · exact .inr ⟨_, h.symm⟩
      · exact .inl (h ▸ .refl s)
    case linkResetFollows =>
      injection h with h
      split at h
      · exact .inr ⟨_, h.symm⟩
      · exact .inl (h ▸ .refl s)
    all_goals cases reset

/-- A step keeps the agreements, or has reset the part. -/
theorem step_kept_or_reset {s t : State} (h : step s = .next t) : CycleKept s t ∨ ∃ cause u, t = resetPart cause u := by
  cases pending : s.pending with
  | nil =>
    rw [step_nil pending] at h
    injection h with h
    exact .inl (h ▸ .refl s)
  | cons c rest =>
    rw [step_cons pending] at h
    obtain kept | ⟨cause, rfl⟩ := exec_kept_or_reset h
    · exact .inl (.trans (t := { s with pending := rest }) (.of_eq rfl rfl rfl) kept)
    · exact .inr ⟨cause, _, rfl⟩

/-! ### The three invariants -/

theorem step_keeps_stageSound (s t : State) (hs : stageSound s) (h : step s = .next t) : stageSound t := by
  obtain kept | ⟨cause, u, rfl⟩ := step_kept_or_reset h
  · exact kept.stage hs
  · exact stageSound_resetPart cause u

theorem step_keeps_tripsBarWork (s t : State) (hs : tripsBarWork s) (h : step s = .next t) : tripsBarWork t := by
  obtain kept | ⟨cause, u, rfl⟩ := step_kept_or_reset h
  · exact kept.trips hs
  · exact tripsBarWork_resetPart cause u

theorem step_keeps_heatWithinCycle (s t : State) (hs : heatWithinCycle s) (h : step s = .next t) : heatWithinCycle t := by
  obtain kept | ⟨cause, u, rfl⟩ := step_kept_or_reset h
  · exact kept.heat hs
  · exact heatWithinCycle_resetPart cause u

/-- Settles O57: the plan follows the changes of the buffer, and every move of the cycle leaves the stage in agreement with it. -/
theorem planAndStageAgreeWithTheCycle : Obligations.PlanAndStageAgreeWithTheCycle :=
  ⟨⟨State.reset_eq ▸ planSound_resetPart _ _, State.reset_eq ▸ stageSound_resetPart _ _⟩,
    step_keeps (fun _ _ h => h) (fun _ _ _ change h => change.keeps_planSound h) fun cause u _ => planSound_resetPart cause u,
    step_keeps_stageSound⟩

/-- A standing trip stands outside work, and there no element is energized (R100, R171). -/
theorem tripBars_no_heat (trips : tripsBarWork s) (heat : heatWithinCycle s) (bars : tripBars s.trip = true) (e : Element) :
    (s.elem e).state.energized = false := by
  obtain ⟨notRunning, notStarved, _⟩ := trips bars
  exact ElementState.energized_of_not_counted (heat.2.2 notRunning notStarved e)

/-- Settles O37: every command keeps heat within the cycle, and a standing trip keeps the cycle out of work. -/
theorem heatOnlyInAWorkingUntrippedCycle : Obligations.HeatOnlyInAWorkingUntrippedCycle := by
  refine ⟨⟨State.reset_eq ▸ heatWithinCycle_resetPart _ _, State.reset_eq ▸ tripsBarWork_resetPart _ _⟩, fun s t heat trips h => ?_⟩
  have after := step_keeps_heatWithinCycle s t heat h
  exact ⟨after, tripBars_no_heat (step_keeps_tripsBarWork s t trips h) after⟩

end Sys2Proof.Machine
end

section
/-! SUPPORT. The requests CPX owns, delivered, behind a standing trip (R136, R148, R161, R171). -/

namespace Sys2Proof.Machine

variable {s t : State}

theorem ownStart_tripped (ready : s.cpx.cycle = .ready) (closed : s.atu.door.isClosed = true) (bars : tripBars s.trip = true) :
    ownStart s = (s, .tripped) := by
  simp [ownStart, ready, closed, bars]

theorem ownContextLoad_tripped (payload : List Byte) (ready : s.cpx.cycle = .ready) (bars : tripBars s.trip = true) :
    ownContextLoad payload s = (s, .tripped) := by
  simp [ownContextLoad, ready, bars]

theorem ownCycleClose_tripped (faulted : s.cpx.cycle = .faulted) (bars : tripBars s.trip = true) :
    ownCycleClose s = (s, .tripped) := by
  simp [ownCycleClose, faulted, bars]

theorem ownCycleClose_accepted (h : s.cpx.cycle = .faulted ∧ tripBars s.trip = false ∨ s.cpx.cycle = .done) :
    ownCycleClose s = (closeCycle s, .ok []) := by
  obtain ⟨faulted, free⟩ | done := h
  · simp [ownCycleClose, faulted, free]
  · simp [ownCycleClose, done]

theorem DebouncedInput.isClosed_iff (i : DebouncedInput) : i.isClosed = true ↔ i.settled = some .closed := by
  simp [DebouncedInput.isClosed]

/-! ### The three requests, delivered -/

theorem exec_start {tag : Byte} {f : InFrame} {s : State} (due : requestDue 0x30 tag [] f s) :
    exec (.start tag []) s = .next (answered 0x30 tag (ownStart (atOwner f s)).2.payload (ownStart (atOwner f s)).1) :=
  congrArg _ (serve_due due rfl)

theorem exec_contextLoad {tag : Byte} {payload : List Byte} {f : InFrame} {s : State} (length : payload.length = 32)
    (due : requestDue 0x51 tag payload f s) :
    exec (.contextLoad tag payload) s =
      .next (answered 0x51 tag (ownContextLoad payload (atOwner f s)).2.payload (ownContextLoad payload (atOwner f s)).1) :=
  congrArg _ (serve_due due (by rw [length]; rfl))

theorem exec_cycleClose {tag : Byte} {f : InFrame} {s : State} (due : requestDue 0x35 tag [] f s) :
    exec (.cycleClose tag []) s =
      .next (answered 0x35 tag (ownCycleClose (atOwner f s)).2.payload (ownCycleClose (atOwner f s)).1) :=
  congrArg _ (serve_due due rfl)

/-! ### A condition outside the cycle (R168) -/

theorem takeCondition_cpx_of_rest (c : TripCause) (rest : s.cpx.cycle.working = false) : (takeCondition c s).cpx = s.cpx := by
  unfold takeCondition
  split
  · rfl
  · dsimp only
    generalize entered : raiseFlag .tripRaised _ = u
    have same : u.cpx = s.cpx := by
      rw [← entered]
      simp
    have still : u.cpx.cycle.working = false := by rw [same]; exact rest
    rw [← same]
    unfold classEffects
    split
    · rw [stopEffects_not_working false still]
      rfl
    · rw [stopEffects_not_working true still]
      simp
    · unfold cpxSilence
      split
      · next h => rw [h] at still; cases still
      · next h => rw [h] at still; cases still
      all_goals rfl

/-- Settles O60: each request is refused or taken by what TRIP holds, and a condition faults working states alone. -/
theorem standingTripKeepsTheCycleOutOfWork : Obligations.StandingTripKeepsTheCycleOutOfWork := by
  refine ⟨fun t => ?bars, State.reset_eq ▸ tripsBarWork_resetPart _ _, step_keeps_tripsBarWork, ?refused, ?condition, ?close⟩
  case bars =>
    rw [tripBars_iff]
    refine ⟨fun ⟨c, cls, standing⟩ => ⟨c, ?_, standing⟩, fun ⟨c, listed, standing⟩ => ⟨c, ?_, standing⟩⟩
    · cases c
      case hostSilent => exact absurd rfl cls
      all_goals decide
    · cases c
      case hostSilent => exact absurd listed (by decide)
      all_goals decide
  case refused =>
    rintro tag f s u rfl bars
    refine ⟨fun due ready closed => ?_, fun payload length due ready => ?_, fun due faulted => ?_⟩
    · rw [exec_start due, ownStart_tripped ready ((DebouncedInput.isClosed_iff _).mpr closed) bars]
      rfl
    · rw [exec_contextLoad length due, ownContextLoad_tripped payload ready bars]
      rfl
    · rw [exec_cycleClose due, ownCycleClose_tripped faulted bars]
      rfl
  case condition =>
    intro c s t state h
    have rest : s.cpx.cycle.working = false := by
      rcases List.mem_cons.mp state with idle | more
      · rw [idle]; rfl
      · rcases List.mem_cons.mp more with ready | more
        · rw [ready]; rfl
        · rw [List.mem_singleton.mp more]; rfl
    injection h with h
    subst h
    unfold takeTripMsg
    split
    · exact takeCondition_cpx_of_rest (s := s.updPaths _) c rest
    · rfl
  case close =>
    rintro tag f s u rfl due free
    refine ⟨closeCycle (atOwner f s), ?_, by rw [closeCycle_cpx]⟩
    rw [exec_cycleClose due, ownCycleClose_accepted free]
    rfl

end Sys2Proof.Machine
end

section
/-! SUPPORT. SAA's account: what a grant, a service of the queue and the sheds do to the headroom (R111 to R120), and O26 to O30. -/

namespace Sys2Proof.Machine

variable {s t : State}

/-! ### The granted total and the headroom (R111) -/

theorem grantSum_append (l l' : List GrantEntry) : grantSum (l ++ l') = grantSum l + grantSum l' := by simp [grantSum]

theorem grantSum_cons (g : GrantEntry) (l : List GrantEntry) : grantSum (g :: l) = g.current + grantSum l := by simp [grantSum]

/-- The surge's part of the granted total. -/
def surgeTaken (p : Profile) : SurgeState → Nat
  | .granted => p.surge
  | .idle | .pending => 0

theorem State.headroom_eq (s : State) :
    s.headroom = (s.profile.allowance : Int) - s.profile.baseLoad - grantSum s.saa.grants - surgeTaken s.profile s.saa.surge := by
  simp only [State.headroom, Machine.headroom, grantedTotal]
  cases h : s.saa.surge <;> simp only [surgeTaken, reduceCtorEq, if_true, if_false] <;> omega

/-- Headroom reads the profile, the grant list and the surge alone. -/
theorem State.headroom_congr (hp : t.profile = s.profile) (hg : t.saa.grants = s.saa.grants) (hs : t.saa.surge = s.saa.surge) :
    t.headroom = s.headroom := by
  rw [State.headroom_eq, State.headroom_eq, hp, hg, hs]

theorem grantElement_headroom (e : Element) (current : Nat) (s : State) :
    (grantElement e current s).headroom = s.headroom - current := by
  rw [State.headroom_eq, State.headroom_eq]
  simp only [grantElement, sendToHstg, State.updPaths_saa, State.updSaa_saa, State.profile_eq, State.updPaths_prof, State.updSaa_prof,
    grantSum_append]
  have one : grantSum [⟨e, current, false⟩] = current := rfl
  omega

/-- An entry that leaves a list without duplicates takes its current with it. -/
theorem grantSum_filter_ne {l : List GrantEntry} (distinct : (l.map (·.element)).Nodup) {g : GrantEntry} (mem : g ∈ l) :
    grantSum (l.filter fun x => x.element ≠ g.element) + g.current = grantSum l := by
  induction l with
  | nil => cases mem
  | cons x l ih =>
    rw [List.map_cons, List.nodup_cons] at distinct
    obtain ⟨notIn, distinct⟩ := distinct
    obtain rfl | mem := List.mem_cons.mp mem
    · have none : l.filter (fun x => x.element ≠ g.element) = l := by
        rw [List.filter_eq_self]
        intro x hx
        simpa using fun same => notIn (List.mem_map.mpr ⟨x, hx, same⟩)
      rw [List.filter_cons_of_neg (by simp), none, grantSum_cons, Nat.add_comm]
    · have other : x.element ≠ g.element := fun same => notIn (List.mem_map.mpr ⟨g, mem, same.symm⟩)
      have := ih distinct mem
      rw [List.filter_cons_of_pos (by simpa using other), grantSum_cons, grantSum_cons]
      omega

/-- A filter of the grant list lowers the granted total. -/
theorem grantSum_filter_le (p : GrantEntry → Bool) (l : List GrantEntry) : grantSum (l.filter p) ≤ grantSum l := by
  induction l with
  | nil => exact le_rfl
  | cons g l ih =>
    rw [List.filter_cons, grantSum_cons]
    split
    · rw [grantSum_cons]
      omega
    · omega

theorem shedEntry_headroom {g : GrantEntry} (distinct : (s.saa.grants.map (·.element)).Nodup) (mem : g ∈ s.saa.grants) :
    (shedEntry g.element s).headroom = s.headroom + g.current := by
  have := grantSum_filter_ne distinct mem
  rw [State.headroom_eq, State.headroom_eq]
  simp only [shedEntry, sendToHstg, State.updPaths_saa, State.updSaa_saa, State.profile_eq, State.updPaths_prof, State.updSaa_prof]
  omega

/-! ### The wait queue served (R116) -/

/-- The heads `served` granted, with `waiting` left in the queue. -/
def queueServed (served waiting : List WaitEntry) (s : State) : State :=
  { s with
    saa := { s.saa with queue := waiting, grants := s.saa.grants ++ served.map fun w => ⟨w.element, w.current, false⟩ }
    paths := { s.paths with saaToHstg := s.paths.saaToHstg ++ served.map fun w => .grant w.element } }

theorem queueServed_nil {waiting : List WaitEntry} (h : s.saa.queue = waiting) : queueServed [] waiting s = s := by
  simp [queueServed, ← h]

/-- A head granted first is the first of the heads served. -/
theorem queueServed_cons (w : WaitEntry) (served waiting rest : List WaitEntry) (s : State) :
    queueServed served waiting (grantElement w.element w.current (s.updSaa fun a => { a with queue := rest })) =
      queueServed (w :: served) waiting s := by
  simp [queueServed, grantElement, sendToHstg, State.updSaa, State.updPaths]

theorem serveHeads_eq {q : List WaitEntry} (h : s.saa.queue = q) :
    ∃ served waiting, q = served ++ waiting ∧ serveHeads q.length s = queueServed served waiting s ∧
      (served ≠ [] → ((served.map (·.current)).sum : Int) ≤ s.headroom) ∧
      ∀ w, waiting.head? = some w → s.headroom < ((served.map (·.current)).sum : Int) + w.current := by
  induction q generalizing s with
  | nil => exact ⟨[], [], rfl, (queueServed_nil h).symm, fun h => absurd rfl h, fun _ h => nomatch h⟩
  | cons w rest ih =>
    rw [List.length_cons, serveHeads, h]
    dsimp only
    have takenHeadroom : (grantElement w.element w.current (s.updSaa fun a => { a with queue := rest })).headroom =
        s.headroom - w.current := by
      rw [grantElement_headroom, State.headroom_congr (t := s.updSaa _) (s := s) rfl rfl rfl]
    split
    · next fits =>
      obtain ⟨served, waiting, parts, result, sum, stop⟩ :=
        ih (s := grantElement w.element w.current (s.updSaa fun a => { a with queue := rest })) rfl
      rw [takenHeadroom] at sum stop
      refine ⟨w :: served, waiting, by rw [parts]; rfl, by rw [result, queueServed_cons], fun _ => ?_, fun v head => ?_⟩
      · obtain rfl | more := eq_or_ne served []
        · simpa using fits
        · have := sum more
          rw [List.map_cons, List.sum_cons]
          omega
      · have := stop v head
        rw [List.map_cons, List.sum_cons]
        omega
    · next tooBig =>
      refine ⟨[], w :: rest, rfl, (queueServed_nil h).symm, fun h => absurd rfl h, fun v head => ?_⟩
      obtain rfl := Option.some.inj head
      simpa using tooBig

theorem serveQueue_pending (h : s.saa.surge = .pending) : serveQueue s = s := by simp [serveQueue, h]

/-- Settles O27: the heads are granted one by one, each out of the headroom the last one left. -/
theorem queueServiceGrantsTheHeadsThatFit : Obligations.QueueServiceGrantsTheHeadsThatFit := by
  refine fun s => ⟨serveQueue_pending, fun free => ?_⟩
  obtain ⟨served, waiting, parts, result, sum, stop⟩ := serveHeads_eq (s := s) rfl
  exact ⟨served, waiting, parts, by rw [serveQueue, if_neg free, result]; rfl, sum, stop⟩

/-- A service adds grants at the tail and leaves the surge. -/
theorem serveQueue_saa (s : State) :
    (serveQueue s).saa.surge = s.saa.surge ∧ (serveQueue s).saa.txn = s.saa.txn ∧
      ∃ added, (serveQueue s).saa.grants = s.saa.grants ++ added := by
  by_cases pending : s.saa.surge = .pending
  · rw [serveQueue_pending pending]
    exact ⟨rfl, rfl, [], (List.append_nil _).symm⟩
  · obtain ⟨served, waiting, _, result, _⟩ := (queueServiceGrantsTheHeadsThatFit s).2 pending
    rw [result]
    exact ⟨rfl, rfl, _, rfl⟩

theorem queueServed_headroom (served waiting : List WaitEntry) (s : State) :
    (queueServed served waiting s).headroom = s.headroom - ((served.map (·.current)).sum : Int) := by
  rw [State.headroom_eq, State.headroom_eq]
  have sums : (grantSum (served.map fun w => ⟨w.element, w.current, false⟩) : Int) = ((served.map (·.current)).sum : Int) := by
    simp [grantSum, Function.comp_def]
  simp only [queueServed, State.profile_eq, grantSum_append, Nat.cast_add, sums]
  omega

/-- A service keeps within the allowance. -/
theorem serveQueue_fits (fits : 0 ≤ s.headroom) : 0 ≤ (serveQueue s).headroom := by
  unfold serveQueue
  split
  · exact fits
  · obtain ⟨served, waiting, _, result, sum, _⟩ := serveHeads_eq (s := s) rfl
    rw [result, queueServed_headroom]
    obtain rfl | some := eq_or_ne served []
    · simpa using fits
    · have := sum some
      omega

/-! ### The sheds (R118, R119, R122) -/

/-- The entries of the elements `es` shed. -/
def entriesShed (es : List Element) (s : State) : State :=
  { s with
    saa := { s.saa with grants := s.saa.grants.filter fun g => !es.contains g.element }
    paths := { s.paths with saaToHstg := s.paths.saaToHstg ++ es.map fun e => .shed e } }

theorem entriesShed_nil (s : State) : entriesShed [] s = s := by simp [entriesShed]

theorem entriesShed_cons (e : Element) (es : List Element) (s : State) :
    entriesShed es (shedEntry e s) = entriesShed (e :: es) s := by
  have filters : ((s.saa.grants.filter fun g => g.element ≠ e).filter fun g => !es.contains g.element) =
      s.saa.grants.filter fun g => !(e :: es).contains g.element := by
    rw [List.filter_filter]
    congr 1
    funext g
    by_cases same : g.element = e <;> simp [same]
  simp only [entriesShed, shedEntry, sendToHstg, State.updPaths, State.updSaa, filters, List.append_assoc, List.map_cons,
    List.singleton_append]

/-- Sheds of entries the list holds stop at the first after which the need is met. -/
theorem shedUntil_eq {need : Int} {l : List GrantEntry} (held : ∀ g ∈ l, g ∈ s.saa.grants) (once : (l.map (·.element)).Nodup)
    (distinct : (s.saa.grants.map (·.element)).Nodup) :
    ∃ taken left, l = taken ++ left ∧ shedUntil need (l.map (·.element)) s = entriesShed (taken.map (·.element)) s ∧
      (left ≠ [] → need ≤ (shedUntil need (l.map (·.element)) s).headroom) ∧
      ∀ before last, taken = before ++ [last] → s.headroom + grantSum before < need := by
  induction l generalizing s with
  | nil => exact ⟨[], [], rfl, (entriesShed_nil s).symm, fun h => absurd rfl h, fun _ _ h => by simp at h⟩
  | cons g l ih =>
    rw [List.map_cons, shedUntil]
    by_cases met : need ≤ s.headroom
    · rw [if_pos met]
      exact ⟨[], g :: l, rfl, (entriesShed_nil s).symm, fun _ => met, fun _ _ h => by simp at h⟩
    · rw [if_neg met]
      rw [List.map_cons, List.nodup_cons] at once
      obtain ⟨notIn, once⟩ := once
      have headroom := shedEntry_headroom distinct (held g (by simp))
      have grants : (shedEntry g.element s).saa.grants = s.saa.grants.filter fun x => x.element ≠ g.element := rfl
      obtain ⟨taken, left, parts, result, stop, minimal⟩ := ih (s := shedEntry g.element s)
        (fun x mem => by
          rw [grants]
          refine List.mem_filter.mpr ⟨held x (by simp [mem]), ?_⟩
          simpa using fun same => notIn (List.mem_map.mpr ⟨x, mem, same⟩))
        once (grants ▸ distinct.sublist (List.filter_sublist.map _))
      refine ⟨g :: taken, left, by rw [parts]; rfl, by rw [result, List.map_cons, entriesShed_cons], stop, fun before last h => ?_⟩
      cases before with
      | nil => simpa [grantSum] using met
      | cons x before =>
        obtain ⟨rfl, tail⟩ := List.cons.inj h
        have := minimal before last tail
        rw [grantSum_cons]
        omega

theorem allNewest_eq (a : Saa) : allNewest a = a.grants.reverse.map (·.element) := by simp [allNewest]

theorem freeNewest_eq (a : Saa) : freeNewest a = (a.grants.filter (·.free)).reverse.map (·.element) := by simp [freeNewest]

/-- Settles O28: both sheds go through entries the list holds, and all of them newest first leave an older part of the list. -/
theorem shedsTakeTheNewestUntilTheNeedIsMet : Obligations.ShedsTakeTheNewestUntilTheNeedIsMet := by
  intro need s distinct
  obtain ⟨taken, left, parts, result, stop, minimal⟩ := shedUntil_eq (need := need) (l := s.saa.grants.reverse)
    (fun g mem => List.mem_reverse.mp mem) (by rw [List.map_reverse]; exact List.nodup_reverse.mpr distinct) distinct
  obtain ⟨takenFree, leftFree, partsFree, resultFree, stopFree, minimalFree⟩ :=
    shedUntil_eq (need := need) (l := (s.saa.grants.filter (·.free)).reverse)
      (fun g mem => (List.mem_filter.mp (List.mem_reverse.mp mem)).1)
      (by rw [List.map_reverse]; exact List.nodup_reverse.mpr (distinct.sublist (List.filter_sublist.map _))) distinct
  rw [← allNewest_eq] at result stop
  rw [← freeNewest_eq] at resultFree stopFree
  have grants : s.saa.grants = left.reverse ++ taken.reverse := by
    rw [← List.reverse_append, ← parts, List.reverse_reverse]
  have older : (s.saa.grants.filter fun g => !(taken.map (·.element)).contains g.element) = left.reverse := by
    rw [grants, List.map_append, List.nodup_append] at distinct
    obtain ⟨_, _, apart⟩ := distinct
    rw [grants, List.filter_append]
    have keeps : (left.reverse.filter fun g => !(taken.map (·.element)).contains g.element) = left.reverse := by
      refine List.filter_eq_self.mpr fun g mem => ?_
      simpa using fun x hx same => apart g.element (List.mem_map_of_mem mem) x.element
        (List.mem_map_of_mem (List.mem_reverse.mpr hx)) same.symm
    have drops : (taken.reverse.filter fun g => !(taken.map (·.element)).contains g.element) = [] := by
      refine List.filter_eq_nil_iff.mpr fun g mem => ?_
      simpa using ⟨g, List.mem_reverse.mp mem, rfl⟩
    rw [keeps, drops, List.append_nil]
  refine ⟨left.reverse, taken.reverse, grants, ?_, fun some => stop (by simpa using some), fun g rest h => ?_,
    takenFree, leftFree, partsFree, ?_, stopFree, minimalFree⟩
  · rw [result, entriesShed, older]
    simp [Function.comp_def]
  · have := minimal rest.reverse g (by rw [← List.reverse_cons, ← h, List.reverse_reverse])
    simpa [grantSum] using this
  · rw [resultFree, entriesShed]
    simp [Function.comp_def]

end Sys2Proof.Machine
end

section
/-! SUPPORT. What SAA does with each message, with its grant timer and with an ALLOWANCE_SET (R114 to R123), and O26, O29 and O30. -/

namespace Sys2Proof.Machine

variable {s t : State}

/-! ### HSTG's messages (R114, R115, R118) -/

theorem elementAsked_known {e : Element} (current : Nat) (h : granted e s.saa = true ∨ queued e s.saa = true) :
    elementAsked e current s = s := by
  simp [elementAsked, h]

theorem elementAsked_fits {e : Element} {current : Nat} (notGranted : granted e s.saa = false) (notQueued : queued e s.saa = false)
    (free : s.saa.surge ≠ .pending) (fits : (current : Int) ≤ s.headroom) : elementAsked e current s = grantElement e current s := by
  simp [elementAsked, notGranted, notQueued, free, fits]

theorem elementAsked_waits {e : Element} {current : Nat} (notGranted : granted e s.saa = false) (notQueued : queued e s.saa = false)
    (h : s.saa.surge = .pending ∨ s.headroom < current) :
    elementAsked e current s = s.updSaa fun a => { a with queue := a.queue ++ [⟨e, current⟩] } := by
  have : ¬ (s.saa.surge ≠ .pending ∧ (current : Int) ≤ s.headroom) := by
    rintro ⟨free, fits⟩
    obtain pending | small := h
    · exact free pending
    · omega
  simp only [elementAsked, notGranted, notQueued, Bool.or_false, Bool.false_eq_true, if_false, if_neg this]

theorem elementWithdrawn_ignored {e : Element} (h : granted e s.saa = true ∨ queued e s.saa = false) : elementWithdrawn e s = s := by
  unfold elementWithdrawn
  obtain granted | notQueued := h
  · simp [granted]
  · simp [notQueued]

/-- The element out of the wait queue. -/
def leftQueue (e : Element) (s : State) : State := s.updSaa fun a => { a with queue := a.queue.filter fun w => w.element ≠ e }

/-- The entry out of the grant list. -/
def leftGrants (e : Element) (s : State) : State := s.updSaa fun a => { a with grants := a.grants.filter fun g => g.element ≠ e }

theorem elementWithdrawn_queued {e : Element} (notGranted : granted e s.saa = false) (isQueued : queued e s.saa = true) :
    elementWithdrawn e s =
      if (s.saa.queue.head?.map (·.element)) = some e then serveQueue (leftQueue e s) else leftQueue e s := by
  simp [elementWithdrawn, notGranted, isQueued, leftQueue]

theorem elementReleased_ignored {e : Element} (h : granted e s.saa = false) : elementReleased e s = s := by
  simp [elementReleased, h]

theorem elementReleased_free {e : Element} (h : granted e s.saa = true) (free : s.saa.surge ≠ .pending) :
    elementReleased e s = serveQueue (leftGrants e s) := by
  simp [elementReleased, h, leftGrants, free]

theorem elementReleased_pending {e : Element} (h : granted e s.saa = true) (pending : s.saa.surge = .pending) :
    elementReleased e s = recheckSurge (leftGrants e s) := by
  simp [elementReleased, h, leftGrants, pending]

theorem surgeFits_iff (s : State) : surgeFits s = true ↔ (s.profile.surge : Int) ≤ s.headroom := decide_eq_true_iff

theorem recheckSurge_fits (pending : s.saa.surge = .pending) (fits : (s.profile.surge : Int) ≤ s.headroom) :
    recheckSurge s = serveQueue (grantSurge s) := by
  rw [recheckSurge, if_pos ⟨pending, (surgeFits_iff s).mpr fits⟩]

theorem recheckSurge_not (h : s.headroom < s.profile.surge) : recheckSurge s = s := by
  rw [recheckSurge, if_neg fun both => absurd ((surgeFits_iff s).mp both.2) (by omega)]

/-- The free flag set in the element's entry. -/
def entryFreed (e : Element) (s : State) : State :=
  s.updSaa fun a => { a with grants := a.grants.map fun g => if g.element = e then { g with free := true } else g }

theorem elementFreed_ignored {e : Element} (h : granted e s.saa = false) : elementFreed e s = s := by simp [elementFreed, h]

theorem elementFreed_kept {e : Element} (h : granted e s.saa = true) (free : s.saa.surge ≠ .pending) :
    elementFreed e s = entryFreed e s := by
  simp [elementFreed, h, entryFreed, free]

theorem filter_freed (e : Element) (l : List GrantEntry) :
    ((l.map fun g => if g.element = e then { g with free := true } else g).filter fun g => g.element ≠ e) =
      l.filter fun g => g.element ≠ e := by
  induction l with
  | nil => rfl
  | cons g l ih =>
    by_cases same : g.element = e
    · rw [List.map_cons, if_pos same, List.filter_cons_of_neg (by simp [same]), List.filter_cons_of_neg (by simp [same]), ih]
    · rw [List.map_cons, if_neg same, List.filter_cons_of_pos (by simp [same]), List.filter_cons_of_pos (by simp [same]), ih]

/-- An entry freed while the surge is PENDING is shed. -/
theorem elementFreed_shed {e : Element} (h : granted e s.saa = true) (pending : s.saa.surge = .pending) :
    elementFreed e s = recheckSurge (shedEntry e s) := by
  have shed : shedEntry e (entryFreed e s) = shedEntry e s := by
    simp only [shedEntry, entryFreed, sendToHstg, State.updPaths, State.updSaa, filter_freed]
  rw [← shed]
  simp [elementFreed, h, entryFreed, pending]

/-- Settles O29: each message taken is one of the cases above, by where the element stands and whether the surge waits. -/
theorem arbiterTakesElementMessages : Obligations.ArbiterTakesElementMessages := by
  rintro e s rest u rfl
  refine ⟨fun i head => ?request, fun head => ?withdrawal, fun head => ?release, fun head => ?freed⟩
  case request =>
    have run : exec (.elementRequest e i) s = .next (elementAsked e i (s.updPaths fun p => { p with hstgToSaa := rest })) :=
      congrArg _ (takeHstgMsg_due head)
    rw [run]
    refine ⟨fun known => ?_, fun notGranted notQueued free fits => ?_, fun notGranted notQueued waits => ?_⟩
    · rw [elementAsked_known (s := s.updPaths _) i known]
    · rw [elementAsked_fits (s := s.updPaths _) notGranted notQueued free fits]
      rfl
    · rw [elementAsked_waits (s := s.updPaths _) notGranted notQueued waits]
      rfl
  case withdrawal =>
    have run : exec (.elementWithdrawal e) s = .next (elementWithdrawn e (s.updPaths fun p => { p with hstgToSaa := rest })) :=
      congrArg _ (takeHstgMsg_due head)
    rw [run]
    refine ⟨fun ignored => by rw [elementWithdrawn_ignored (s := s.updPaths _) ignored], ?_⟩
    rintro notGranted isQueued v rfl
    rw [elementWithdrawn_queued (s := s.updPaths _) notGranted isQueued]
    exact ⟨fun notHead => congrArg _ (if_neg notHead), fun isHead => congrArg _ (if_pos isHead)⟩
  case release =>
    have run : exec (.elementRelease e) s = .next (elementReleased e (s.updPaths fun p => { p with hstgToSaa := rest })) :=
      congrArg _ (takeHstgMsg_due head)
    rw [run]
    refine ⟨fun ignored => by rw [elementReleased_ignored (s := s.updPaths _) ignored], ?_⟩
    rintro isGranted v rfl
    refine ⟨fun free => ?_, fun pending small => ?_, fun pending fits => ?_⟩
    · rw [elementReleased_free (s := s.updPaths _) isGranted free]
      rfl
    · exact congrArg _ ((elementReleased_pending (s := s.updPaths _) isGranted pending).trans
        (recheckSurge_not (s := leftGrants e (s.updPaths _)) small))
    · exact congrArg _ ((elementReleased_pending (s := s.updPaths _) isGranted pending).trans
        (recheckSurge_fits (s := leftGrants e (s.updPaths _)) pending fits))
  case freed =>
    have run : exec (.onFreeNotice e) s = .next (elementFreed e (s.updPaths fun p => { p with hstgToSaa := rest })) :=
      congrArg _ (takeHstgMsg_due head)
    rw [run]
    refine ⟨fun ignored => by rw [elementFreed_ignored (s := s.updPaths _) ignored], fun isGranted free => ?_, ?_⟩
    · rw [elementFreed_kept (s := s.updPaths _) isGranted free]
      rfl
    · rintro isGranted pending v rfl
      refine ⟨fun small => ?_, fun fits => ?_⟩
      · exact congrArg _ ((elementFreed_shed (s := s.updPaths _) isGranted pending).trans
          (recheckSurge_not (s := shedEntry e (s.updPaths _)) small))
      · exact congrArg _ ((elementFreed_shed (s := s.updPaths _) isGranted pending).trans
          (recheckSurge_fits (s := shedEntry e (s.updPaths _)) pending fits))

/-! ### DRUM's messages and the grant timer (R117, R119, R120) -/

theorem grantSurge_eq {n : Byte} (h : s.saa.txn = some n) :
    grantSurge s =
      { s with
        saa := { s.saa with surge := .granted, grantTimer := none }
        paths := { s.paths with saaToDrum := s.paths.saaToDrum ++ [n] } } := by
  simp [grantSurge, h, sendToDrum, State.updSaa, State.updPaths]

theorem grantSurge_saa (s : State) : (grantSurge s).saa = { s.saa with surge := .granted, grantTimer := none } := by
  unfold grantSurge
  dsimp only
  split <;> rfl

/-- The sheds change the grant list alone of the account. -/
theorem shedUntil_saa (need : Int) (es : List Element) (s : State) :
    (shedUntil need es s).saa = { s.saa with grants := (shedUntil need es s).saa.grants } := by
  induction es generalizing s with
  | nil => rfl
  | cons e es ih =>
    unfold shedUntil
    split
    · rfl
    · rw [ih]
      rfl

theorem surgeAsked_ignored (n : Byte) (h : s.saa.surge ≠ .idle) : surgeAsked n s = s := by
  unfold surgeAsked
  split
  · rfl
  · rfl
  · next idle => exact absurd idle h

theorem surgeAsked_fits (n : Byte) (idle : s.saa.surge = .idle) (fits : (s.profile.surge : Int) ≤ s.headroom) :
    surgeAsked n s = grantSurge (s.updSaa fun a => { a with txn := some n }) := by
  have fits' : surgeFits (s.updSaa fun a => { a with txn := some n }) = true := (surgeFits_iff _).mpr fits
  simp [surgeAsked, idle, fits']

/-- The state in which a surge that does not fit at once has shed the free entries (R118). -/
def surgeShed (n : Byte) (s : State) : State :=
  shedUntil s.profile.surge (freeNewest s.saa) (s.updSaa fun a => { a with surge := .pending, txn := some n })

theorem surgeAsked_sheds (n : Byte) (idle : s.saa.surge = .idle) (small : s.headroom < s.profile.surge) :
    surgeAsked n s =
      if surgeFits (surgeShed n s) then serveQueue (grantSurge (surgeShed n s))
      else (surgeShed n s).updSaa fun a => { a with grantTimer := some (s.profile.grantTimeout * 100) } := by
  have small' : surgeFits (s.updSaa fun a => { a with txn := some n }) = false := by
    rw [Bool.eq_false_iff]
    exact fun fits => absurd ((surgeFits_iff _).mp fits) (not_le.mpr small)
  unfold surgeAsked
  split
  · next pending => rw [idle] at pending; cases pending
  · next granted => rw [idle] at granted; cases granted
  · simp only [small', Bool.false_eq_true, if_false]
    have timeout (es : List Element) (u : State) (need : Int) : (shedUntil need es u).profile = u.profile := by
      rw [State.profile_eq, State.profile_eq]
      simp
    rw [timeout]
    rfl

theorem surgeReleased_taken {n : Byte} (number : s.saa.txn = some n) (granted : s.saa.surge = .granted) :
    surgeReleased n s = endSurge s := if_pos ⟨number, granted⟩

theorem surgeReleased_ignored {n : Byte} (h : s.saa.txn ≠ some n ∨ s.saa.surge ≠ .granted) : surgeReleased n s = s :=
  if_neg fun both => h.elim (fun other => other both.1) fun other => other both.2

theorem surgeWithdrawn_taken {n : Byte} (number : s.saa.txn = some n) (asked : s.saa.surge ≠ .idle) :
    surgeWithdrawn n s = endSurge s := if_pos ⟨number, asked⟩

theorem surgeWithdrawn_ignored {n : Byte} (h : s.saa.txn ≠ some n ∨ s.saa.surge = .idle) : surgeWithdrawn n s = s :=
  if_neg fun both => h.elim (fun other => other both.1) fun idle => both.2 idle

/-- The entries forced out at the grant timer's expiry (R119). -/
def forcedShed (s : State) : State :=
  shedUntil s.profile.surge (allNewest s.saa) (s.updSaa fun a => { a with grantTimer := none })

theorem grantTimerExpires_pending (running : s.saa.grantTimer ≠ none) (pending : s.saa.surge = .pending)
    (fits : (s.profile.surge : Int) ≤ (forcedShed s).headroom) :
    grantTimerExpires s =
      serveQueue (raiseFlag .grantForced (report .saa .warning 0x48
        (u8 (s.saa.grants.length - (grantSurge (forcedShed s)).saa.grants.length) ++ u16 (grantSurge (forcedShed s)).headroom.toNat)
        (grantSurge (forcedShed s)))) := by
  have profile : (forcedShed s).profile = s.profile := by
    rw [State.profile_eq, State.profile_eq]
    simp [forcedShed]
  have fits' : surgeFits (forcedShed s) = true := (surgeFits_iff _).mpr (by rw [profile]; exact fits)
  have due : s.saa.grantTimer.isSome = true ∧ s.saa.surge = .pending := ⟨Option.isSome_iff_ne_none.mpr running, pending⟩
  unfold grantTimerExpires
  rw [if_pos due]
  change serveQueue (raiseFlag .grantForced (report .saa .warning 0x48
    (u8 (s.saa.grants.length - (if surgeFits (forcedShed s) then grantSurge (forcedShed s) else forcedShed s).saa.grants.length) ++
      u16 (if surgeFits (forcedShed s) then grantSurge (forcedShed s) else forcedShed s).headroom.toNat)
    (if surgeFits (forcedShed s) then grantSurge (forcedShed s) else forcedShed s))) = _
  rw [if_pos fits']

/-- Settles O30: each message taken is one of the cases above, by the surge's state and the request's number. -/
theorem arbiterTakesSurgeMessages : Obligations.ArbiterTakesSurgeMessages := by
  refine ⟨fun n s => grantSurge_eq, ?_⟩
  rintro n s rest u rfl
  refine ⟨fun head => ?request, fun head => ?release, fun head => ?withdrawal, ?timer⟩
  case request =>
    have run : exec (.surgeRequest n) s = .next (surgeAsked n (s.updPaths fun p => { p with drumToSaa := rest })) :=
      congrArg _ (takeDrumMsg_due head)
    rw [run]
    refine ⟨fun asked => by rw [surgeAsked_ignored (s := s.updPaths _) n asked], fun idle fits => ?_, ?_⟩
    · rw [surgeAsked_fits (s := s.updPaths _) n idle fits, grantSurge_eq rfl]
      rfl
    · rintro idle small v rfl
      rw [surgeAsked_sheds (s := s.updPaths _) n idle small]
      have profile : (surgeShed n (s.updPaths fun p => { p with drumToSaa := rest })).profile = s.profile := by
        rw [State.profile_eq, State.profile_eq]
        simp [surgeShed]
      refine ⟨fun fits => ?_, fun still => ?_⟩
      · rw [if_pos ((surgeFits_iff _).mpr (by rw [profile]; exact fits))]
        rfl
      · rw [if_neg fun fits => absurd ((surgeFits_iff _).mp fits) (by rw [profile]; exact not_le.mpr still)]
        rfl
  case release =>
    have run : exec (.surgeRelease n) s = .next (surgeReleased n (s.updPaths fun p => { p with drumToSaa := rest })) :=
      congrArg _ (takeDrumMsg_due head)
    rw [run]
    refine ⟨fun number granted => ?_, fun ignored => by rw [surgeReleased_ignored (s := s.updPaths _) ignored]⟩
    rw [surgeReleased_taken (s := s.updPaths _) number granted]
    rfl
  case withdrawal =>
    have run : exec (.surgeWithdrawal n) s = .next (surgeWithdrawn n (s.updPaths fun p => { p with drumToSaa := rest })) :=
      congrArg _ (takeDrumMsg_due head)
    rw [run]
    refine ⟨fun number asked => ?_, fun ignored => by rw [surgeWithdrawn_ignored (s := s.updPaths _) ignored]⟩
    rw [surgeWithdrawn_taken (s := s.updPaths _) number asked]
    rfl
  case timer =>
    rintro running pending v w rfl fits rfl
    exact congrArg _ (grantTimerExpires_pending running pending fits)

end Sys2Proof.Machine
end

section
/-! SUPPORT. The allowance moved (R121 to R123) and the account that every command keeps (R111, R112): O26 and O31. -/

namespace Sys2Proof.Machine

variable {s t : State}

/-! ### What ALLOWANCE_SET decides (R121) -/

theorem exec_allowanceSet {tag high low : Byte} {f : InFrame} {s : State} (due : requestDue 0x05 tag [high, low] f s) :
    exec (.allowanceSet tag [high, low]) s =
      .next (answered 0x05 tag (ownAllowanceSet [high, low] (atOwner f s)).2.payload (ownAllowanceSet [high, low] (atOwner f s)).1) :=
  congrArg _ (serve_due due rfl)

/-- The value lies below what the base load, the surge and every fitted element need. -/
def allowanceTooLow (p : Profile) (v : Nat) : Prop := v < p.baseLoad + p.surge ∨ ∃ e, v < p.baseLoad + Profile.current p e

theorem allowanceTooLow_iff (p : Profile) (v : Nat) :
    (v < p.baseLoad + p.surge ∨ v < p.baseLoad + (allElements.map (Profile.current p)).foldl max 0) ↔ allowanceTooLow p v := by
  have largest : v < p.baseLoad + (allElements.map (Profile.current p)).foldl max 0 ↔ ∃ e, v < p.baseLoad + Profile.current p e := by
    have four : (allElements.map (Profile.current p)).foldl max 0 =
        max (max (max (max 0 (Profile.current p .e1)) (Profile.current p .e2)) (Profile.current p .e3)) (Profile.current p .e4) := rfl
    rw [four]
    refine ⟨fun h => ?_, fun ⟨e, h⟩ => ?_⟩
    · by_contra none
      rw [not_exists] at none
      have h1 := none .e1
      have h2 := none .e2
      have h3 := none .e3
      have h4 := none .e4
      omega
    · cases e <;> omega
  exact or_congr_right largest

/-- The profile with the allowance moved. -/
def allowanceMoved (v : Nat) (s : State) : State := s.updProf fun f => { f with active := { f.active with allowance := v } }

/-- What ALLOWANCE_SET brings once the allowance has moved, by the direction it moved in (R122, R123). -/
def afterAllowance (old v : Nat) (s : State) : State :=
  if v < old then allowanceLowered s else if old < v then allowanceRaised s else serveQueue s

theorem ownAllowanceSet_refused {payload : List Byte} (h : allowanceTooLow s.profile (wordAt payload 0)) :
    ownAllowanceSet payload s = (s, .badField 1 0) := by
  unfold ownAllowanceSet
  exact if_pos ((allowanceTooLow_iff _ _).mpr h)

theorem ownAllowanceSet_taken {payload : List Byte} (h : ¬ allowanceTooLow s.profile (wordAt payload 0)) :
    ownAllowanceSet payload s =
      (afterAllowance s.profile.allowance (wordAt payload 0) (allowanceMoved (wordAt payload 0) s), .ok []) := by
  unfold ownAllowanceSet
  exact if_neg fun low => h ((allowanceTooLow_iff _ _).mp low)

/-! ### The sheds of a decrease (R122) -/

/-- A shed only takes entries out of the list. -/
theorem shedUntil_grants_subset (need : Int) (es : List Element) (s : State) (g : GrantEntry)
    (mem : g ∈ (shedUntil need es s).saa.grants) : g ∈ s.saa.grants := by
  induction es generalizing s with
  | nil => exact mem
  | cons e es ih =>
    unfold shedUntil at mem
    split at mem
    · exact mem
    · exact (List.mem_filter.mp (ih _ mem)).1

/-- Sheds meet the need, or none of the elements named is left. -/
theorem shedUntil_meets_or_exhausts (need : Int) (es : List Element) (s : State) :
    need ≤ (shedUntil need es s).headroom ∨ ∀ g ∈ (shedUntil need es s).saa.grants, g.element ∉ es := by
  induction es generalizing s with
  | nil => exact .inr fun _ _ => List.not_mem_nil
  | cons e es ih =>
    unfold shedUntil
    split
    · exact .inl ‹_›
    · refine (ih (shedEntry e s)).imp_right fun gone g mem => ?_
      have kept := shedUntil_grants_subset _ _ _ _ mem
      have other : g.element ≠ e := by
        have := (List.mem_filter.mp (show g ∈ s.saa.grants.filter fun x => x.element ≠ e from kept)).2
        simpa using this
      simp [other, gone g mem]

/-- With every entry out the surge still fits, so the sheds of a decrease always reach headroom 0. -/
theorem allNewest_shed_fits (h : s.profile.baseLoad + s.profile.surge ≤ s.profile.allowance) :
    0 ≤ (shedUntil 0 (allNewest s.saa) s).headroom := by
  obtain met | gone := shedUntil_meets_or_exhausts 0 (allNewest s.saa) s
  · exact met
  · have none : (shedUntil 0 (allNewest s.saa) s).saa.grants = [] := by
      rw [List.eq_nil_iff_forall_not_mem]
      intro g mem
      refine gone g mem ?_
      rw [allNewest_eq, List.map_reverse, List.mem_reverse]
      exact List.mem_map_of_mem (shedUntil_grants_subset _ _ _ _ mem)
    have surge : surgeTaken s.profile s.saa.surge ≤ s.profile.surge := by
      unfold surgeTaken
      split
      · exact le_rfl
      · exact Nat.zero_le _
      · exact Nat.zero_le _
    rw [State.headroom_eq, none, shedUntil_saa]
    simp only [State.profile_eq, shedUntil_frame] at h surge ⊢
    simp only [grantSum, List.map_nil, List.sum_nil]
    omega

/-- The grant of a surge that was not GRANTED takes its current. -/
theorem grantSurge_headroom (h : s.saa.surge ≠ .granted) : (grantSurge s).headroom = s.headroom - s.profile.surge := by
  have before : surgeTaken s.profile s.saa.surge = 0 := by cases surge : s.saa.surge <;> simp_all [surgeTaken]
  rw [State.headroom_eq, State.headroom_eq, grantSurge_saa, before]
  simp only [State.profile_eq, grantSurge_frame, surgeTaken]
  omega

theorem recheckSurge_headroom (fits : 0 ≤ s.headroom) : 0 ≤ (recheckSurge s).headroom := by
  unfold recheckSurge
  split
  · next due =>
    have room := (surgeFits_iff s).mp due.2
    refine serveQueue_fits ?_
    rw [grantSurge_headroom (by rw [due.1]; decide)]
    omega
  · exact fits

theorem allowanceRaised_headroom (fits : 0 ≤ s.headroom) : 0 ≤ (allowanceRaised s).headroom := by
  unfold allowanceRaised
  split
  · exact recheckSurge_headroom fits
  · exact serveQueue_fits fits

/-- The decrease with its report, before the surge and the queue are looked at again (R122). -/
def allowanceShed (s : State) : State :=
  let w := shedUntil 0 (allNewest s.saa) s
  if w.saa.grants.length < s.saa.grants.length then
    report .saa .warning 0x49
      (u16 w.profile.allowance ++ u8 (s.saa.grants.length - w.saa.grants.length) ++ u16 (grantedTotal w.profile w.saa)) w
  else w

theorem allowanceLowered_eq (s : State) : allowanceLowered s = allowanceRaised (allowanceShed s) := rfl

theorem allowanceShed_account (s : State) :
    (allowanceShed s).saa = (shedUntil 0 (allNewest s.saa) s).saa ∧ (allowanceShed s).prof = s.prof := by
  unfold allowanceShed
  dsimp only
  split <;> simp

theorem allowanceShed_headroom (h : s.profile.baseLoad + s.profile.surge ≤ s.profile.allowance) :
    0 ≤ (allowanceShed s).headroom := by
  obtain ⟨saa, prof⟩ := allowanceShed_account s
  rw [State.headroom_congr (s := shedUntil 0 (allNewest s.saa) s) (by simp [State.profile_eq, prof]) (by rw [saa]) (by rw [saa])]
  exact allNewest_shed_fits h

/-- The service after a move keeps a surge that does not wait, and adds grants at the tail. -/
theorem allowanceRaised_saa (s : State) :
    (s.saa.surge ≠ .pending → (allowanceRaised s).saa.surge = s.saa.surge) ∧
      ∃ added, (allowanceRaised s).saa.grants = s.saa.grants ++ added := by
  obtain ⟨surge, _, added⟩ := serveQueue_saa s
  unfold allowanceRaised recheckSurge
  split
  · next pending =>
    refine ⟨fun free => absurd pending free, ?_⟩
    split
    · obtain ⟨_, _, added⟩ := serveQueue_saa (grantSurge s)
      rwa [grantSurge_saa] at added
    · exact ⟨[], (List.append_nil _).symm⟩
  · exact ⟨fun _ => surge, added⟩

theorem afterAllowance_frame (old v : Nat) (s : State) :
    (afterAllowance old v s).prof = s.prof ∧ (afterAllowance old v s).atu = s.atu ∧ (afterAllowance old v s).hstg = s.hstg ∧
    (afterAllowance old v s).drum = s.drum ∧ (afterAllowance old v s).efe = s.efe ∧ (afterAllowance old v s).mest = s.mest ∧
    (afterAllowance old v s).cpx = s.cpx ∧ (afterAllowance old v s).trip = s.trip := by
  unfold afterAllowance
  (repeat' split) <;> simp

/-- What ALLOWANCE_SET does once the sheds of a decrease are through (R122, R123). -/
theorem afterAllowance_served {old v : Nat} {x : State} (hx : x = if v < old then allowanceShed s else s)
    (free : x.saa.surge ≠ .pending) : afterAllowance old v s = serveQueue x := by
  subst hx
  unfold afterAllowance
  split
  · next lower =>
    rw [if_pos lower] at free
    rw [allowanceLowered_eq, allowanceRaised, if_neg free]
  · next notLower =>
    rw [if_neg notLower] at free
    split
    · rw [allowanceRaised, if_neg free]
    · rfl

theorem afterAllowance_granted {old v : Nat} {x : State} (hx : x = if v < old then allowanceShed s else s)
    (pending : x.saa.surge = .pending) (moved : v ≠ old) (fits : (x.profile.surge : Int) ≤ x.headroom) :
    afterAllowance old v s = serveQueue (grantSurge x) := by
  subst hx
  unfold afterAllowance
  split
  · next lower =>
    rw [if_pos lower] at pending fits
    rw [allowanceLowered_eq, allowanceRaised, if_pos pending, recheckSurge_fits pending fits]
  · next notLower =>
    rw [if_neg notLower] at pending fits
    rw [if_pos (by omega), allowanceRaised, if_pos pending, recheckSurge_fits pending fits]

theorem afterAllowance_pending {old v : Nat} {x : State} (hx : x = if v < old then allowanceShed s else s)
    (pending : x.saa.surge = .pending) (h : v = old ∨ x.headroom < x.profile.surge) : afterAllowance old v s = x := by
  subst hx
  unfold afterAllowance
  split
  · next lower =>
    rw [if_pos lower] at pending h
    rw [allowanceLowered_eq, allowanceRaised, if_pos pending, recheckSurge_not (h.resolve_left (by omega))]
  · next notLower =>
    rw [if_neg notLower] at pending h
    split
    · next higher => rw [allowanceRaised, if_pos pending, recheckSurge_not (h.resolve_left (by omega))]
    · exact serveQueue_pending pending

/-- Settles O26: the value is refused by its two bounds, and a move is the sheds of a decrease with the service after them. -/
theorem allowanceSetMovesTheAllowance : Obligations.AllowanceSetMovesTheAllowance := by
  intro tag high low f s v hv due
  generalize owner : atOwner f s = u
  have word : wordAt [high, low] 0 = v := hv.symm
  have run := exec_allowanceSet due
  rw [owner] at run
  have taken (surge : u.profile.baseLoad + u.profile.surge ≤ v) (currents : ∀ e, u.profile.baseLoad + Profile.current u.profile e ≤ v) :
      exec (.allowanceSet tag [high, low]) s =
        .next (answered 0x05 tag [0x00] (afterAllowance u.profile.allowance v (allowanceMoved v u))) := by
    have notLow : ¬ allowanceTooLow u.profile (wordAt [high, low] 0) := by
      rw [word]
      rintro (below | ⟨e, below⟩)
      · omega
      · have := currents e
        omega
    rw [run, ownAllowanceSet_taken notLow, word]
    rfl
  refine ⟨fun tooLow => ?refused, fun surge currents => ⟨_, taken surge currents, ?_⟩, fun surge currents => ?whole⟩
  case refused =>
    rw [run, ownAllowanceSet_refused (by rw [word]; exact tooLow)]
    rfl
  case whole =>
    rintro m rfl w rfl x hx
    rw [taken surge currents]
    have shed : x = if v < u.profile.allowance then allowanceShed (allowanceMoved v u) else allowanceMoved v u := by
      rw [hx]
      by_cases lower : v < u.profile.allowance
      · simp only [if_pos lower]
        have allowance : (shedUntil 0 (allNewest (allowanceMoved v u).saa) (allowanceMoved v u)).profile.allowance = v := by
          simp [State.profile_eq, allowanceMoved]
        unfold allowanceShed
        dsimp only
        rw [allowance]
        rfl
      · simp only [if_neg lower]
        exact if_neg (lt_irrefl _)
    exact ⟨fun free => by rw [afterAllowance_served shed free],
      fun pending moved fits => by rw [afterAllowance_granted shed pending moved fits],
      fun pending stays => by rw [afterAllowance_pending shed pending stays]⟩
  · obtain ⟨prof, atu, hstg, drum, efe, mest, cpx, trip⟩ := afterAllowance_frame u.profile.allowance v (allowanceMoved v u)
    refine ⟨prof, fun free => ?surge, fun raised => ?added, fun lower => ?fits, atu, hstg, drum, efe, mest, cpx, trip⟩
    case surge =>
      unfold afterAllowance
      split
      · have kept : (allowanceShed (allowanceMoved v u)).saa.surge = u.saa.surge := by
          rw [(allowanceShed_account _).1, shedUntil_saa]
          rfl
        rw [allowanceLowered_eq, (allowanceRaised_saa _).1 (by rw [kept]; exact free), kept]
      · split
        · exact (allowanceRaised_saa (allowanceMoved v u)).1 free
        · exact (serveQueue_saa (allowanceMoved v u)).1
    case added =>
      unfold afterAllowance
      rw [if_neg (by omega)]
      split
      · exact (allowanceRaised_saa (allowanceMoved v u)).2
      · exact (serveQueue_saa (allowanceMoved v u)).2.2
    case fits =>
      unfold afterAllowance
      rw [if_pos lower, allowanceLowered_eq]
      exact allowanceRaised_headroom (allowanceShed_headroom (s := allowanceMoved v u) surge)

end Sys2Proof.Machine
end

section
/-! SUPPORT. Every command keeps SAA's account: no element twice, and the currents within the allowance (R111, R112). -/

namespace Sys2Proof.Machine

variable {s t : State}

/-- The account as R111 and R112 have it. -/
def accountSound (s : State) : Prop := accountHoldsNoneTwice s ∧ accountFits s

theorem accountSound_of_eq (hp : t.profile = s.profile) (ha : t.saa = s.saa) (h : accountSound s) : accountSound t := by
  refine ⟨?_, ?_⟩
  · unfold accountSound accountHoldsNoneTwice at h
    unfold accountHoldsNoneTwice
    rw [ha]
    exact h.1
  · unfold accountFits
    rw [State.headroom_congr (s := s) hp (by rw [ha]) (by rw [ha])]
    exact h.2

/-! ### The elements of the account (R112) -/

/-- The elements in the account are the same or fewer, in any order. -/
theorem holdsNoneTwice_of_sublist (h : (t.saa.grants.map (·.element) ++ t.saa.queue.map (·.element)).Sublist
    (s.saa.grants.map (·.element) ++ s.saa.queue.map (·.element))) (hs : accountHoldsNoneTwice s) : accountHoldsNoneTwice t :=
  hs.sublist h

theorem holdsNoneTwice_of_grants (hg : (t.saa.grants.map (·.element)).Sublist (s.saa.grants.map (·.element)))
    (hq : (t.saa.queue.map (·.element)).Sublist (s.saa.queue.map (·.element))) (hs : accountHoldsNoneTwice s) :
    accountHoldsNoneTwice t := holdsNoneTwice_of_sublist (hg.append hq) hs

theorem granted_false_iff (e : Element) (a : Saa) : granted e a = false ↔ e ∉ a.grants.map (·.element) := by
  simp [granted]

theorem queued_false_iff (e : Element) (a : Saa) : queued e a = false ↔ e ∉ a.queue.map (·.element) := by
  simp [queued]

theorem queueServed_holdsNoneTwice {served waiting : List WaitEntry} (parts : s.saa.queue = served ++ waiting)
    (h : accountHoldsNoneTwice s) : accountHoldsNoneTwice (queueServed served waiting s) := by
  refine holdsNoneTwice_of_sublist ?_ h
  simp [queueServed, parts, Function.comp_def]

/-! ### Grants, services and sheds -/

theorem serveQueue_sound (h : accountSound s) : accountSound (serveQueue s) := by
  refine ⟨?_, serveQueue_fits h.2⟩
  unfold serveQueue
  split
  · exact h.1
  · obtain ⟨served, waiting, parts, result, _⟩ := serveHeads_eq (s := s) rfl
    rw [result]
    exact queueServed_holdsNoneTwice parts h.1

theorem filteredGrants_sound {p : GrantEntry → Bool} (hp : t.profile = s.profile) (hg : t.saa.grants = s.saa.grants.filter p)
    (hq : t.saa.queue = s.saa.queue) (hs : t.saa.surge = s.saa.surge) (h : accountSound s) : accountSound t := by
  refine ⟨holdsNoneTwice_of_grants (by rw [hg]; exact List.filter_sublist.map _) (by rw [hq]) h.1, ?_⟩
  have less := grantSum_filter_le p s.saa.grants
  have fits := h.2
  unfold accountFits at fits ⊢
  rw [State.headroom_eq] at fits ⊢
  rw [hp, hg, hs]
  omega

theorem shedEntry_sound (e : Element) (h : accountSound s) : accountSound (shedEntry e s) :=
  filteredGrants_sound (s := s) rfl rfl rfl rfl h

theorem shedUntil_sound (need : Int) (es : List Element) (h : accountSound s) : accountSound (shedUntil need es s) := by
  induction es generalizing s with
  | nil => exact h
  | cons e es ih =>
    unfold shedUntil
    split
    · exact h
    · exact ih (shedEntry_sound e h)

/-- The surge's state, its timer and its number change while it stays out of the granted total. -/
theorem surgeMoved_sound {x : SurgeState} {timer : Timer} {n : Option Byte} (hx : x ≠ .granted) (h : accountSound s) :
    accountSound (s.updSaa fun a => { a with surge := x, grantTimer := timer, txn := n }) := by
  refine ⟨h.1, ?_⟩
  have fits := h.2
  have zero : surgeTaken s.profile x = 0 := by cases x <;> simp_all [surgeTaken]
  unfold accountFits at fits ⊢
  rw [State.headroom_eq] at fits ⊢
  simp only [State.updSaa_saa, State.profile_eq, State.updSaa_prof] at fits zero ⊢
  omega

theorem grantSurge_sound (notYet : s.saa.surge ≠ .granted) (fits : (s.profile.surge : Int) ≤ s.headroom) (h : accountSound s) :
    accountSound (grantSurge s) := by
  refine ⟨holdsNoneTwice_of_grants (by rw [grantSurge_saa]) (by rw [grantSurge_saa]) h.1, ?_⟩
  unfold accountFits
  rw [grantSurge_headroom notYet]
  omega

theorem recheckSurge_sound (h : accountSound s) : accountSound (recheckSurge s) := by
  unfold recheckSurge
  split
  · next due => exact serveQueue_sound (grantSurge_sound (by rw [due.1]; decide) ((surgeFits_iff s).mp due.2) h)
  · exact h

theorem endSurge_sound (h : accountSound s) : accountSound (endSurge s) :=
  serveQueue_sound (surgeMoved_sound (x := .idle) (by decide) h)

/-! ### The messages -/

theorem elementAsked_sound (e : Element) (current : Nat) (h : accountSound s) : accountSound (elementAsked e current s) := by
  unfold elementAsked
  split
  · exact h
  · next unknown =>
    obtain ⟨notGranted, notQueued⟩ : granted e s.saa = false ∧ queued e s.saa = false := by simpa using unknown
    rw [granted_false_iff] at notGranted
    rw [queued_false_iff] at notQueued
    have fresh : (e :: (s.saa.grants.map (·.element) ++ s.saa.queue.map (·.element))).Nodup :=
      List.nodup_cons.mpr ⟨fun mem => (List.mem_append.mp mem).elim notGranted notQueued, h.1⟩
    split
    · next room =>
      refine ⟨?_, ?_⟩
      · unfold accountHoldsNoneTwice
        refine (List.Perm.nodup_iff ?_).mpr fresh
        simp [grantElement, sendToHstg]
      · unfold accountFits
        rw [grantElement_headroom]
        have := room.2
        omega
    · refine ⟨?_, ?_⟩
      · unfold accountHoldsNoneTwice
        refine (List.Perm.nodup_iff ?_).mpr fresh
        simpa [List.append_assoc] using List.perm_append_comm (l₁ := s.saa.grants.map (·.element) ++ s.saa.queue.map (·.element)) (l₂ := [e])
      · exact h.2

theorem elementWithdrawn_sound (e : Element) (h : accountSound s) : accountSound (elementWithdrawn e s) := by
  have left : accountSound (s.updSaa fun a => { a with queue := a.queue.filter fun w => w.element ≠ e }) :=
    ⟨holdsNoneTwice_of_grants (s := s) (List.Sublist.refl _) (List.filter_sublist.map _) h.1, h.2⟩
  unfold elementWithdrawn
  split
  · exact h
  · split
    · dsimp only
      split
      · exact serveQueue_sound left
      · exact left
    · exact h

theorem elementReleased_sound (e : Element) (h : accountSound s) : accountSound (elementReleased e s) := by
  have left : accountSound (s.updSaa fun a => { a with grants := a.grants.filter fun g => g.element ≠ e }) :=
    filteredGrants_sound (s := s) rfl rfl rfl rfl h
  unfold elementReleased
  split
  · dsimp only
    split
    · exact recheckSurge_sound left
    · exact serveQueue_sound left
  · exact h

theorem entryFreed_sound (e : Element) (h : accountSound s) : accountSound (entryFreed e s) := by
  have elements : ((s.saa.grants.map fun g => if g.element = e then { g with free := true } else g).map (·.element)) =
      s.saa.grants.map (·.element) := by
    rw [List.map_map]
    congr 1
    funext g
    by_cases same : g.element = e <;> simp [same]
  have currents : grantSum (s.saa.grants.map fun g => if g.element = e then { g with free := true } else g) =
      grantSum s.saa.grants := by
    unfold grantSum
    rw [List.map_map]
    congr 2
    funext g
    by_cases same : g.element = e <;> simp [same]
  refine ⟨holdsNoneTwice_of_grants (s := s) (elements ▸ List.Sublist.refl _) (List.Sublist.refl _) h.1, ?_⟩
  have fits := h.2
  unfold accountFits at fits ⊢
  rw [State.headroom_eq] at fits ⊢
  simp only [entryFreed, State.updSaa_saa, State.profile_eq, State.updSaa_prof, currents] at fits ⊢
  exact fits

theorem elementFreed_sound (e : Element) (h : accountSound s) : accountSound (elementFreed e s) := by
  cases isGranted : granted e s.saa with
  | false =>
    rw [elementFreed_ignored isGranted]
    exact h
  | true =>
    by_cases pending : s.saa.surge = .pending
    · rw [elementFreed_shed isGranted pending]
      exact recheckSurge_sound (shedEntry_sound e h)
    · rw [elementFreed_kept isGranted pending]
      exact entryFreed_sound e h

theorem surgeAsked_sound (n : Byte) (h : accountSound s) : accountSound (surgeAsked n s) := by
  by_cases idle : s.saa.surge = .idle
  · obtain fits | small := le_or_gt (s.profile.surge : Int) s.headroom
    · rw [surgeAsked_fits n idle fits]
      exact grantSurge_sound (s := s.updSaa _) (by simp [idle]) fits h
    · have shed : accountSound (surgeShed n s) := shedUntil_sound _ _ (surgeMoved_sound (x := .pending) (by decide) h)
      have pending : (surgeShed n s).saa.surge = .pending := by
        rw [surgeShed, shedUntil_saa]
        rfl
      rw [surgeAsked_sheds n idle small]
      split
      · next fits => exact serveQueue_sound (grantSurge_sound (by rw [pending]; decide) ((surgeFits_iff _).mp fits) shed)
      · exact shed
  · rw [surgeAsked_ignored n idle]
    exact h

theorem surgeReleased_sound (n : Byte) (h : accountSound s) : accountSound (surgeReleased n s) := by
  unfold surgeReleased
  split
  · exact endSurge_sound h
  · exact h

theorem surgeWithdrawn_sound (n : Byte) (h : accountSound s) : accountSound (surgeWithdrawn n s) := by
  unfold surgeWithdrawn
  split
  · exact endSurge_sound h
  · exact h

theorem reported_sound {g : EventFlag} {src : Source} {sev : Severity} {code : Byte} {data : List Byte} (h : accountSound s) :
    accountSound (raiseFlag g (report src sev code data s)) :=
  accountSound_of_eq (by simp [State.profile_eq]) (by simp) h

theorem grantTimerExpires_sound (h : accountSound s) : accountSound (grantTimerExpires s) := by
  unfold grantTimerExpires
  split
  · next due =>
    have shed : accountSound (forcedShed s) := shedUntil_sound _ _ (s := s.updSaa fun a => { a with grantTimer := none }) h
    have pending : (forcedShed s).saa.surge = .pending := by
      rw [forcedShed, shedUntil_saa]
      exact due.2
    have forced : accountSound (if surgeFits (forcedShed s) then grantSurge (forcedShed s) else forcedShed s) := by
      split
      · next fits => exact grantSurge_sound (by rw [pending]; decide) ((surgeFits_iff _).mp fits) shed
      · exact shed
    exact serveQueue_sound (reported_sound forced)
  · exact h

/-! ### The two requests that move the profile -/

theorem allowanceRaised_sound (h : accountSound s) : accountSound (allowanceRaised s) := by
  unfold allowanceRaised
  split
  · exact recheckSurge_sound h
  · exact serveQueue_sound h

theorem allowanceShed_holdsNoneTwice (h : accountHoldsNoneTwice s) : accountHoldsNoneTwice (allowanceShed s) := by
  have shed (es : List Element) (u : State) (hu : accountHoldsNoneTwice u) : accountHoldsNoneTwice (shedUntil 0 es u) := by
    induction es generalizing u with
    | nil => exact hu
    | cons e es ih =>
      unfold shedUntil
      split
      · exact hu
      · exact ih _ (holdsNoneTwice_of_grants (s := u) (List.filter_sublist.map _) (List.Sublist.refl _) hu)
  have same := (allowanceShed_account s).1
  unfold accountHoldsNoneTwice
  rw [same]
  exact shed _ s h

theorem ownAllowanceSet_sound (payload : List Byte) (h : accountSound s) : accountSound (ownAllowanceSet payload s).1 := by
  by_cases low : allowanceTooLow s.profile (wordAt payload 0)
  · rw [ownAllowanceSet_refused low]
    exact h
  · rw [ownAllowanceSet_taken low]
    have surge : s.profile.baseLoad + s.profile.surge ≤ wordAt payload 0 := by
      by_contra below
      exact low (.inl (by omega))
    have moved (higher : s.profile.allowance ≤ wordAt payload 0) : accountSound (allowanceMoved (wordAt payload 0) s) := by
      refine ⟨h.1, ?_⟩
      have fits := h.2
      unfold accountFits at fits ⊢
      rw [State.headroom_eq] at fits ⊢
      have same : surgeTaken (allowanceMoved (wordAt payload 0) s).profile s.saa.surge = surgeTaken s.profile s.saa.surge := by
        cases s.saa.surge <;> rfl
      have base : (allowanceMoved (wordAt payload 0) s).profile.baseLoad = s.profile.baseLoad := rfl
      have value : (allowanceMoved (wordAt payload 0) s).profile.allowance = wordAt payload 0 := rfl
      have account : (allowanceMoved (wordAt payload 0) s).saa = s.saa := rfl
      rw [account, same, base, value]
      omega
    dsimp only [afterAllowance]
    split
    · rw [allowanceLowered_eq]
      exact allowanceRaised_sound ⟨allowanceShed_holdsNoneTwice h.1,
        allowanceShed_headroom (s := allowanceMoved (wordAt payload 0) s) surge⟩
    · split
      · exact allowanceRaised_sound (moved (by omega))
      · exact serveQueue_sound (moved (by omega))

/-- An empty account fits a profile whose base load lies within its allowance. -/
theorem accountSound_empty (hg : s.saa.grants = []) (hq : s.saa.queue = []) (hs : s.saa.surge = .idle)
    (fits : s.profile.baseLoad ≤ s.profile.allowance) : accountSound s := by
  refine ⟨by simp [accountHoldsNoneTwice, hg, hq], ?_⟩
  unfold accountFits
  rw [State.headroom_eq, hg, hs]
  simp only [grantSum, List.map_nil, List.sum_nil, surgeTaken]
  omega

theorem applyProfile_profile (p : Profile) (s : State) : (applyProfile p s).profile = p := by
  simp only [applyProfile, State.profile_eq, State.updLink_prof, hstgProfile_frame, State.updDrum_prof, State.updProf_prof]

theorem ownProfileSet_sound (payload : List Byte) (h : accountSound s) : accountSound (ownProfileSet payload s).1 := by
  unfold ownProfileSet
  generalize profileOf payload = p
  split
  · exact h
  · split
    · exact h
    · next ok =>
      obtain ⟨grants, queue, surge, _⟩ := settleAccount_saa s
      have base := (profileFault_none ok).2
      have same : (applyProfile (Profile.masked p) (settleAccount s)).saa = (settleAccount s).saa := by simp
      refine accountSound_empty (by rw [same, grants]) (by rw [same, queue]) (by rw [same, surge]) ?_
      rw [applyProfile_profile]
      change p.baseLoad ≤ p.allowance
      omega

/-! ### Every command -/

/-- Blocks other than SAA and PROF leave the account. -/
theorem accountSound_of_frame (hp : t.prof = s.prof) (ha : t.saa = s.saa) (h : accountSound s) : accountSound t :=
  accountSound_of_eq (by rw [State.profile_eq, State.profile_eq, hp]) ha h

theorem serve_sound {kind tag : Byte} {payload : List Byte} {owner : State → State × ReplyCode}
    (hOwner : ∀ u, accountSound u → accountSound (owner u).1) (h : accountSound s) : accountSound (serve kind tag payload owner s) := by
  unfold serve
  split
  · exact h
  · next f rest due =>
    have taken : accountSound (s.updLink fun l => { l with inbound := rest }) := accountSound_of_frame (s := s) rfl rfl h
    have reply (code : ReplyCode) {u : State} (hu : accountSound u) : accountSound (putReply kind tag code u) :=
      accountSound_of_frame (by simp) (by simp) hu
    dsimp only
    split
    · exact reply _ taken
    · split
      · exact reply _ (hOwner _ (accountSound_of_frame (by simp) (by simp) taken))
      · exact reply _ taken

/-- An owner that leaves the account and the profile. -/
theorem serve_apart_sound {kind tag : Byte} {payload : List Byte} {owner : State → State × ReplyCode}
    (hOwner : ∀ u, (owner u).1.prof = u.prof ∧ (owner u).1.saa = u.saa) (h : accountSound s) :
    accountSound (serve kind tag payload owner s) :=
  serve_sound (fun u => accountSound_of_frame (hOwner u).1 (hOwner u).2) h

theorem serve_reads_sound {kind tag : Byte} {payload : List Byte} {owner : State → State × ReplyCode}
    (hOwner : ∀ u, (owner u).1 = u) (h : accountSound s) : accountSound (serve kind tag payload owner s) :=
  serve_apart_sound (fun u => by rw [hOwner]; exact ⟨rfl, rfl⟩) h

theorem takeHstgMsg_sound {m : HstgMsg} {act : State → State} (hAct : ∀ u, accountSound u → accountSound (act u))
    (h : accountSound s) : accountSound (takeHstgMsg m act s) := by
  unfold takeHstgMsg
  split
  · split
    · exact hAct _ (accountSound_of_frame (s := s) rfl rfl h)
    · exact h
  · exact h

theorem takeDrumMsg_sound {m : DrumMsg} {act : State → State} (hAct : ∀ u, accountSound u → accountSound (act u))
    (h : accountSound s) : accountSound (takeDrumMsg m act s) := by
  unfold takeDrumMsg
  split
  · split
    · exact hAct _ (accountSound_of_frame (s := s) rfl rfl h)
    · exact h
  · exact h

theorem takeSaaMsg_account (m : SaaMsg) {act : State → State} (hAct : ∀ u, (act u).prof = u.prof ∧ (act u).saa = u.saa) (s : State) :
    (takeSaaMsg m act s).prof = s.prof ∧ (takeSaaMsg m act s).saa = s.saa := by
  unfold takeSaaMsg
  split
  · split
    · exact hAct _
    · exact ⟨rfl, rfl⟩
  · exact ⟨rfl, rfl⟩

theorem takeSurgeGrant_account (n : Byte) {act : State → State} (hAct : ∀ u, (act u).prof = u.prof ∧ (act u).saa = u.saa) (s : State) :
    (takeSurgeGrant n act s).prof = s.prof ∧ (takeSurgeGrant n act s).saa = s.saa := by
  unfold takeSurgeGrant
  split
  · split
    · exact hAct _
    · exact ⟨rfl, rfl⟩
  · exact ⟨rfl, rfl⟩

theorem takeDry_account (n : Nat) {act : State → State} (hAct : ∀ u, (act u).prof = u.prof ∧ (act u).saa = u.saa) (s : State) :
    (takeDry n act s).prof = s.prof ∧ (takeDry n act s).saa = s.saa := by
  unfold takeDry
  split
  · split
    · exact hAct _
    · exact ⟨rfl, rfl⟩
  · exact ⟨rfl, rfl⟩

theorem takeTripMsg_account (m : TripMsg) {act : State → State} (hAct : ∀ u, (act u).prof = u.prof ∧ (act u).saa = u.saa) (s : State) :
    (takeTripMsg m act s).prof = s.prof ∧ (takeTripMsg m act s).saa = s.saa := by
  unfold takeTripMsg
  split
  · exact hAct _
  · exact ⟨rfl, rfl⟩

theorem serveUnknown_account (kind tag : Byte) (payload : List Byte) (s : State) :
    (serveUnknown kind tag payload s).prof = s.prof ∧ (serveUnknown kind tag payload s).saa = s.saa := by
  unfold serveUnknown
  (repeat' split) <;> exact ⟨rfl, rfl⟩

theorem ownProfileStore_account (s : State) (h : accountSound s) : accountSound (ownProfileStore s).1 := by
  unfold ownProfileStore
  (repeat' split)
  · exact h
  · exact h
  · exact accountSound_of_eq (by simp [State.profile_eq]) (by simp) h

theorem verifyStore_account (readBack : List Byte) (h : accountSound s) : accountSound (verifyStore readBack s) := by
  unfold verifyStore
  split
  · exact h
  · split <;> exact accountSound_of_eq (by simp [State.profile_eq]) (by simp) h

theorem ownPlanAppend_account (payload : List Byte) (s : State) :
    (ownPlanAppend payload s).1.prof = s.prof ∧ (ownPlanAppend payload s).1.saa = s.saa := by
  unfold ownPlanAppend
  dsimp only
  (repeat' split) <;> simp

theorem ownPlanClear_account (s : State) : (ownPlanClear s).1.prof = s.prof ∧ (ownPlanClear s).1.saa = s.saa := by
  unfold ownPlanClear
  split <;> simp

theorem ownStart_account (s : State) : (ownStart s).1.prof = s.prof ∧ (ownStart s).1.saa = s.saa := by
  unfold ownStart
  (repeat' split) <;> simp

theorem ownPause_account (s : State) : (ownPause s).1.prof = s.prof ∧ (ownPause s).1.saa = s.saa := by
  unfold ownPause
  split <;> simp

theorem resumed_account (s : State) : (resumed s).prof = s.prof ∧ (resumed s).saa = s.saa := by
  unfold resumed
  (repeat' split) <;> simp

theorem ownResume_account (s : State) : (ownResume s).1.prof = s.prof ∧ (ownResume s).1.saa = s.saa := by
  unfold ownResume
  (repeat' split)
  · exact ⟨rfl, rfl⟩
  · exact ⟨rfl, rfl⟩
  · exact ⟨rfl, rfl⟩
  · exact ⟨rfl, rfl⟩
  · exact resumed_account ((s.updTrip silenceCleared).updCpx fun c => { c with pauseCause := none })

theorem ownAbort_account (s : State) : (ownAbort s).1.prof = s.prof ∧ (ownAbort s).1.saa = s.saa := by
  unfold ownAbort
  split <;> simp

theorem ownAdvance_account (s : State) : (ownAdvance s).1.prof = s.prof ∧ (ownAdvance s).1.saa = s.saa := by
  unfold ownAdvance
  split <;> simp

theorem ownCycleClose_account (s : State) : (ownCycleClose s).1.prof = s.prof ∧ (ownCycleClose s).1.saa = s.saa := by
  unfold ownCycleClose
  (repeat' split) <;> simp

theorem ownContextLoad_account (payload : List Byte) (s : State) :
    (ownContextLoad payload s).1.prof = s.prof ∧ (ownContextLoad payload s).1.saa = s.saa := by
  unfold ownContextLoad
  dsimp only
  (repeat' split) <;> simp

theorem ownTripClear_account (payload : List Byte) (s : State) :
    (ownTripClear payload s).1.prof = s.prof ∧ (ownTripClear payload s).1.saa = s.saa := by
  unfold ownTripClear
  dsimp only
  (repeat' split) <;> exact ⟨rfl, rfl⟩

theorem ownPatternSet_account (payload : List Byte) (s : State) :
    (ownPatternSet payload s).1.prof = s.prof ∧ (ownPatternSet payload s).1.saa = s.saa := by
  unfold ownPatternSet
  dsimp only
  (repeat' split) <;> exact ⟨rfl, rfl⟩

theorem ownReportLevelSet_account (payload : List Byte) (s : State) :
    (ownReportLevelSet payload s).1.prof = s.prof ∧ (ownReportLevelSet payload s).1.saa = s.saa := by
  unfold ownReportLevelSet
  dsimp only
  split <;> exact ⟨rfl, rfl⟩

theorem ownLinkReset_account (s : State) : (ownLinkReset s).1.prof = s.prof ∧ (ownLinkReset s).1.saa = s.saa := by
  unfold ownLinkReset
  (repeat' split) <;> exact ⟨rfl, rfl⟩

/-- The profile a reset leaves in force. -/
theorem resetPart_account (cause : ResetCause) (s : State)
    (fits : (resetPart cause s).profile.baseLoad ≤ (resetPart cause s).profile.allowance) : accountSound (resetPart cause s) :=
  accountSound_empty rfl rfl rfl fits

/-- An account that fits leaves the base load within the allowance. -/
theorem baseLoad_le_of_fits (h : accountFits s) : s.profile.baseLoad ≤ s.profile.allowance := by
  unfold accountFits at h
  rw [State.headroom_eq] at h
  omega

/-- Every command keeps the account; one that loads a profile needs its base load within its allowance (log entry 27). -/
theorem exec_keeps_account {c : Instr} {s t : State}
    (loaded : c = .powerOn ∨ c = .brownOut →
      (loadStore (storeAfterReset s)).1.baseLoad ≤ (loadStore (storeAfterReset s)).1.allowance)
    (hs : accountSound s) (h : exec c s = .next t) : accountSound t := by
  have only {u : State} (sound : accountSound u) (same : Host.Outcome.next (φ := Fault) (ρ := Refusal) u = .next t) :
      accountSound t := by
    injection same with same
    exact same ▸ sound
  have apart {u : State} (account : u.prof = s.prof ∧ u.saa = s.saa)
      (same : Host.Outcome.next (φ := Fault) (ρ := Refusal) u = .next t) : accountSound t :=
    only (accountSound_of_frame account.1 account.2 hs) same
  cases c with
  | powerOn => exact only (resetPart_account .powerOn s (loaded (.inl rfl))) h
  | brownOut => exact only (resetPart_account .brownOut s (loaded (.inr rfl))) h
  | pinReset =>
    refine only ?_ h
    split
    · exact resetPart_account .pin s (baseLoad_le_of_fits (s := s) hs.2)
    · exact hs
  | linkResetFollows =>
    refine only ?_ h
    split
    · exact resetPart_account .link s (baseLoad_le_of_fits (s := s) hs.2)
    · exact hs
  | rxByte b => exact apart (by simp) h
  | gapTimerExpiry =>
    refine apart ?_ h
    split <;> simp
  | txFrameBoundary => exact apart (by simp) h
  | silenceTimerExpiry =>
    refine apart ?_ h
    split <;> simp
  | unknownKindRequest kind tag payload => exact apart (serveUnknown_account kind tag payload s) h
  | profileSet tag payload => exact only (serve_sound (fun _ => ownProfileSet_sound payload) hs) h
  | profileStore tag payload => exact only (serve_sound ownProfileStore_account hs) h
  | allowanceSet tag payload => exact only (serve_sound (fun _ => ownAllowanceSet_sound payload) hs) h
  | reportLevelSet tag payload => exact only (serve_apart_sound (ownReportLevelSet_account payload) hs) h
  | linkReset tag payload => exact only (serve_apart_sound ownLinkReset_account hs) h
  | patternSet tag payload => exact only (serve_apart_sound (ownPatternSet_account payload) hs) h
  | planAppend tag payload => exact only (serve_apart_sound (ownPlanAppend_account payload) hs) h
  | planClear tag payload => exact only (serve_apart_sound ownPlanClear_account hs) h
  | start tag payload => exact only (serve_apart_sound ownStart_account hs) h
  | pause tag payload => exact only (serve_apart_sound ownPause_account hs) h
  | resume tag payload => exact only (serve_apart_sound ownResume_account hs) h
  | abort tag payload => exact only (serve_apart_sound ownAbort_account hs) h
  | advance tag payload => exact only (serve_apart_sound ownAdvance_account hs) h
  | cycleClose tag payload => exact only (serve_apart_sound ownCycleClose_account hs) h
  | statusGet tag payload => exact only (serve_apart_sound (fun _ => ⟨rfl, rfl⟩) hs) h
  | tripClear tag payload => exact only (serve_apart_sound (ownTripClear_account payload) hs) h
  | contextLoad tag payload => exact only (serve_apart_sound (ownContextLoad_account payload) hs) h
  | probe | profileGet | nop | trendGet | tripGet => exact only (serve_reads_sound (fun _ => rfl) hs) h
  | patternGet tag payload => exact only (serve_reads_sound (ownPatternGet_state payload) hs) h
  | planGet tag payload => exact only (serve_reads_sound (ownPlanGet_state payload) hs) h
  | historyGet tag payload => exact only (serve_reads_sound (ownHistoryGet_state payload) hs) h
  | contextGet tag payload => exact only (serve_reads_sound ownContextGet_state hs) h
  | tachPulse | indexMarker | stopDetectExpiry | accelTimerExpiry | stallTimerExpiry | inputLevelChange | minOnExpiry | minOffExpiry
    | oneSecondCount | starveTimerExpiry => exact apart (by simp) h
  | dwellExpiry =>
    refine apart ?_ h
    split <;> simp
  | surgeGrant n => exact apart (takeSurgeGrant_account n (by simp) s) h
  | conversionComplete ch raw => cases ch <;> exact apart (by simp) h
  | debounceExpiry pin => cases pin <;> exact apart (by simp) h
  | graceTimerExpiry | lowFlowExpiry | runOnTimerExpiry =>
    refine apart ?_ h
    split <;> simp
  | elementGrant e => exact apart (takeSaaMsg_account _ (by simp) s) h
  | shed e => exact apart (takeSaaMsg_account _ (by simp) s) h
  | elementRequest e current => exact only (takeHstgMsg_sound (fun _ => elementAsked_sound e current) hs) h
  | elementWithdrawal e => exact only (takeHstgMsg_sound (fun _ => elementWithdrawn_sound e) hs) h
  | elementRelease e => exact only (takeHstgMsg_sound (fun _ => elementReleased_sound e) hs) h
  | onFreeNotice e => exact only (takeHstgMsg_sound (fun _ => elementFreed_sound e) hs) h
  | surgeRequest n => exact only (takeDrumMsg_sound (fun _ => surgeAsked_sound n) hs) h
  | surgeRelease n => exact only (takeDrumMsg_sound (fun _ => surgeReleased_sound n) hs) h
  | surgeWithdrawal n => exact only (takeDrumMsg_sound (fun _ => surgeWithdrawn_sound n) hs) h
  | grantTimerExpiry => exact only (grantTimerExpires_sound hs) h
  | dryReachedSignal ordinal => exact apart (takeDry_account ordinal (by simp) s) h
  | tripCondition c => exact apart (takeTripMsg_account _ (by simp) s) h
  | tripConditionEnd c => exact apart (takeTripMsg_account _ (by simp) s) h
  | storeVerify readBack => exact only (verifyStore_account readBack hs) h

/-- Settles O31: each command is kept by what SAA does, by an empty account, or by leaving SAA alone. -/
theorem accountFitsAndHoldsNoneTwice : Obligations.AccountFitsAndHoldsNoneTwice := by
  have factory : factoryProfile.baseLoad ≤ factoryProfile.allowance := by decide
  refine ⟨accountSound_empty (s := State.reset) rfl rfl rfl factory, fun c rest s t pending loaded none fits h => ?_⟩
  rw [step_cons pending] at h
  exact exec_keeps_account (s := { s with pending := rest }) loaded ⟨none, fits⟩ h

end Sys2Proof.Machine
end

section
/-! SUPPORT. The queue of commands, the delivery of a frame and the transmitter: O1, O2, O3, O7, O8, O9 and O10. -/

namespace Sys2Proof.Machine

variable {sums own : Prop} {s t : State}

/-! ### The step and its commands -/

/-- Settles O1: by the two branches of the step. -/
theorem stepTakesTheFrontCommand : Obligations.StepTakesTheFrontCommand :=
  fun _ => ⟨fun _ _ h => step_cons h, step_nil⟩

theorem exec_next (c : Instr) (s : State) : ∃ t, exec c s = .next t := by cases c <;> exact ⟨_, rfl⟩

theorem Change.keeps_pending (h : Change sums own s t) : t.pending = s.pending := by
  cases h <;> simp [profileTaken, tripMsgTaken, hearHost, filterUpdate, closeHistory, setPlan]
  split <;> rfl

theorem Reaches.keeps_pending (h : Reaches sums own s t) : t.pending = s.pending :=
  h.keeps (P := fun u => u.pending = s.pending) (fun _ _ change same => change.keeps_pending.trans same) rfl

/-- Settles O2: every change keeps the waiting commands, and so does a reset. -/
theorem everyCommandCompletes : Obligations.EveryCommandCompletes := by
  intro c s
  obtain ⟨t, run⟩ := exec_next c s
  refine ⟨t, run, ?_⟩
  obtain reached | ⟨cause, rfl, _⟩ := exec_reaches run
  · exact reached.keeps_pending
  · rfl

/-! ### The command a frame names -/

theorem knownKinds_eq : knownKinds = requestLengths.map Prod.fst := by decide

theorem unknownKind_iff (kind : Byte) : knownKinds.contains kind = false ↔ ∀ row ∈ requestLengths, row.1 ≠ kind := by
  rw [knownKinds_eq, Bool.eq_false_iff, ne_eq, List.contains_iff_mem, List.mem_map]
  exact ⟨fun h row mem same => h ⟨row, mem, same⟩, fun h ⟨row, mem, same⟩ => h row mem same⟩

/-- Each KIND of the request index is delivered to its owner. -/
theorem exec_commandOfFrame_known : ∀ kind ∈ knownKinds, ∃ owner : List Byte → State → State × ReplyCode, ∀ tag payload s,
    exec (commandOfFrame kind tag payload) s = .next (serve kind tag payload (owner payload) s) := by
  simp only [knownKinds, List.forall_mem_cons, List.not_mem_nil, false_implies, implies_true, and_true]
  and_intros <;> exact ⟨_, fun _ _ _ => rfl⟩

theorem commandOfFrame_unknown {kind : Byte} (h : knownKinds.contains kind = false) (tag : Byte) (payload : List Byte) :
    commandOfFrame kind tag payload = .unknownKindRequest kind tag payload := by
  have other {n : Nat} (known : knownKinds.contains (BitVec.ofNat 8 n) = true) : kind.toNat ≠ n := by
    rintro rfl
    rw [BitVec.ofNat_toNat, BitVec.setWidth_eq] at known
    rw [known] at h
    cases h
  unfold commandOfFrame
  split
  case h_27 => rfl
  all_goals next same => exact absurd same (other (by decide))

/-- A frame's command delivers the frame to its owner, or answers that the KIND is no request. -/
theorem exec_commandOfFrame (kind tag : Byte) (payload : List Byte) (s : State) :
    (∃ owner, exec (commandOfFrame kind tag payload) s = .next (serve kind tag payload owner s)) ∨
      knownKinds.contains kind = false ∧ exec (commandOfFrame kind tag payload) s = .next (serveUnknown kind tag payload s) := by
  cases known : knownKinds.contains kind with
  | true =>
    obtain ⟨owner, run⟩ := exec_commandOfFrame_known kind (List.contains_iff_mem.mp known)
    exact .inl ⟨owner payload, run tag payload s⟩
  | false => exact .inr ⟨rfl, by rw [commandOfFrame_unknown known]; rfl⟩

theorem serveUnknown_not_due {kind tag : Byte} {payload : List Byte}
    (h : s.link.slot ≠ none ∨ ∀ f rest, s.link.inbound = f :: rest → ¬ (f.kind = kind ∧ f.tag = tag ∧ f.payload = payload)) :
    serveUnknown kind tag payload s = s := by
  simp [serveUnknown, dueFrame_none h]

theorem serveUnknown_due {kind tag : Byte} {payload : List Byte} {f : InFrame} (due : requestDue kind tag payload f s)
    (unknown : knownKinds.contains kind = false) :
    serveUnknown kind tag payload s = answered kind tag [0x14] (dequeued s) := by
  obtain ⟨slot, open_, head, hk, ht, hp⟩ := due
  simp only [serveUnknown, dueFrame_of_head slot head hk ht hp, unknown, Bool.false_eq_true, if_false]
  rw [if_neg (by simpa using open_)]
  rfl

theorem serveUnknown_closing {kind tag : Byte} {payload : List Byte} {f : InFrame} (slot : s.link.slot = none)
    (closing : s.link.closing ≠ .open) (head : s.link.inbound.head? = some f) (hk : f.kind = kind) (ht : f.tag = tag)
    (hp : f.payload = payload) (unknown : knownKinds.contains kind = false) :
    serveUnknown kind tag payload s = answered kind tag [0x10] (dequeued s) := by
  simp only [serveUnknown, dueFrame_of_head slot head hk ht hp, unknown, Bool.false_eq_true, if_false]
  rw [if_pos (by simpa using closing)]
  rfl

/-- A frame's command that is not due changes nothing (log entry 1). -/
theorem exec_commandOfFrame_not_due {kind tag : Byte} {payload : List Byte}
    (h : s.link.slot ≠ none ∨ ∀ f rest, s.link.inbound = f :: rest → ¬ (f.kind = kind ∧ f.tag = tag ∧ f.payload = payload)) :
    exec (commandOfFrame kind tag payload) s = .next s := by
  obtain ⟨owner, run⟩ | ⟨_, run⟩ := exec_commandOfFrame kind tag payload s
  · rw [run, serve_not_due h]
  · rw [run, serveUnknown_not_due h]

theorem accelTimer_stopped (h : s.drum.accelTimer = none) : (s.updDrum fun d => { d with accelTimer := none }) = s := by
  have same : ({ s.drum with accelTimer := none } : Drum) = s.drum := by rw [← h]
  rw [State.updDrum, same]

/-- Settles O3: each command's own test finds nothing to take. -/
theorem commandsNotDueChangeNothing : Obligations.CommandsNotDueChangeNothing := by
  intro s
  have next {u : State} (h : u = s) : Host.Outcome.next (φ := Fault) (ρ := Refusal) u = .next s := congrArg _ h
  refine ⟨fun _ _ _ => exec_commandOfFrame_not_due, fun _ _ h => next (takeHstgMsg_not_due h), fun _ h => next (takeHstgMsg_not_due h),
    fun _ h => next (takeHstgMsg_not_due h), fun _ h => next (takeHstgMsg_not_due h), fun _ h => next (takeSaaMsg_not_due h),
    fun _ h => next (takeSaaMsg_not_due h), fun _ h => next (takeDrumMsg_not_due h), fun _ h => next (takeDrumMsg_not_due h),
    fun _ h => next (takeDrumMsg_not_due h), fun _ h => next (takeSurgeGrant_not_due h), fun _ h => next (takeDry_not_due h),
    fun _ h => next (takeTripMsg_not_due h), fun _ h => next (takeTripMsg_not_due h), ?_⟩
  refine ⟨fun h => next ?gap, fun h => next ?silence, fun h => next ?stopDetect, fun h => next (accelTimer_stopped h), fun h => next ?dwell,
    fun h => next ?stall, fun h => next ?grace, fun h => next ?lowFlow, fun h => next ?runOn, fun h => next ?door, fun h => next ?highLimit,
    fun e h => next ?minOn, fun e h => next ?minOff, fun h => next ?grantTimer, fun h => next ?starve, fun h bs => next ?verify, fun h => ?reset⟩
  case gap => simp [h]
  case silence => simp [h]
  case stopDetect => simp [stopDetected, h]
  case dwell => simp [h]
  case stall => simp [stallExpires, h]
  case grace => simp [h]
  case lowFlow => simp [h]
  case runOn => simp [h]
  case door => simp [doorDebounced, h]
  case highLimit => simp [highLimitDebounced, h]
  case minOn => simp [minOnExpires, h]
  case minOff => simp [minOffExpires, h]
  case grantTimer => simp [grantTimerExpires, h]
  case starve =>
    unfold starveExpires
    split
    · next running => rw [h] at running; cases running
    · rfl
  case verify => simp [verifyStore, h]
  case reset =>
    refine execLinkResetFollows_not_due (Bool.eq_false_iff.mpr fun sent => ?_)
    obtain ⟨closing, slot, inbound, line⟩ := (repliesSent_iff s.link).mp sent
    simp [closing, slot, inbound, line] at h

/-! ### What LINK answers before the owner (R182, R183) -/

/-- A length the index does not give for a KIND is not allowed. -/
theorem lengthAllowed_of_index : ∀ row ∈ requestLengths, ∀ n, n ∉ row.2 → lengthAllowed row.1 n = false := by
  simp only [requestLengths, List.cons_append, List.nil_append, List.forall_mem_cons, List.not_mem_nil, false_implies, implies_true,
    and_true]
  and_intros <;> intro n absent <;> simpa [lengthAllowed] using absent

/-- Settles O9: a delivery is the owner's or the unknown KIND's, and each answers by the length and the closing first. -/
theorem requestsRefusedByLinkBeforeTheirOwner : Obligations.RequestsRefusedByLinkBeforeTheirOwner := by
  intro kind tag payload f s
  refine ⟨fun due unknown => congrArg _ (serveUnknown_due due ((unknownKind_iff kind).mpr unknown)), fun due badLength => ?_,
    fun slot closing head hk ht hp => ?_⟩
  · obtain ⟨row, mem, rfl, absent⟩ := badLength
    obtain ⟨owner, run⟩ | ⟨unknown, _⟩ := exec_commandOfFrame row.1 tag payload s
    · rw [run, serve_bad_length due (lengthAllowed_of_index row mem _ absent)]
    · exact absurd rfl ((unknownKind_iff row.1).mp unknown row mem)
  · obtain ⟨owner, run⟩ | ⟨unknown, run⟩ := exec_commandOfFrame kind tag payload s
    · rw [run, serve_closing slot closing head hk ht hp]
    · rw [run, serveUnknown_closing slot closing head hk ht hp unknown]

end Sys2Proof.Machine
end

section
/-! SUPPORT. What each block hands TRIP: HSTG nothing, DRUM and ATU the ends of the conditions they hold, in the order of the model. -/

namespace Sys2Proof.Machine

variable {s t : State}

/-! ### HSTG hands TRIP nothing -/

theorem dropWaiting_trip (e : Element) (s : State) : (dropWaiting e s).paths.trip = s.paths.trip := by
  unfold dropWaiting
  split <;> rfl

theorem choose_trip (e : Element) (s : State) : (choose e s).paths.trip = s.paths.trip := by
  unfold choose
  dsimp only
  split <;> rfl

@[simp] theorem applyDemand_trip (s : State) : (applyDemand s).paths.trip = s.paths.trip := by
  unfold applyDemand
  dsimp only
  split
  · exact (foldl_keeps (fun u : State => u.paths.trip) (fun u e => switchOff .normal e u) (fun _ _ => rfl) _ _).trans
      (foldl_keeps (fun u : State => u.paths.trip) (fun u e => dropWaiting e u) (fun u e => dropWaiting_trip e u) _ _)
  · split
    · exact foldl_keeps (fun u : State => u.paths.trip) _ (fun u e => choose_trip e u) _ _
    · rfl

@[simp] theorem setDemand_trip (d : Nat) (s : State) : (setDemand d s).paths.trip = s.paths.trip := applyDemand_trip _

@[simp] theorem stopElement_trip (e : Element) (s : State) : (stopElement e s).paths.trip = s.paths.trip := by
  unfold stopElement
  split
  · rfl
  · rfl
  · exact dropWaiting_trip e s
  all_goals rfl

@[simp] theorem hstgStop_trip (fromCycle : Bool) (s : State) : (hstgStop fromCycle s).paths.trip = s.paths.trip := by
  refine (foldl_keeps (fun u : State => u.paths.trip) _ (fun u e => stopElement_trip e u) _ _).trans ?_
  cases fromCycle <;> rfl

@[simp] theorem hstgStarved_trip (s : State) : (hstgStarved s).paths.trip = s.paths.trip := setDemand_trip _ _

@[simp] theorem hstgStageStart_trip (st : HeatSettings) (s : State) : (hstgStageStart st s).paths.trip = s.paths.trip := by
  unfold hstgStageStart
  split
  · rfl
  · rfl
  · exact setDemand_trip _ _
  · exact setDemand_trip _ _

@[simp] theorem hstgResume_trip (heat : Bool) (s : State) : (hstgResume heat s).paths.trip = s.paths.trip := by
  unfold hstgResume
  split
  · rfl
  · exact setDemand_trip _ _

@[simp] theorem hstgExhaust_trip (v : Int) (s : State) : (hstgExhaust v s).paths.trip = s.paths.trip := by
  unfold hstgExhaust
  split
  · exact setDemand_trip _ _
  · rfl

@[simp] theorem rerequest_trip (s : State) : (rerequest s).paths.trip = s.paths.trip := by
  unfold rerequest
  split
  · exact foldl_keeps (fun u : State => u.paths.trip) (fun u e => requestElement e u) (fun _ _ => rfl) _ _
  · rfl

/-! ### DRUM (R5, R8, R16, R17) -/

/-- The ends a drum hands TRIP as it comes to rest: a standing TACH, then a standing DRUM_STALL (R16, R17). -/
def drumEnds (d : Drum) : List TripMsg :=
  (if 4 ≤ d.malformedRun then [⟨.tach, true⟩] else []) ++ if d.stallRaised then [⟨.drumStall, true⟩] else []

theorem endMalformedRun_eq (s : State) :
    endMalformedRun s =
      (s.updDrum fun d => { d with malformedRun := 0 }).updPaths fun p =>
        { p with trip := p.trip ++ if 4 ≤ s.drum.malformedRun then [⟨.tach, true⟩] else [] } := by
  unfold endMalformedRun
  dsimp only
  split
  · rfl
  · simp [State.updPaths, State.updDrum]

theorem endStall_eq (s : State) :
    endStall s =
      (s.updDrum fun d => { d with stallRaised := false }).updPaths fun p =>
        { p with trip := p.trip ++ if s.drum.stallRaised then [⟨.drumStall, true⟩] else [] } := by
  unfold endStall
  cases raised : s.drum.stallRaised with
  | true => rfl
  | false =>
    have same : ({ s.drum with stallRaised := false } : Drum) = s.drum := by rw [← raised]
    simp [State.updPaths, State.updDrum, same]

/-- The drum at rest, as every way to STOPPED leaves it. -/
def drumAtRest (d : Drum) : Drum :=
  { d with state := .stopped, openRev := none, accelTimer := none, dwellTimer := none, stallTimer := none, burst := false,
           malformedRun := 0, stallRaised := false }

theorem enterStopped_eq (s : State) :
    enterStopped s = (s.updDrum drumAtRest).updPaths fun p => { p with trip := p.trip ++ drumEnds s.drum } := by
  rw [enterStopped, endStall_eq, endMalformedRun_eq]
  simp only [State.updDrum, State.updPaths, drumAtRest, drumEnds, List.append_assoc]
  rfl

@[simp] theorem loseLock_trip (s : State) : (loseLock s).paths.trip = s.paths.trip := by simp

@[simp] theorem enterDecel_trip (reverse : Bool) (s : State) : (enterDecel reverse s).paths.trip = s.paths.trip := by simp

@[simp] theorem runRequest_trip (s : State) : (runRequest s).paths.trip = s.paths.trip := by
  unfold runRequest
  split
  · split <;> rfl
  all_goals rfl

theorem drumStop_trip (s : State) :
    (drumStop s).paths.trip = s.paths.trip ++ if s.drum.state = .surgeWait ∨ s.drum.state = .dwell then drumEnds s.drum else [] := by
  unfold drumStop
  split
  · next state => simp [state]
  · next state => simp [state, enterStopped_eq, sendDrumToSaa]
  · next state => simp [state, sendDrumToSaa]
  · next state => simp [state]
  · next state => simp [state]
  · next state => simp [state]
  · next state => simp [state, enterStopped_eq]

/-! ### ATU (R82) -/

/-- The end a blower that goes OFF hands TRIP. -/
def airflowEnds (a : Atu) : List TripMsg := if a.airflowRaised then [⟨.airflow, true⟩] else []

theorem endAirflow_eq (s : State) :
    endAirflow s =
      (s.updAtu fun a => { a with airflowRaised := false }).updPaths fun p => { p with trip := p.trip ++ airflowEnds s.atu } := by
  unfold endAirflow airflowEnds
  cases raised : s.atu.airflowRaised with
  | true => rfl
  | false =>
    have same : ({ s.atu with airflowRaised := false } : Atu) = s.atu := by rw [← raised]
    simp [State.updPaths, State.updAtu, same]

/-- The blower OFF, as every way to OFF leaves ATU. -/
def blowerAtRest (a : Atu) : Atu :=
  { a with blower := .off, airflowProven := false, grace := none, lowFlow := none, runOn := none, airflowRaised := false }

/-- The heat taken away by a blower that leaves ON (R104). -/
def heatLost (s : State) : State := if s.atu.blower = .on then hstgStop false s else s

theorem heatLost_frame (s : State) :
    (heatLost s).link = s.link ∧ (heatLost s).prof = s.prof ∧ (heatLost s).atu = s.atu ∧ (heatLost s).saa = s.saa ∧
      (heatLost s).drum = s.drum ∧ (heatLost s).efe = s.efe ∧ (heatLost s).mest = s.mest ∧ (heatLost s).cpx = s.cpx ∧
      (heatLost s).trip = s.trip ∧ (heatLost s).paths.trip = s.paths.trip ∧ (heatLost s).pending = s.pending ∧
      (heatLost s).freeCount = s.freeCount := by
  unfold heatLost
  split <;> simp

theorem enterOff_heatLost (s : State) :
    enterOff s = ((heatLost s).updAtu blowerAtRest).updPaths fun p => { p with trip := p.trip ++ airflowEnds s.atu } := by
  have ends : airflowEnds s.atu = airflowEnds (heatLost s).atu := by
    obtain ⟨_, _, atu, _⟩ := heatLost_frame s
    rw [atu]
  rw [enterOff_eq, endAirflow_eq, ends]
  rfl

theorem enterOff_trip (s : State) : (enterOff s).paths.trip = s.paths.trip ++ airflowEnds s.atu := by
  obtain ⟨_, _, _, _, _, _, _, _, _, trip, _⟩ := heatLost_frame s
  rw [enterOff_heatLost, State.updPaths_paths, State.updAtu_paths, trip]

@[simp] theorem enterRunOn_trip (s : State) : (enterRunOn s).paths.trip = s.paths.trip := hstgStop_trip _ _

/-- A blower request hands TRIP the end of AIRFLOW, or nothing. -/
theorem blowerRequest_trip (q : BlowerRequest) (s : State) :
    (blowerRequest q s).paths.trip = s.paths.trip ∨ (blowerRequest q s).paths.trip = s.paths.trip ++ airflowEnds s.atu := by
  unfold blowerRequest
  (repeat' split) <;> first
    | exact .inl rfl
    | exact .inl (enterRunOn_trip s)
    | exact .inr (enterOff_trip s)

end Sys2Proof.Machine
end

section
/-! SUPPORT. The host's silence and the frames that end it (R174, R175, R181): O5. -/

namespace Sys2Proof.Machine

variable {sums own : Prop} {s t : State}

/-! ### The HOST_SILENT messages in flight -/

/-- The HOST_SILENT messages on TRIP's path. -/
def silentMsgs (s : State) : List TripMsg := s.paths.trip.filter fun m => decide (m.cause = .hostSilent)

/-- The HOST_SILENT ends of a list of messages. -/
def silentEnds (l : List TripMsg) : List TripMsg := l.filter fun m => decide (m = ⟨.hostSilent, true⟩)

theorem silentEnds_silentMsgs (s : State) : silentEnds (silentMsgs s) = silentEnds s.paths.trip := by
  unfold silentEnds silentMsgs
  rw [List.filter_filter]
  congr 1
  funext m
  by_cases same : m = ⟨.hostSilent, true⟩ <;> simp [same]

theorem silentMsgs_nil_iff (s : State) : silentMsgs s = [] ↔ ∀ m ∈ s.paths.trip, m.cause ≠ .hostSilent := by
  simp [silentMsgs, List.filter_eq_nil_iff]

/-- TRIP's oldest HOST_SILENT message is the head of those in flight. -/
theorem silentMsgs_head (s : State) :
    s.paths.trip.find? (fun x => decide (x.cause = .hostSilent)) = (silentMsgs s).head? := List.head?_filter.symm

theorem silentMsgs_of_append {l : List TripMsg} (h : t.paths.trip = s.paths.trip ++ l) (other : ∀ m ∈ l, m.cause ≠ .hostSilent) :
    silentMsgs t = silentMsgs s := by
  unfold silentMsgs
  have none : l.filter (fun m => decide (m.cause = .hostSilent)) = [] := List.filter_eq_nil_iff.mpr (by simpa using other)
  rw [h, List.filter_append, none, List.append_nil]

/-- The oldest message of a cause taken leaves the others. -/
theorem silentMsgs_taken {m : TripMsg} (oldest : s.paths.trip.find? (fun x => decide (x.cause = m.cause)) = some m) :
    silentMsgs (tripMsgTaken m s) = if m.cause = .hostSilent then (silentMsgs s).tail else silentMsgs s := by
  have erased : silentMsgs (tripMsgTaken m s) = (silentMsgs s).erase m := List.erase_filter.symm
  rw [erased]
  split
  · next silent =>
    rw [silent, silentMsgs_head] at oldest
    obtain ⟨rest, held⟩ := List.head?_eq_some_iff.mp oldest
    rw [held, List.erase_cons_head, List.tail_cons]
  · next other => exact List.erase_of_not_mem fun mem => other (by simpa using (List.mem_filter.mp mem).2)

/-! ### What TRIP does with one of them -/

theorem drumEnds_other (d : Drum) : ∀ m ∈ drumEnds d, m.cause ≠ .hostSilent := by
  unfold drumEnds
  intro m mem
  obtain mem | mem := List.mem_append.mp mem
  · split at mem
    · rw [List.mem_singleton.mp mem]; decide
    · cases mem
  · split at mem
    · rw [List.mem_singleton.mp mem]; decide
    · cases mem

theorem airflowEnds_other (a : Atu) : ∀ m ∈ airflowEnds a, m.cause ≠ .hostSilent := by
  unfold airflowEnds
  intro m mem
  split at mem
  · rw [List.mem_singleton.mp mem]; decide
  · cases mem

theorem drumStop_silentMsgs (s : State) : silentMsgs (drumStop s) = silentMsgs s := by
  refine silentMsgs_of_append (drumStop_trip s) fun m mem => ?_
  split at mem
  · exact drumEnds_other _ m mem
  · cases mem

theorem blowerRequest_silentMsgs (q : BlowerRequest) (s : State) : silentMsgs (blowerRequest q s) = silentMsgs s := by
  obtain same | ends := blowerRequest_trip q s
  · unfold silentMsgs
    rw [same]
  · exact silentMsgs_of_append ends (airflowEnds_other _)

theorem silentMsgs_of_trip (h : t.paths.trip = s.paths.trip) : silentMsgs t = silentMsgs s := by
  unfold silentMsgs
  rw [h]

theorem enterPaused_silentMsgs (cause : PauseCause) (s : State) : silentMsgs (enterPaused cause s) = silentMsgs s := by
  have stopped (u : State) : silentMsgs (drumStop (hstgStop true u)) = silentMsgs u :=
    (drumStop_silentMsgs _).trans (silentMsgs_of_trip (hstgStop_trip true u))
  have reported (old : CycleState) (u : State) : silentMsgs (reportChange old u) = silentMsgs u := silentMsgs_of_trip (by simp)
  unfold enterPaused
  dsimp only
  rw [reported]
  split
  · exact stopped _
  · exact (blowerRequest_silentMsgs _ _).trans (stopped _)

theorem takeCondition_hostSilent (s : State) : silentMsgs (takeCondition .hostSilent s) = silentMsgs s := by
  unfold takeCondition
  split
  · rfl
  · change silentMsgs (cpxSilence _) = _
    unfold cpxSilence
    split
    · rw [enterPaused_silentMsgs]
      exact silentMsgs_of_trip (by simp)
    · rw [enterPaused_silentMsgs]
      exact silentMsgs_of_trip (by simp)
    all_goals exact silentMsgs_of_trip (by simp)

theorem takeConditionEnd_silentMsgs (c : TripCause) (s : State) : silentMsgs (takeConditionEnd c s) = silentMsgs s :=
  silentMsgs_of_trip (by simp)

/-- A taken end leaves the entry not ACTIVE (R167). -/
theorem takeConditionEnd_not_active (c : TripCause) (s : State) : ((takeConditionEnd c s).trip.get c).state ≠ .active := by
  unfold takeConditionEnd
  split
  · simp
  · assumption

/-! ### The silences TRIP takes on the way to an owner (R174, R175) -/

/-- Taken up to its `n`-th end, the messages leave the other ends in flight and the entry not ACTIVE. -/
theorem settleSilence_ends {ms : List TripMsg} {n : Nat} (inFlight : silentMsgs s = ms.filter fun m => decide (m.cause = .hostSilent))
    (some : 1 ≤ n) (enough : n ≤ (silentEnds ms).length) :
    (settleSilence n ms s).trip.hostSilent.state ≠ .active ∧
      (silentEnds (settleSilence n ms s).paths.trip).length + n = (silentEnds ms).length := by
  induction ms generalizing s n with
  | nil =>
    simp only [silentEnds, List.filter_nil, List.length_nil] at enough
    omega
  | cons m ms ih =>
    obtain ⟨k, rfl⟩ : ∃ k, n = k + 1 := ⟨n - 1, by omega⟩
    unfold settleSilence
    by_cases silent : m.cause = .hostSilent
    · rw [if_pos silent]
      rw [List.filter_cons_of_pos (by simpa using silent)] at inFlight
      have oldest : s.paths.trip.find? (fun x => decide (x.cause = m.cause)) = Option.some m := by
        rw [silent, silentMsgs_head, inFlight]
        rfl
      have rest : silentMsgs (tripMsgTaken m s) = ms.filter fun m => decide (m.cause = .hostSilent) := by
        rw [silentMsgs_taken oldest, if_pos silent, inFlight, List.tail_cons]
      rw [takeTripMsg_due oldest]
      change (settleSilence _ ms (tripTakes m (tripMsgTaken m s))).trip.hostSilent.state ≠ .active ∧
        (silentEnds (settleSilence _ ms (tripTakes m (tripMsgTaken m s))).paths.trip).length + (k + 1) = _
      obtain ⟨c, ends⟩ := m
      obtain rfl : c = .hostSilent := silent
      cases ends with
      | false =>
        have count : (silentEnds (⟨.hostSilent, false⟩ :: ms)).length = (silentEnds ms).length := by simp [silentEnds]
        rw [count] at enough ⊢
        exact ih (s := takeCondition .hostSilent (tripMsgTaken ⟨.hostSilent, false⟩ s))
          ((takeCondition_hostSilent _).trans rest) some enough
      | true =>
        have count : (silentEnds (⟨.hostSilent, true⟩ :: ms)).length = (silentEnds ms).length + 1 := by simp [silentEnds]
        rw [count] at enough ⊢
        have after : silentMsgs (takeConditionEnd .hostSilent (tripMsgTaken ⟨.hostSilent, true⟩ s)) =
            ms.filter fun m => decide (m.cause = .hostSilent) := (takeConditionEnd_silentMsgs _ _).trans rest
        obtain rfl | more := Nat.eq_zero_or_pos k
        · have done (u : State) : settleSilence 0 ms u = u := by cases ms <;> rfl
          change (settleSilence 0 ms (takeConditionEnd _ _)).trip.hostSilent.state ≠ .active ∧
            (silentEnds (settleSilence 0 ms (takeConditionEnd _ _)).paths.trip).length + 1 = _
          rw [done, ← silentEnds_silentMsgs, after]
          refine ⟨takeConditionEnd_not_active .hostSilent _, ?_⟩
          have same : silentEnds (ms.filter fun m => decide (m.cause = .hostSilent)) = silentEnds ms := by
            rw [← after, silentEnds_silentMsgs, ← silentEnds_silentMsgs, after]
            unfold silentEnds
            rw [List.filter_filter]
            congr 1
            funext m
            by_cases same : m = ⟨.hostSilent, true⟩ <;> simp [same]
          rw [same]
        · obtain ⟨state, left⟩ := ih after more (by omega)
          exact ⟨state, by
            change (silentEnds (settleSilence k ms (takeConditionEnd .hostSilent (tripMsgTaken ⟨.hostSilent, true⟩ s))).paths.trip).length + (k + 1) = _
            omega⟩
    · rw [if_neg silent]
      rw [List.filter_cons_of_neg (by simpa using silent)] at inFlight
      have count : silentEnds (m :: ms) = silentEnds ms :=
        List.filter_cons_of_neg (by simpa using fun same => silent (by rw [same]))
      rw [count] at enough ⊢
      exact ih inFlight some enough

theorem dequeued_paths (s : State) : (dequeued s).paths = s.paths := rfl

theorem endsDue_eq (f : InFrame) (s : State) : endsDue f s = (silentEnds s.paths.trip).length - f.laterEnds := rfl

/-- With no end due the delivery finds the state as it is. -/
theorem atOwner_none_due {f : InFrame} (h : (silentEnds s.paths.trip).length ≤ f.laterEnds) : atOwner f s = dequeued s :=
  settleFor_none (by rw [endsDue_eq, dequeued_paths]; omega)

/-- With an end due the owner finds the entry not ACTIVE, and the later ends stay in flight. -/
theorem atOwner_due {f : InFrame} (h : f.laterEnds < (silentEnds s.paths.trip).length) :
    (atOwner f s).trip.hostSilent.state ≠ .active ∧ (silentEnds (atOwner f s).paths.trip).length = f.laterEnds := by
  have settled := settleSilence_ends (s := dequeued s) (ms := s.paths.trip) (n := endsDue f (dequeued s)) rfl
    (by rw [endsDue_eq, dequeued_paths]; omega) (by rw [endsDue_eq, dequeued_paths]; omega)
  rw [endsDue_eq, dequeued_paths] at settled
  refine ⟨?_, ?_⟩
  · exact settled.1
  · have := settled.2
    change (silentEnds (settleSilence ((silentEnds s.paths.trip).length - f.laterEnds) s.paths.trip (dequeued s)).paths.trip).length = _
    omega

/-! ### The end in flight, or the entry not ACTIVE (R174) -/

theorem silenceSound_iff (s : State) :
    silenceSound s ↔ (s.link.silentRaised = false →
      (silentMsgs s).getLast? = some ⟨.hostSilent, true⟩ ∨ silentMsgs s = [] ∧ s.trip.hostSilent.state ≠ .active) := by
  rw [silentMsgs_nil_iff]
  rfl

theorem silenceSound_of_eq (hl : t.link.silentRaised = s.link.silentRaised) (hp : silentMsgs t = silentMsgs s)
    (ht : s.trip.hostSilent.state ≠ .active → t.trip.hostSilent.state ≠ .active) (hs : silenceSound s) : silenceSound t := by
  rw [silenceSound_iff] at hs ⊢
  rw [hl, hp]
  exact fun quiet => (hs quiet).imp_right (And.imp_right ht)

theorem Change.keeps_silenceSound (h : Change sums own s t) (hs : silenceSound s) : silenceSound t := by
  cases h with
  | reported src sev code data =>
    obtain ⟨_, _, link⟩ := report_link src sev code data s
    exact silenceSound_of_eq (by rw [link]) (silentMsgs_of_trip (by simp)) (by simp) hs
  | link own f s hi hr hc hw hq => exact silenceSound_of_eq (s := s) hq rfl id hs
  | silenceRaised =>
    rw [silenceSound_iff]
    exact fun quiet => absurd quiet (by simp)
  | hostHeard =>
    cases standing : s.link.silentRaised with
    | false => exact silenceSound_of_eq (by simp [hearHost, standing]) (silentMsgs_of_trip (by simp [hearHost, standing])) (by simp) hs
    | true =>
      rw [silenceSound_iff]
      refine fun _ => .inl ?_
      have newest : silentMsgs (hearHost s) = silentMsgs s ++ [⟨.hostSilent, true⟩] := by
        simp [silentMsgs, hearHost, standing, handConditionEnd]
      rw [newest, List.getLast?_append]
      rfl
  | paths f s ht => exact silenceSound_of_eq (s := s) rfl (silentMsgs_of_trip (by simp [ht])) id hs
  | condition m s hc => exact silenceSound_of_eq (s := s) rfl (silentMsgs_of_append (l := [m]) rfl (by simpa using hc)) id hs
  | conditionTaken c time ordinal s oldest =>
    have taken := silentMsgs_taken (m := ⟨c, false⟩) oldest
    rw [silenceSound_iff] at hs ⊢
    intro quiet
    change (silentMsgs (tripMsgTaken ⟨c, false⟩ s)).getLast? = _ ∨ silentMsgs (tripMsgTaken ⟨c, false⟩ s) = [] ∧ _
    rw [taken]
    by_cases silent : c = .hostSilent
    · subst silent
      rw [if_pos rfl]
      have head : (silentMsgs s).head? = some ⟨.hostSilent, false⟩ := by rw [← silentMsgs_head]; exact oldest
      obtain ⟨rest, held⟩ := List.head?_eq_some_iff.mp head
      rw [held] at hs ⊢
      obtain last | ⟨none, _⟩ := hs quiet
      · cases rest with
        | nil => simp at last
        | cons m rest => exact .inl (by simpa [List.getLast?_cons_cons] using last)
      · cases none
    · rw [if_neg silent]
      refine (hs quiet).imp_right (And.imp_right fun calm => ?_)
      obtain same | ⟨same, _⟩ := conditionEntered_get c .hostSilent time ordinal s.trip
      · change ((conditionEntered c time ordinal s.trip).get .hostSilent).state ≠ .active
        rw [same]
        exact calm
      · exact absurd same.symm silent
  | endTaken c s oldest =>
    have taken := silentMsgs_taken (m := ⟨c, true⟩) oldest
    rw [silenceSound_iff] at hs ⊢
    intro quiet
    change (silentMsgs (tripMsgTaken ⟨c, true⟩ s)).getLast? = _ ∨ silentMsgs (tripMsgTaken ⟨c, true⟩ s) = [] ∧ _
    rw [taken]
    by_cases silent : c = .hostSilent
    · subst silent
      rw [if_pos rfl]
      have head : (silentMsgs s).head? = some ⟨.hostSilent, true⟩ := by rw [← silentMsgs_head]; exact oldest
      obtain ⟨rest, held⟩ := List.head?_eq_some_iff.mp head
      rw [held] at hs ⊢
      cases rest with
      | nil =>
        refine .inr ⟨rfl, ?_⟩
        change ((endEntered .hostSilent s.trip).get .hostSilent).state ≠ .active
        unfold endEntered
        split
        · rw [TripTable.get_set_same]
          simp
        · assumption
      | cons m rest =>
        obtain last | ⟨none, _⟩ := hs quiet
        · exact .inl (by simpa [List.getLast?_cons_cons] using last)
        · cases none
    · rw [if_neg silent]
      refine (hs quiet).imp_right (And.imp_right fun calm => ?_)
      obtain same | ⟨same, _⟩ := endEntered_get c .hostSilent s.trip
      · change ((endEntered c s.trip).get .hostSilent).state ≠ .active
        rw [same]
        exact calm
      · exact absurd same.symm silent
  | heldCleared table s ht =>
    refine silenceSound_of_eq (s := s) rfl rfl (fun calm => ?_) hs
    change (table.get .hostSilent).state ≠ .active
    obtain same | cleared := ht .hostSilent
    · rw [same]
      exact calm
    · rw [cleared, ne_eq, clearHeld_active_iff]
      exact calm
  | deenergized | energized => exact silenceSound_of_eq (by simp) (silentMsgs_of_trip rfl) (by simp) hs
  | profile => exact silenceSound_of_eq (s := s) (by simp [profileTaken]) (silentMsgs_of_trip (by simp [profileTaken])) (by simp [profileTaken]) hs
  | filtered => exact silenceSound_of_eq (by simp) (silentMsgs_of_trip (by simp)) (by simp) hs
  | _ => exact silenceSound_of_eq (s := s) rfl rfl id hs

theorem silenceSound_resetPart (cause : ResetCause) (s : State) : silenceSound (resetPart cause s) :=
  fun _ => .inr ⟨fun _ mem => (nomatch mem), fun active => (nomatch active)⟩

end Sys2Proof.Machine
end

section
/-! SUPPORT. LINK: a frame on the line, the transmitter, the reset of the part and LINK's own requests: O5, O6, O7, O8, O10 and O11. -/

namespace Sys2Proof.Machine

variable {sums own : Prop} {s t : State}

/-! ### A CRC-good frame and the silence it ends (R174, R181) -/

theorem exec_silenceTimerExpiry_running (running : s.link.silence ≠ none) :
    exec .silenceTimerExpiry s =
      .next (handCondition .hostSilent (s.updLink fun l => { l with silence := none, silentRaised := true })) :=
  congrArg Host.Outcome.next (if_neg (by simpa using running))

/-- With no silence standing and none ended since the frame's check, its owner finds the entry not ACTIVE. -/
theorem atOwner_not_active {f : InFrame} (hs : silenceSound s) (quiet : s.link.silentRaised = false) (fresh : f.laterEnds = 0) :
    (atOwner f s).trip.hostSilent.state ≠ .active := by
  obtain none | some := Nat.eq_zero_or_pos (silentEnds s.paths.trip).length
  · rw [atOwner_none_due (by omega)]
    obtain last | ⟨_, calm⟩ := (silenceSound_iff s).mp hs quiet
    · have waits : (⟨.hostSilent, true⟩ : TripMsg) ∈ silentEnds (silentMsgs s) :=
        List.mem_filter.mpr ⟨List.mem_of_getLast? last, by simp⟩
      rw [silentEnds_silentMsgs, List.eq_nil_of_length_eq_zero none] at waits
      cases waits
    · exact calm
  · exact (atOwner_due (by omega)).1

/-- Settles O5: the receiver's equations, the count of the ends that an owner's delivery takes, and the step lemma of the silence. -/
theorem goodFrameIsHeardThenQueued : Obligations.GoodFrameIsHeardThenQueued := by
  refine ⟨fun high low len kind tag payload s state good => ?frame, fun s running => exec_silenceTimerExpiry_running running,
    fun f s n count => ?owner, State.reset_eq ▸ silenceSound_resetPart _ _,
    step_keeps (fun _ _ h => h) (fun _ _ _ change h => change.keeps_silenceSound h) fun cause u _ => silenceSound_resetPart cause u,
    fun f s hs quiet fresh => atOwner_not_active hs quiet fresh⟩
  case frame =>
    rw [exec_rxByte, receive_check_good state good]
    exact ⟨fun admits room => congrArg _ (admitFrame_queued admits room), fun admits full => congrArg _ (admitFrame_full admits full),
      fun taken => congrArg _ (admitFrame_not_admitted taken)⟩
  case owner =>
    subst count
    exact ⟨fun none => atOwner_none_due none, fun due => atOwner_due due⟩

/-! ### A frame on the line, byte by byte (R180, R190) -/

/-- The receiver within a frame, the gap timer just restarted. -/
def receiving (rx : RxState) (s : State) : State := s.updLink fun l => { l with rx := rx, gapTimer := some 10 }

theorem receiveAll_cons (b : Byte) (bs : List Byte) (s : State) : receiveAll (b :: bs) s = receiveAll bs (receive b s) := rfl

/-- The bytes of a body fill it and enter CHECK. -/
theorem receiveAll_body {bs : List Byte} (some : bs ≠ []) (rest got : List Byte) (s : State) :
    receiveAll (bs ++ rest) (receiving (.body (got.length + bs.length) got) s) =
      receiveAll rest (receiving (.check (got.length + bs.length) (got ++ bs) none) s) := by
  induction bs generalizing got with
  | nil => exact absurd rfl some
  | cons b bs ih =>
    rw [List.cons_append, receiveAll_cons]
    cases bs with
    | nil =>
      rw [receive_body_last (s := receiving _ s) rfl (by simp)]
      rfl
    | cons c bs =>
      rw [receive_body_stored (s := receiving _ s) rfl (by simp)]
      have more := ih (by simp) (got ++ [b])
      have length : (got ++ [b]).length + (c :: bs).length = got.length + (b :: c :: bs).length := by simp; omega
      rw [length, List.append_assoc] at more
      exact more

/-- A whole frame is received as its body, the CRC being its own. -/
theorem receiveAll_frame {len : Nat} {body : List Byte} (hunt : s.link.rx = .hunt) (length : body.length = len)
    (fits : 2 ≤ len ∧ len ≤ 200) :
    ∃ u, receiveAll (0x7E :: (BitVec.ofNat 8 len :: body ++ crcBytes (crc16 (BitVec.ofNat 8 len :: body)))) s = .next (admitFrame body u) ∧
      ∃ rx, u = receiving rx s := by
  obtain ⟨high, low, crc⟩ : ∃ high low, crcBytes (crc16 (BitVec.ofNat 8 len :: body)) = [high, low] := ⟨_, _, rfl⟩
  have lenByte : (BitVec.ofNat 8 len).toNat = len := by simp; omega
  refine ⟨receiving (.check len body (some high)) s, ?_, _, rfl⟩
  rw [crc, receiveAll_cons, receive_hunt_start hunt rfl, List.cons_append, receiveAll_cons]
  change receiveAll _ (receive _ (receiving .length s)) = _
  rw [receive_length_taken (s := receiving .length s) rfl (by omega), lenByte]
  have filled := receiveAll_body (bs := body) (by rintro rfl; simp at length; omega) [high, low] [] s
  rw [List.length_nil, Nat.zero_add, length, List.nil_append] at filled
  refine filled.trans ?_
  rw [receiveAll_cons, receive_check_first (s := receiving _ s) rfl, receiveAll_cons]
  exact congrArg Host.Outcome.next (receive_check_good (s := receiving (.check len body (some high)) s) rfl crc)

/-- Settles O6: the frame's bytes walk the receiver to its CRC, and what is admitted reads nothing of the receiver. -/
theorem frameOnTheLineIsReceivedAsSent : Obligations.FrameOnTheLineIsReceivedAsSent := by
  intro kind tag payload s fits hunt admits room
  obtain ⟨_, received, rx, rfl⟩ := receiveAll_frame (body := kind :: tag :: payload) (len := payload.length + 2) hunt rfl (by omega)
  refine received.trans ?_
  rw [admitFrame_queued (s := receiving rx s) admits room]
  rfl

/-! ### The transmitter and the closing link (R182, R184, R185) -/

theorem exec_txFrameBoundary (s : State) : exec .txFrameBoundary s = .next (frameBoundary s) := rfl

theorem frameBoundary_reply {r : OutFrame} (waits : s.link.slot = some r) :
    frameBoundary s = sendReply r (s.updLink fun l => { l with line := none }) := by
  simp [frameBoundary, waits]

theorem frameBoundary_waits (empty : s.link.slot = none) (busy : s.link.closing ≠ .open ∨ s.link.inbound ≠ []) :
    frameBoundary s = s.updLink fun l => { l with line := none } := by
  simp [frameBoundary, empty, busy]

theorem frameBoundary_idle (empty : s.link.slot = none) (reports : s.link.reports = []) :
    frameBoundary s = s.updLink fun l => { l with line := none } := by
  simp [frameBoundary, empty, reports]

theorem frameBoundary_report {r : Report} {rest : List Report} (empty : s.link.slot = none) (open_ : s.link.closing = .open)
    (none : s.link.inbound = []) (reports : s.link.reports = r :: rest) :
    frameBoundary s = sendReport r rest (s.updLink fun l => { l with line := Option.none }) := by
  simp [frameBoundary, empty, open_, none, reports]

theorem bump_eq (n top : Nat) : bump top n = if n < top then n + 1 else n := rfl

/-- Settles O7: the equations of a report handed over and of a frame boundary. -/
theorem transmitterAndReportQueue : Obligations.TransmitterAndReportQueue := by
  refine ⟨fun src sev code data s => ⟨report_discarded, report_queued, fun given full => report_lost given full, fun f => rfl⟩,
    fun s open_ => ⟨fun r waits => ?reply, fun r rest empty none reports kept => ?report, fun r rest empty none reports lost => ?lost,
      fun empty idle => ?idle⟩⟩
  case reply =>
    rw [exec_txFrameBoundary, frameBoundary_reply waits]
    simp [sendReply, answerBusy, State.updLink, open_]
  case report =>
    rw [exec_txFrameBoundary, frameBoundary_report empty open_ none reports]
    simp [sendReport, State.updLink, kept]
  case lost =>
    rw [exec_txFrameBoundary, frameBoundary_report empty open_ none reports]
    simp [sendReport, State.updLink, lost]
  case idle =>
    rw [exec_txFrameBoundary]
    obtain due | reports := idle
    · rw [frameBoundary_waits empty (.inr due)]
    · rw [frameBoundary_idle empty reports]

theorem Change.keeps_closingSound (h : Change sums own s t) (hs : closingSound s) : closingSound t := by
  have kept {u : State} (hl : u.link.closing = s.link.closing) (hp : u.prof.write = s.prof.write) : closingSound u := by
    unfold closingSound
    rw [hl, hp]
    exact hs
  cases h with
  | reported src sev code data =>
    obtain ⟨_, _, link⟩ := report_link src sev code data s
    exact kept (by rw [link]) (by simp)
  | link own f s hi hr hc hw hq => exact fun closing => (hw closing).elim hs id
  | storeWriting copy s open_ => exact fun closing => absurd open_ closing
  | storeWritten => exact fun _ => rfl
  | hostHeard =>
    refine kept ?_ (by simp)
    unfold hearHost
    split <;> rfl
  | profile => exact kept (by simp [profileTaken]) (by simp [profileTaken])
  | filtered => exact kept (by simp) (by simp)
  | _ => exact kept rfl rfl

/-- LINK_RESET by the enable and a write in flight (R182, R200). -/
theorem ownLinkReset_denied (off : s.profile.linkResetEnable ≠ 1) : ownLinkReset s = (s, .denied) := if_pos off

theorem ownLinkReset_busy (on : s.profile.linkResetEnable = 1) (writes : s.prof.write ≠ none) : ownLinkReset s = (s, .busy) := by
  simp [ownLinkReset, on, Option.isSome_iff_ne_none.mpr writes]

theorem ownLinkReset_accepted (on : s.profile.linkResetEnable = 1) (still : s.prof.write = none) :
    ownLinkReset s = (s.updLink fun l => { l with closing := .accepted }, .ok []) := by
  simp [ownLinkReset, on, still]

/-- Settles O8: LINK_RESET's three answers, the boundaries of a closing link, its reset, and the step lemma. -/
theorem linkResetClosesThenResets : Obligations.LinkResetClosesThenResets := by
  refine ⟨fun tag f s due => ?request, fun r s waits closing => ⟨fun none => ?last, fun f rest held => ?busy⟩,
    fun s closing empty => congrArg _ (frameBoundary_waits empty (.inl closing)), fun s taken empty none => ?follows,
    State.reset_eq ▸ ?reset, step_keeps (fun _ _ h => h) (fun _ _ _ change h => change.keeps_closingSound h) ?resets⟩
  case request =>
    have run : exec (.linkReset tag []) s =
        .next (answered 0x07 tag (ownLinkReset (atOwner f s)).2.payload (ownLinkReset (atOwner f s)).1) := congrArg _ (serve_due due rfl)
    rw [run]
    refine ⟨fun off => ?_, fun on writes => ?_, fun on still => ?_⟩
    · rw [ownLinkReset_denied off]
      rfl
    · rw [ownLinkReset_busy on writes]
      rfl
    · rw [ownLinkReset_accepted on still]
      rfl
  case last =>
    rw [exec_txFrameBoundary, frameBoundary_reply waits]
    cases state : s.link.closing <;> simp_all [sendReply, answerBusy, State.updLink]
  case busy =>
    rw [exec_txFrameBoundary, frameBoundary_reply waits]
    cases state : s.link.closing <;> simp_all [sendReply, answerBusy, State.updLink, putReply, ReplyCode.payload]
  case follows =>
    refine ⟨fun idle => execLinkResetFollows_due ((repliesSent_iff _).mpr ⟨taken, empty, none, idle⟩),
      fun sending => execLinkResetFollows_not_due (Bool.eq_false_iff.mpr fun sent => ?_)⟩
    obtain ⟨_, _, _, idle⟩ := (repliesSent_iff _).mp sent
    exact sending idle
  case reset => exact fun closing => absurd rfl closing
  case resets => exact fun _ _ _ closing => absurd rfl closing

/-! ### LINK's own requests (R186, R187) -/

theorem ownReportLevelSet_refused {payload : List Byte} (h : 3 < byteAt payload 0) :
    ownReportLevelSet payload s = (s, .badField 1 0) := if_pos h

theorem ownReportLevelSet_taken {payload : List Byte} (h : byteAt payload 0 ≤ 3) :
    ownReportLevelSet payload s = (s.updLink fun l => { l with level := byteAt payload 0 }, .ok []) := if_neg (Nat.not_lt.mpr h)

/-- A delivery keeps the report level where its owner does. -/
theorem serve_level {kind tag : Byte} {payload : List Byte} {owner : State → State × ReplyCode}
    (kept : ∀ u, (owner u).1.link.level = u.link.level) (s : State) : (serve kind tag payload owner s).link.level = s.link.level := by
  have settled (f : InFrame) (u : State) : (settleFor f u).link.level = u.link.level := by
    obtain ⟨_, _, _, link⟩ := settleFor_link f u
    rw [link]
  unfold serve
  split
  · rfl
  · dsimp only
    split
    · rfl
    · split
      · exact (kept _).trans (settled _ _)
      · rfl

theorem applyProfile_level (p : Profile) (s : State) : (applyProfile p s).link.level = s.link.level := by
  simp [applyProfile]

theorem ownProfileSet_level (payload : List Byte) (s : State) : (ownProfileSet payload s).1.link.level = s.link.level := by
  unfold ownProfileSet
  split
  · rfl
  · split
    · rfl
    · obtain ⟨_, _, _, link⟩ := (settleAccount_reaches (sums := True) (own := False) s).link_quiet
      rw [applyProfile_level, link]

/-- A good frame leaves the silence timer restarted, or stopped for a timeout of 0, whatever becomes of it (R174). -/
theorem admitFrame_silence (body : List Byte) (s : State) :
    (admitFrame body s).link.silence = if s.profile.silenceTimeout = 0 then none else some (s.profile.silenceTimeout * 1000) := by
  by_cases taken : s.link.closing = .replyTaken
  · rw [admitFrame_not_admitted taken]
    rfl
  · by_cases full : 4 ≤ s.link.inbound.length
    · rw [admitFrame_full taken full]
      obtain ⟨_, _, link⟩ := report_link .link .warning 0x02 ([body.getD 0 0, body.getD 1 0] ++ u16 (bump 65535 s.link.dropped))
        ((frameHeard s).updLink fun l => { l with dropped := bump 65535 s.link.dropped })
      rw [link]
      rfl
    · rw [admitFrame_queued taken (Nat.not_le.mp full)]
      rfl

/-- Settles O10: each owner's answer, the level through a PROFILE_SET, and the silence timer after a good frame. -/
theorem nopAndReportLevelSet : Obligations.NopAndReportLevelSet := by
  refine ⟨fun tag f s due => congrArg _ (serve_due due rfl), fun tag v f s due => ?level, fun tag payload s t run => ?profile,
    fun high low len body s state good => ⟨admitFrame body s, congrArg Host.Outcome.next (receive_check_good state good), admitFrame_silence body s⟩⟩
  case level =>
    have run : exec (.reportLevelSet tag [v]) s =
        .next (answered 0x06 tag (ownReportLevelSet [v] (atOwner f s)).2.payload (ownReportLevelSet [v] (atOwner f s)).1) :=
      congrArg _ (serve_due due rfl)
    rw [run]
    refine ⟨fun high => ?_, fun low => ?_⟩
    · rw [ownReportLevelSet_refused (payload := [v]) high]
      rfl
    · rw [ownReportLevelSet_taken (payload := [v]) low]
      rfl
  case profile =>
    have same : serve 0x02 tag payload (ownProfileSet payload) s = t := Host.Outcome.next.inj run
    rw [← same]
    exact serve_level (ownProfileSet_level payload) s

end Sys2Proof.Machine
end

section
/-! SUPPORT. Numbers, codes and records as bytes: O11, O22 and O23. -/

namespace Sys2Proof.Machine

variable {s t : State}

/-! ### Numbers as bytes and back (R190) -/

theorem byte_toNat (n : Nat) : (BitVec.ofNat 8 n).toNat = n % 256 := BitVec.toNat_ofNat n 8

theorem byte_of_lt {n : Nat} (fits : n < 256) : (BitVec.ofNat 8 n).toNat = n := by
  rw [byte_toNat, Nat.mod_eq_of_lt fits]

theorem word_toNat (n : Nat) : (BitVec.ofNat 8 (n / 256)).toNat * 256 + (BitVec.ofNat 8 n).toNat = n % 65536 := by
  simp only [byte_toNat]
  omega

theorem word_of_lt {n : Nat} (fits : n < 65536) : (BitVec.ofNat 8 (n / 256)).toNat * 256 + (BitVec.ofNat 8 n).toNat = n := by
  rw [word_toNat, Nat.mod_eq_of_lt fits]

theorem long_toNat (n : Nat) :
    ((BitVec.ofNat 8 (n / 65536 / 256)).toNat * 256 + (BitVec.ofNat 8 (n / 65536)).toNat) * 65536 +
      ((BitVec.ofNat 8 (n / 256)).toNat * 256 + (BitVec.ofNat 8 n).toNat) = n % 4294967296 := by
  rw [word_toNat, word_toNat]
  omega

theorem long_of_lt {n : Nat} (fits : n < 4294967296) :
    ((BitVec.ofNat 8 (n / 65536 / 256)).toNat * 256 + (BitVec.ofNat 8 (n / 65536)).toNat) * 65536 +
      ((BitVec.ofNat 8 (n / 256)).toNat * 256 + (BitVec.ofNat 8 n).toNat) = n := by
  rw [long_toNat, Nat.mod_eq_of_lt fits]

theorem signedWordAt_of_word {bs : List Byte} {i : Nat} {v : Int} (h : wordAt bs i = (v % 65536).toNat)
    (fits : -32768 ≤ v ∧ v < 32768) : signedWordAt bs i = v := by
  unfold signedWordAt
  split <;> omega

theorem signedByteAt_of_byte {bs : List Byte} {i : Nat} {v : Int} (h : byteAt bs i = (v % 256).toNat) (fits : -128 ≤ v ∧ v < 128) :
    signedByteAt bs i = v := by
  unfold signedByteAt
  split <;> omega

theorem signedWord_toNat (v : Int) :
    (BitVec.ofNat 8 ((v % 65536).toNat / 256)).toNat * 256 + (BitVec.ofNat 8 (v % 65536).toNat).toNat = (v % 65536).toNat :=
  word_of_lt (by omega)

theorem signedByte_toNat (v : Int) : (BitVec.ofNat 8 (v % 256).toNat).toNat = (v % 256).toNat := byte_of_lt (by omega)

theorem flag_toNat (b : Bool) : (BitVec.ofNat 8 (if b then 1 else 0)).toNat = b.toNat := by cases b <;> rfl

/-- A presence byte and the field's bytes, 0 where it is absent. -/
theorem optField_u8 (v : Option Nat) : optField 1 u8 v = flag v.isSome ++ u8 (v.getD 0) := by cases v <;> rfl

theorem optField_u16 (v : Option Nat) : optField 2 u16 v = flag v.isSome ++ u16 (v.getD 0) := by cases v <;> rfl

theorem optField_u32 (v : Option Nat) : optField 4 u32 v = flag v.isSome ++ u32 (v.getD 0) := by cases v <;> rfl

/-! ### Every code is a byte (R190) -/

theorem CycleState.code_toNat (c : CycleState) : (BitVec.ofNat 8 c.code).toNat = c.code := by cases c <;> rfl
theorem StageKind.code_toNat (k : StageKind) : (BitVec.ofNat 8 k.code).toNat = k.code := by cases k <;> rfl
theorem PauseCause.code_toNat (c : PauseCause) : (BitVec.ofNat 8 c.code).toNat = c.code := by cases c <;> rfl
theorem EndReason.code_toNat (r : EndReason) : (BitVec.ofNat 8 r.code).toNat = r.code := by cases r <;> rfl
theorem DrumState.code_toNat (d : DrumState) : (BitVec.ofNat 8 d.code).toNat = d.code := by cases d <;> rfl
theorem Direction.code_toNat (d : Direction) : (BitVec.ofNat 8 d.code).toNat = d.code := by cases d <;> rfl
theorem Blower.code_toNat (b : Blower) : (BitVec.ofNat 8 b.code).toNat = b.code := by cases b <;> rfl
theorem ElementState.code_toNat (e : ElementState) : (BitVec.ofNat 8 e.code).toNat = e.code := by cases e <;> rfl
theorem OffCause.code_toNat (c : OffCause) : (BitVec.ofNat 8 c.code).toNat = c.code := by cases c <;> rfl
theorem SurgeState.code_toNat (u : SurgeState) : (BitVec.ofNat 8 u.code).toNat = u.code := by cases u <;> rfl
theorem TripState.code_toNat (u : TripState) : (BitVec.ofNat 8 u.code).toNat = u.code := by cases u <;> rfl
theorem StoreResult.code_toNat (r : StoreResult) : (BitVec.ofNat 8 r.code).toNat = r.code := by cases r <;> rfl

theorem EventFlags.number_toNat (f : EventFlags) : (BitVec.ofNat 8 f.number).toNat = f.number := by
  refine byte_of_lt ?_
  have bit (b : Bool) : b.toNat ≤ 1 := by cases b <;> decide
  have := bit f.stageChanged
  have := bit f.dryReached
  have := bit f.tripRaised
  have := bit f.lockLost
  have := bit f.tangleReversal
  have := bit f.grantForced
  have := bit f.starved
  unfold EventFlags.number
  omega

/-- A code that may be absent is sent as 0. -/
theorem optCode_toNat {α : Type} {code : α → Nat} (byte : ∀ a, (BitVec.ofNat 8 (code a)).toNat = code a) (v : Option α) :
    (BitVec.ofNat 8 ((v.map code).getD 0)).toNat = (v.map code).getD 0 := by
  cases v with
  | none => rfl
  | some a => exact byte a

/-! ### STATUS_GET (R188) -/

/-- The fields of an element in a STATUS_GET reply. -/
def statusElement (r : ElementRec) : List (List Byte) :=
  [u8 r.state.code, u8 r.lastOff.code, u16 r.onCount, flag r.onSince.isSome, u32 (r.onSince.getD 0)]

/-- The fields of a STATUS_GET reply, an optional field as its flag and its value (R188). -/
def statusFields (s : State) : List (List Byte) :=
  [u8 s.cpx.cycle.code, u16 s.cpx.ordinal, flag (currentStage s.cpx).isSome, u8 (((currentStage s.cpx).map (·.kind.code)).getD 0),
    u16 s.cpx.stageElapsed, u32 s.cpx.cycleElapsed, flag s.cpx.pauseCause.isSome, u8 ((s.cpx.pauseCause.map PauseCause.code).getD 0),
    u8 s.cpx.endReason.code, s16 s.atu.exhaust.value, flag s.atu.exhaust.valid, s16 s.atu.inlet.value, flag s.atu.inlet.valid,
    u16 s.atu.pressure, flag s.atu.airflowProven, u8 s.atu.blower.code, flag (!s.atu.door.isClosed), u8 s.drum.state.code,
    u8 s.drum.direction.code, flag s.drum.lock, u16 s.drum.lastPeriod, s8 s.drum.offset, flag s.mest.f.isSome, u16 (s.mest.f.getD 0),
    u8 s.mest.b, flag s.mest.estimate.isSome, u16 (s.mest.estimate.getD 0)] ++
  (statusElement (s.elem .e1) ++ (statusElement (s.elem .e2) ++ (statusElement (s.elem .e3) ++ (statusElement (s.elem .e4) ++
    ([u8 s.hstg.demand, flag s.hstg.inletCap, u16 s.profile.allowance, u16 (grantedTotal s.profile s.saa), u8 s.saa.surge.code] ++
      ((allCauses.map fun t => u8 (s.trip.get t).state.code) ++
        [flag s.prof.write.isSome, u8 s.prof.lastResult.code, u8 s.link.flags.number]))))))

theorem statusBytes_eq (s : State) : statusBytes s = (statusFields s).flatten := by
  unfold statusBytes
  dsimp only
  simp only [optField_u8, optField_u16, optField_u32, Option.isSome_map, statusFields, statusElement, allElements, allCauses,
    List.flatMap_cons, List.flatMap_nil, List.map_cons, List.map_nil, List.cons_append, List.nil_append, List.flatten_cons,
    List.flatten_nil, List.append_assoc, List.append_nil, State.elem]

theorem doorBit_toNat (i : DebouncedInput) :
    (BitVec.ofNat 8 (if (!i.isClosed) = true then 1 else 0)).toNat = if i.settled = some .closed then 0 else 1 := by
  by_cases closed : i.settled = some .closed <;> simp [DebouncedInput.isClosed, closed]

theorem bit_toNat (b : Bool) : (BitVec.ofNat 8 (if b = true then 1 else 0)).toNat = if b = true then 1 else 0 := by
  cases b <;> rfl

theorem ownProbe_payload (s : State) :
    (ownProbe s).2.payload =
      [0x00, 0x02, 0x40, 0x41, 0x01, BitVec.ofNat 8 s.prof.source.code, BitVec.ofNat 8 s.prof.lastReset.code] := rfl

/-- Settles O11: the reply's bytes, each optional field in its two parts, are read place by place. -/
theorem probeAndStatusCarryEveryField : Obligations.ProbeAndStatusCarryEveryField := by
  unfold Obligations.ProbeAndStatusCarryEveryField
  constructor
  · intro tag f s due
    have run : exec (.probe tag []) s =
        .next (answered 0x01 tag (ownProbe (atOwner f s)).2.payload (ownProbe (atOwner f s)).1) := congrArg _ (serve_due due rfl)
    rw [run, ownProbe_payload]
    congr 8
    · cases (atOwner f s).prof.source <;> rfl
    · cases (atOwner f s).prof.lastReset <;> rfl
  intro tag f s due
  refine ⟨_, exec_statusGet_empty due, ?_⟩
  generalize atOwner f s = u
  rw [statusBytes_eq]
  refine ⟨rfl, rfl, u.cpx.cycle.code_toNat, word_toNat _, bit_toNat _, optCode_toNat (fun r => r.kind.code_toNat) _, word_toNat _,
    long_toNat _, bit_toNat _, optCode_toNat PauseCause.code_toNat _, u.cpx.endReason.code_toNat, signedWord_toNat _, flag_toNat _,
    signedWord_toNat _, flag_toNat _, word_toNat _, flag_toNat _, u.atu.blower.code_toNat, doorBit_toNat _, u.drum.state.code_toNat,
    u.drum.direction.code_toNat, flag_toNat _, word_toNat _, signedByte_toNat _, bit_toNat _, word_toNat _, byte_toNat _, bit_toNat _,
    word_toNat _, ?elements, byte_toNat _, flag_toNat _, word_toNat _, word_toNat _, u.saa.surge.code_toNat, ?trips, bit_toNat _,
    u.prof.lastResult.code_toNat, u.link.flags.number_toNat⟩
  case elements =>
    simp only [List.forall_mem_cons, List.not_mem_nil, false_implies, implies_true, and_true]
    refine ⟨?_, ?_, ?_, ?_⟩ <;>
      exact ⟨ElementState.code_toNat _, OffCause.code_toNat _, word_toNat _, bit_toNat _, long_toNat _⟩
  case trips =>
    simp only [allCauses, List.zip_cons_cons, List.zip_nil_right, List.forall_mem_cons, List.not_mem_nil, false_implies, implies_true,
      and_true]
    and_intros <;> exact TripState.code_toNat _

/-! ### The records (11.7, R191, R192, R195) -/

theorem decodeFields_encodeFields {ws : List Bool} {vs : List Nat} (length : ws.length = vs.length)
    (fits : ∀ wv ∈ ws.zip vs, wv.2 < if wv.1 then 65536 else 256) : decodeFields ws (encodeFields ws vs) = vs := by
  induction ws generalizing vs with
  | nil => exact (List.length_eq_zero_iff.mp length.symm).symm
  | cons wide ws ih =>
    obtain ⟨v, vs, rfl⟩ : ∃ v rest, vs = v :: rest := List.exists_cons_of_length_eq_add_one length.symm
    rw [List.zip_cons_cons, List.forall_mem_cons] at fits
    obtain ⟨head, rest⟩ := fits
    have tail := ih (vs := vs) (Nat.succ.inj length) rest
    cases wide with
    | true => exact congrArg₂ _ (word_of_lt head) tail
    | false => exact congrArg₂ _ (byte_of_lt head) tail

theorem encodeFields_length (ws : List Bool) (vs : List Nat) (length : ws.length = vs.length) :
    (encodeFields ws vs).length = (ws.map fun wide => if wide then 2 else 1).sum := by
  induction ws generalizing vs with
  | nil => rfl
  | cons wide ws ih =>
    obtain ⟨v, vs, rfl⟩ : ∃ v rest, vs = v :: rest := List.exists_cons_of_length_eq_add_one length.symm
    rw [encodeFields, List.length_append, ih vs (Nat.succ.inj length), List.map_cons, List.sum_cons]
    cases wide <;> rfl

theorem profileBytes_length (p : Profile) : (profileBytes p).length = 52 := encodeFields_length profileWide (profileFields p) rfl

theorem profileOf_profileBytes {p : Profile} (fits : profileFits p) : profileOf (profileBytes p) = p := by
  unfold profileOf profileBytes
  rw [decodeFields_encodeFields rfl fits]
  rfl

/-- The kind byte carries the kind under the FINAL bit. -/
theorem kindByte_toNat (r : StageRec) :
    (BitVec.ofNat 8 ((if r.final then 128 else 0) + r.kind.code)).toNat = (if r.final then 128 else 0) + r.kind.code := by
  cases r.final <;> cases r.kind <;> rfl

theorem stageBytes_length (r : StageRec) : (stageBytes r).length = 20 := rfl

/-- The fields of a stage record, one after the other. -/
def stageFields (r : StageRec) : List (List Byte) :=
  [u8 ((if r.final then 128 else 0) + r.kind.code), u8 r.pattern, s16 r.exhaustTarget, s16 r.inletLimit, u16 r.dryTarget, u8 r.confirm,
    s16 r.dryMinExhaust, u16 r.minDuration, u16 r.maxDuration, s16 r.coolTo, u16 r.guardInterval, u8 r.burstRevs]

theorem stageBytes_eq (r : StageRec) : stageBytes r = (stageFields r).flatten := by
  simp only [stageBytes, stageFields, List.flatten_cons, List.flatten_nil, List.append_assoc, List.append_nil]

theorem stageOf_stageBytes {r : StageRec} (fits : stageFits r) : stageOf (stageBytes r) = some r := by
  obtain ⟨pattern, exhaust, inlet, dry, confirm, floor, minimum, maximum, cool, guard, burst⟩ := fits
  have kindByte : byteAt (stageFields r).flatten 0 = _ := kindByte_toNat r
  have kind : stageKindOf (byteAt (stageFields r).flatten 0 % 128) = some r.kind := by
    rw [kindByte]
    cases r.final <;> cases r.kind <;> rfl
  have final : decide (128 ≤ byteAt (stageFields r).flatten 0) = r.final := by
    rw [kindByte]
    cases r.final <;> cases r.kind <;> rfl
  have signed {i : Nat} {v : Int} (h : wordAt (stageFields r).flatten i = _) := signedWordAt_of_word (v := v) (h.trans (signedWord_toNat v))
  rw [stageBytes_eq, stageOf]
  rw [kind, final, signed (i := 2) rfl exhaust, signed (i := 4) rfl inlet, signed (i := 9) rfl floor, signed (i := 15) rfl cool,
    show byteAt (stageFields r).flatten 1 = _ from byte_of_lt pattern, show wordAt (stageFields r).flatten 6 = _ from word_of_lt dry,
    show byteAt (stageFields r).flatten 8 = _ from byte_of_lt confirm, show wordAt (stageFields r).flatten 11 = _ from word_of_lt minimum,
    show wordAt (stageFields r).flatten 13 = _ from word_of_lt maximum, show wordAt (stageFields r).flatten 17 = _ from word_of_lt guard,
    show byteAt (stageFields r).flatten 19 = _ from byte_of_lt burst]
  rfl

theorem contextBody_length (c : ContextRec) : (contextBody c).length = 30 := rfl

/-- The fields of a context record, one after the other. -/
def contextFields (c : ContextRec) : List (List Byte) :=
  [u8 c.version, u8 c.held, u16 c.digest, u16 c.ordinal, u16 c.stageElapsed, u32 c.cycleElapsed, u8 c.fPresent, u16 c.fValue,
    u8 c.sparse, s8 c.offset, u8 c.direction, u8 c.pointer, u8 c.stageTangles, u8 c.dryLatched, List.replicate 9 0]

theorem contextBody_eq (c : ContextRec) : contextBody c = (contextFields c).flatten := by
  simp only [contextBody, contextFields, List.flatten_cons, List.flatten_nil, List.append_assoc, List.append_nil]

theorem contextBytes_length (c : ContextRec) : (contextBytes c).length = 32 := by
  rw [contextBytes, List.length_append, contextBody_length]
  rfl

theorem contextBytes_take (c : ContextRec) : (contextBytes c).take 30 = contextBody c := List.take_left' (contextBody_length c)

/-- Bytes behind a record do not change what stands in it. -/
theorem byteAt_append_left {bs rest : List Byte} {i : Nat} (inside : i < bs.length) : byteAt (bs ++ rest) i = byteAt bs i :=
  congrArg BitVec.toNat (List.getD_append _ _ _ _ inside)

theorem byteAt_append_right {bs rest : List Byte} {n i : Nat} (length : bs.length = n) : byteAt (bs ++ rest) (n + i) = byteAt rest i := by
  unfold byteAt
  rw [List.getD_append_right _ _ _ _ (by omega)]
  congr
  omega

theorem crcBytes_word (c : Crc) : wordAt (crcBytes c) 0 = c.toNat := word_of_lt c.isLt

theorem contextBytes_check (c : ContextRec) : (crc16 ((contextBytes c).take 30)).toNat = wordAt (contextBytes c) 30 := by
  have high := byteAt_append_right (bs := contextBody c) (rest := crcBytes (crc16 (contextBody c))) (i := 0) (contextBody_length c)
  have low := byteAt_append_right (bs := contextBody c) (rest := crcBytes (crc16 (contextBody c))) (i := 1) (contextBody_length c)
  rw [contextBytes_take, contextBytes, wordAt, high, low, ← wordAt.eq_1, crcBytes_word]

theorem contextOf_append {bs rest : List Byte} (length : bs.length = 30) : contextOf (bs ++ rest) = contextOf bs := by
  have byte {i : Nat} (inside : i < 30) : byteAt (bs ++ rest) i = byteAt bs i := byteAt_append_left (length ▸ inside)
  have word {i : Nat} (inside : i < 29) : wordAt (bs ++ rest) i = wordAt bs i := by
    unfold wordAt
    rw [byte (by omega), byte (by omega)]
  have long {i : Nat} (inside : i < 27) : longAt (bs ++ rest) i = longAt bs i := by
    unfold longAt
    rw [word (by omega), word (by omega)]
  simp [contextOf, signedByteAt, byte, word, long]

theorem contextOf_contextBytes {c : ContextRec} (fits : contextFits c) : contextOf (contextBytes c) = c := by
  obtain ⟨version, held, digest, ordinal, stage, cycle, present, value, sparse, offset, direction, pointer, tangles, latched⟩ := fits
  rw [contextBytes, contextOf_append (contextBody_length c)]
  rw [contextBody_eq, contextOf]
  rw [show byteAt (contextFields c).flatten 0 = _ from byte_of_lt version, show byteAt (contextFields c).flatten 1 = _ from byte_of_lt held,
    show wordAt (contextFields c).flatten 2 = _ from word_of_lt digest, show wordAt (contextFields c).flatten 4 = _ from word_of_lt ordinal,
    show wordAt (contextFields c).flatten 6 = _ from word_of_lt stage, show longAt (contextFields c).flatten 8 = _ from long_of_lt cycle,
    show byteAt (contextFields c).flatten 12 = _ from byte_of_lt present, show wordAt (contextFields c).flatten 13 = _ from word_of_lt value,
    show byteAt (contextFields c).flatten 15 = _ from byte_of_lt sparse,
    signedByteAt_of_byte (bs := (contextFields c).flatten) (i := 16) (signedByte_toNat c.offset) offset,
    show byteAt (contextFields c).flatten 17 = _ from byte_of_lt direction, show byteAt (contextFields c).flatten 18 = _ from byte_of_lt pointer,
    show byteAt (contextFields c).flatten 19 = _ from byte_of_lt tangles, show byteAt (contextFields c).flatten 20 = _ from byte_of_lt latched]

/-- The fields of a Revolution record, one after the other. -/
def revFields (r : RevRecord) : List (List Byte) :=
  [u16 r.number, u8 r.direction.code, u16 r.period, u8 r.tach, u8 r.state.code, flag r.lock, u8 r.cls.code, u16 r.iRev, u8 r.m, u8 r.k,
    u8 r.outcome.code, u16 (r.mRev.getD 0)]

theorem revBytes_eq (r : RevRecord) : revBytes r = (revFields r).flatten := by
  simp only [revBytes, revFields, List.flatten_cons, List.flatten_nil, List.append_assoc, List.append_nil]

/-- A report's payload, its seven bytes and the data behind them. -/
theorem reportFrame_payload (q : Report) :
    (reportFrame q).payload = BitVec.ofNat 8 q.source.code :: BitVec.ofNat 8 q.severity.code :: q.code :: (u32 q.seconds ++ q.data) := by
  simp only [reportFrame, u8, List.cons_append, List.nil_append]

/-- Settles O22: each record's bytes are read back place by place. -/
theorem recordsSurviveTheLink : Obligations.RecordsSurviveTheLink := by
  refine ⟨fun p fits => ⟨profileBytes_length p, profileOf_profileBytes fits⟩,
    fun r fits => ⟨stageBytes_length r, stageOf_stageBytes fits⟩,
    fun c fits => ⟨contextBytes_length c, contextOf_contextBytes fits, contextBytes_check c⟩, fun r fits => ?rev, fun q seconds => ?report⟩
  case rev =>
    obtain ⟨number, period, tach, current, m, k, mean⟩ := fits
    rw [revBytes_eq]
    refine ⟨rfl, word_of_lt number, ?_, word_of_lt period, byte_of_lt tach, ?_, flag_toNat _, ?_, word_of_lt current, byte_of_lt m,
      byte_of_lt k, ?_, fun absent => ?_, fun v present => ?_⟩
    · exact (Direction.code_toNat _).trans (by cases r.direction <;> rfl)
    · exact (DrumState.code_toNat _).trans (by cases r.state <;> rfl)
    · change (BitVec.ofNat 8 r.cls.code).toNat = _
      cases r.cls <;> rfl
    · change (BitVec.ofNat 8 r.outcome.code).toNat = _
      cases r.outcome <;> rfl
    · refine (word_toNat (r.mRev.getD 0)).trans ?_
      rw [absent]
      rfl
    · refine (word_toNat (r.mRev.getD 0)).trans ?_
      rw [present]
      exact Nat.mod_eq_of_lt (mean v present)
  case report =>
    rw [reportFrame_payload]
    refine ⟨rfl, rfl, ?_, ?_, ?_, rfl, long_of_lt seconds, rfl⟩
    · simp [u32, u16]
      omega
    · change (BitVec.ofNat 8 q.source.code).toNat = _
      cases q.source <;> rfl
    · change (BitVec.ofNat 8 q.severity.code).toNat = _
      cases q.severity <;> rfl

end Sys2Proof.Machine
end

section
/-! SUPPORT. PROF: storing and loading the profile, and the state after a reset: O23, O24 and O25. -/

namespace Sys2Proof.Machine

variable {s t : State}

/-! ### PROFILE_STORE and the verify (R198) -/

theorem CycleState.quiet_iff (c : CycleState) : c.quiet = true ↔ c ∈ [CycleState.idle, .ready, .done] := by
  cases c <;> decide

theorem not_quiet_of {c : CycleState} (h : c ∉ [CycleState.idle, .ready, .done]) : (!c.quiet) = true := by
  rw [Bool.not_eq_true', Bool.eq_false_iff, ne_eq, c.quiet_iff]
  exact h

theorem quiet_of {c : CycleState} (h : c ∈ [CycleState.idle, .ready, .done]) : ¬ (!c.quiet) = true := by
  rw [Bool.not_eq_true', Bool.not_eq_false, c.quiet_iff]
  exact h

theorem storedCopy_eq (p : Profile) : storedCopy p = 0x01 :: (profileBytes p ++ crcBytes (crc16 (0x01 :: profileBytes p))) := by
  simp only [storedCopy, Config.storeVersion, u8, List.cons_append, List.nil_append]
  rfl

theorem ownProfileStore_busyCycle (h : s.cpx.cycle ∉ [CycleState.idle, .ready, .done]) : ownProfileStore s = (s, .badState) :=
  if_pos (not_quiet_of h)

theorem ownProfileStore_writing (h : s.cpx.cycle ∈ [CycleState.idle, .ready, .done]) (writes : s.prof.write ≠ none) :
    ownProfileStore s = (s, .busy) := by
  rw [ownProfileStore, if_neg (quiet_of h), if_pos (Option.isSome_iff_ne_none.mpr writes)]

theorem ownProfileStore_taken (h : s.cpx.cycle ∈ [CycleState.idle, .ready, .done]) (still : s.prof.write = none) :
    ownProfileStore s = (s.updProf fun q => { q with write := some (storedCopy q.active) }, .ok []) := by
  rw [ownProfileStore, if_neg (quiet_of h), if_neg (by simp [still])]

theorem verifyStore_matches {copy : List Byte} (writes : s.prof.write = some copy) :
    verifyStore copy s =
      report .prof .info 0x11 [] (s.updProf fun q => { q with write := none, lastResult := .ok, stored := copy }) := by
  simp only [verifyStore, writes, if_true]

theorem verifyStore_differs {copy readBack : List Byte} (writes : s.prof.write = some copy) (differs : readBack ≠ copy) :
    verifyStore readBack s =
      report .prof .error 0x12 [] (s.updProf fun q => { q with write := none, lastResult := .failed, stored := readBack }) := by
  simp only [verifyStore, writes, if_neg differs]

/-- Settles O23: by the three answers of PROFILE_STORE and the two ends of a write. -/
theorem profileStoreSnapshotsThenVerifies : Obligations.ProfileStoreSnapshotsThenVerifies := by
  refine ⟨fun tag f s due => ?request, fun copy s writes =>
    ⟨congrArg Host.Outcome.next (verifyStore_matches writes), fun _ differs => congrArg Host.Outcome.next (verifyStore_differs writes differs)⟩⟩
  have run : exec (.profileStore tag []) s =
      .next (answered 0x04 tag (ownProfileStore (atOwner f s)).2.payload (ownProfileStore (atOwner f s)).1) := congrArg _ (serve_due due rfl)
  rw [run]
  refine ⟨fun works => ?_, fun rests writes => ?_, fun rests still => ?_⟩
  · rw [ownProfileStore_busyCycle works]
    rfl
  · rw [ownProfileStore_writing rests writes]
    rfl
  · rw [ownProfileStore_taken rests still]
    simp only [storedCopy_eq]
    rfl

/-! ### Loading the stored copy (R199) -/

theorem storeCheckFails_iff (st : List Byte) :
    storeCheckFails st = true ↔ st.length ≠ 55 ∨ (crc16 (st.take 53)).toNat ≠ wordAt st 53 := by
  simp only [storeCheckFails, Bool.not_eq_true', Bool.and_eq_false_iff, decide_eq_false_iff_not, ne_eq]

theorem loadStore_corrupt {st : List Byte} (h : st.length ≠ 55 ∨ (crc16 (st.take 53)).toNat ≠ wordAt st 53) :
    loadStore st = (factoryProfile, .defaults, some 1) := if_pos ((storeCheckFails_iff st).mpr h)

theorem loadStore_otherVersion {st : List Byte} (length : st.length = 55) (check : (crc16 (st.take 53)).toNat = wordAt st 53)
    (version : byteAt st 0 ≠ 1) : loadStore st = (factoryProfile, .defaults, some 2) := by
  have passes : ¬ storeCheckFails st = true := by
    rw [storeCheckFails_iff]
    exact fun fails => fails.elim (· length) (· check)
  rw [loadStore, if_neg passes]
  exact if_pos version

theorem loadStore_good {st : List Byte} (length : st.length = 55) (check : (crc16 (st.take 53)).toNat = wordAt st 53)
    (version : byteAt st 0 = 1) : loadStore st = (Profile.masked (profileOf ((st.drop 1).take 52)), .stored, none) := by
  have passes : ¬ storeCheckFails st = true := by
    rw [storeCheckFails_iff]
    exact fun fails => fails.elim (· length) (· check)
  rw [loadStore, if_neg passes]
  exact if_neg (not_not.mpr version)

theorem loadStore_reason (st : List Byte) : (loadStore st).2.2 = loadReason st := by
  unfold loadReason
  by_cases corrupt : st.length ≠ 55 ∨ (crc16 (st.take 53)).toNat ≠ wordAt st 53
  · rw [loadStore_corrupt corrupt, if_pos corrupt]
  · rw [if_neg corrupt]
    rw [not_or, not_not, not_not] at corrupt
    obtain ⟨length, check⟩ := corrupt
    by_cases version : byteAt st 0 = 1
    · rw [loadStore_good length check version, if_neg (not_not.mpr version)]
    · rw [loadStore_otherVersion length check version, if_pos version]

theorem storeAfterReset_still (still : s.prof.write = none) : storeAfterReset s = s.prof.stored := by
  simp only [storeAfterReset, still]

/-- The part after a reset, from the profile, its source and the load's reason. -/
def freshFrom (cause : ResetCause) (l : Profile × ProfileSource × Option Nat) (s : State) : State :=
  .fresh cause l.1 l.2.1 l.2.2 (storeAfterReset s) s.atu.door.raw s.atu.highLimit.raw s.pending
    (if s.prof.write.isSome then s.freeCount + 1 else s.freeCount)

theorem resetPart_loads {cause : ResetCause} (h : cause = .powerOn ∨ cause = .brownOut) (s : State) :
    resetPart cause s = freshFrom cause (loadStore (storeAfterReset s)) s := by
  obtain rfl | rfl := h <;> rfl

theorem resetPart_keeps {cause : ResetCause} (h : cause = .pin ∨ cause = .link) (s : State) :
    resetPart cause s = freshFrom cause (s.profile, s.prof.source, none) s := by
  obtain rfl | rfl := h <;> rfl

/-- What a copy of PROFILE_STORE carries: its length, its check value, its version and the profile (R198). -/
theorem storedCopy_length (p : Profile) : (storedCopy p).length = 55 := by
  rw [storedCopy_eq, List.length_cons, List.length_append, profileBytes_length]
  rfl

theorem storedCopy_body (p : Profile) : storedCopy p = (0x01 :: profileBytes p) ++ crcBytes (crc16 (0x01 :: profileBytes p)) := by
  rw [storedCopy_eq, List.cons_append]

theorem storedBody_length (p : Profile) : ((0x01 : Byte) :: profileBytes p).length = 53 := by rw [List.length_cons, profileBytes_length]

theorem storedCopy_check (p : Profile) : (crc16 ((storedCopy p).take 53)).toNat = wordAt (storedCopy p) 53 := by
  rw [storedCopy_body, List.take_left' (storedBody_length p)]
  generalize crc16 (0x01 :: profileBytes p) = c
  have high := byteAt_append_right (rest := crcBytes c) (i := 0) (storedBody_length p)
  have low := byteAt_append_right (rest := crcBytes c) (i := 1) (storedBody_length p)
  rw [wordAt, high, low, ← wordAt.eq_1, crcBytes_word]

theorem storedCopy_version (p : Profile) : byteAt (storedCopy p) 0 = 1 := by
  rw [storedCopy_eq]
  generalize profileBytes p ++ _ = rest
  rfl

theorem storedCopy_profile (p : Profile) : ((storedCopy p).drop 1).take 52 = profileBytes p := by
  rw [storedCopy_eq, List.drop_succ_cons, List.drop_zero, List.take_left' (profileBytes_length p)]

theorem loadStore_storedCopy {p : Profile} (fits : profileFits p) : loadStore (storedCopy p) = (Profile.masked p, .stored, none) := by
  rw [loadStore_good (storedCopy_length p) (storedCopy_check p) (storedCopy_version p), storedCopy_profile, profileOf_profileBytes fits]

theorem freshFrom_profile (cause : ResetCause) (l : Profile × ProfileSource × Option Nat) (s : State) :
    (freshFrom cause l s).profile = l.1 := rfl

theorem freshFrom_source (cause : ResetCause) (l : Profile × ProfileSource × Option Nat) (s : State) :
    (freshFrom cause l s).prof.source = l.2.1 := rfl

theorem freshFrom_cause (cause : ResetCause) (l : Profile × ProfileSource × Option Nat) (s : State) :
    (freshFrom cause l s).prof.lastReset = cause := rfl

theorem freshFrom_stored (cause : ResetCause) (l : Profile × ProfileSource × Option Nat) (s : State) :
    (freshFrom cause l s).prof.stored = storeAfterReset s := rfl

theorem freshFrom_reports (cause : ResetCause) (l : Profile × ProfileSource × Option Nat) (s : State) :
    (freshFrom cause l s).link.reports = resetReports l.1 cause l.2.1 l.2.2 := rfl

theorem resetReports_factory (cause : ResetCause) (source : ProfileSource) (reason : Nat) :
    resetReports factoryProfile cause source (some reason) = [upReport cause source, profileDefaultedReport reason] := rfl

/-- Settles O24: the load of a stored copy, by its check value and its version. -/
theorem storedCopyIsJudgedAndLoaded : Obligations.StoredCopyIsJudgedAndLoaded := by
  refine ⟨fun p s fits still stored => ?copy, fun c s reset still => ?load⟩
  case copy =>
    have load (cause : ResetCause) (h : cause = .powerOn ∨ cause = .brownOut) :
        resetPart cause s = freshFrom cause (Profile.masked p, .stored, none) s := by
      rw [resetPart_loads h, storeAfterReset_still still, stored, loadStore_storedCopy fits]
    exact ⟨_, _, congrArg Host.Outcome.next (load .powerOn (.inl rfl)), rfl, rfl, rfl, congrArg Host.Outcome.next (load .brownOut (.inr rfl)),
      rfl, rfl, rfl⟩
  case load =>
    obtain ⟨cause, run⟩ : ∃ cause, exec c s = .next (freshFrom cause (loadStore s.prof.stored) s) := by
      obtain rfl | rfl := reset
      · exact ⟨.powerOn, congrArg Host.Outcome.next ((resetPart_loads (.inl rfl) s).trans (by rw [storeAfterReset_still still]))⟩
      · exact ⟨.brownOut, congrArg Host.Outcome.next ((resetPart_loads (.inr rfl) s).trans (by rw [storeAfterReset_still still]))⟩
    refine ⟨_, run, (freshFrom_stored _ _ _).trans (storeAfterReset_still still), fun corrupt => ?_, fun length check =>
      ⟨fun version => ?_, fun version p profile => ?_⟩⟩
    · rw [loadStore_corrupt corrupt]
      exact ⟨rfl, rfl, rfl⟩
    · rw [loadStore_otherVersion length check version]
      exact ⟨rfl, rfl, rfl⟩
    · rw [loadStore_good length check version, profile]
      exact ⟨rfl, rfl⟩

/-! ### The reset tables (R21, R39, R55, R73, R90, R110, R126, R150, R179, R194, R200, R201) -/

theorem drumAtReset_freshFrom (cause : ResetCause) (l : Profile × ProfileSource × Option Nat) (s : State) :
    drumAtReset (freshFrom cause l s) := by
  refine ⟨rfl, rfl, rfl, rfl, rfl, rfl, rfl, rfl, rfl, rfl, rfl, rfl, rfl, rfl, rfl, rfl, rfl, rfl, rfl, rfl, fun i => ?_, rfl, rfl, rfl,
    rfl, rfl, rfl, rfl, rfl, rfl, rfl, rfl⟩
  exact Vector.getElem_replicate i.isLt

theorem elementAtReset (p : Profile) (e : Element) :
    (ElementRec.afterReset p e).state.energized = false ∧
      (Profile.current p e ≠ 0 → (ElementRec.afterReset p e).state = .offHold ∧
        (ElementRec.afterReset p e).minOff = some (p.minOff * 1000)) ∧
      (Profile.current p e = 0 → (ElementRec.afterReset p e).state = .absent) := by
  refine ⟨?_, fun fitted => ⟨if_neg fitted, if_neg fitted⟩, fun absent => if_pos absent⟩
  unfold ElementRec.afterReset
  dsimp only
  split <;> rfl

theorem heatAtReset_freshFrom (cause : ResetCause) (l : Profile × ProfileSource × Option Nat) (s : State) :
    heatAtReset (freshFrom cause l s) := by
  refine ⟨fun e => ?_, rfl, rfl, rfl, rfl, rfl, rfl, rfl, rfl, rfl, rfl, rfl, rfl, fun c => ?_⟩
  · cases e <;> exact ⟨rfl, rfl, rfl, elementAtReset l.1 _⟩
  · cases c <;> rfl

theorem resetDone_freshFrom (cause : ResetCause) (l : Profile × ProfileSource × Option Nat) (s : State) :
    resetDone cause l.2.2 s (freshFrom cause l s) := by
  refine ⟨drumAtReset_freshFrom cause l s, ?cycle, ?air, heatAtReset_freshFrom cause l s, ?link, rfl, rfl⟩
  case cycle => exact ⟨rfl, rfl, rfl, rfl, rfl, rfl, rfl, rfl, rfl, rfl, rfl, rfl, rfl, rfl, rfl, rfl, rfl, rfl, rfl, rfl⟩
  case air => exact ⟨rfl, rfl, rfl, rfl, rfl, rfl, rfl, rfl, rfl, rfl, rfl, rfl, rfl, rfl, rfl, rfl, rfl, rfl⟩
  case link =>
    refine ⟨rfl, rfl, rfl, rfl, rfl, rfl, rfl, rfl, rfl, rfl, rfl, rfl, rfl, ?_, rfl, rfl, rfl⟩
    rw [freshFrom_reports]
    obtain ⟨p, source, defaulted⟩ := l
    cases defaulted <;> rfl

/-- A reset that loads the profile gives the warning of the store it leaves (R199). -/
theorem resetDone_loads {cause : ResetCause} (h : cause = .powerOn ∨ cause = .brownOut) (s : State) :
    resetDone cause (loadReason (resetPart cause s).prof.stored) s (resetPart cause s) := by
  rw [resetPart_loads h, freshFrom_stored, ← loadStore_reason]
  exact resetDone_freshFrom cause _ s

theorem resetDone_keeps {cause : ResetCause} (h : cause = .pin ∨ cause = .link) (s : State) :
    resetDone cause none s (resetPart cause s) := by
  rw [resetPart_keeps h]
  exact resetDone_freshFrom cause (s.profile, s.prof.source, none) s

theorem resetPart_stored (cause : ResetCause) (still : s.prof.write = none) : (resetPart cause s).prof.stored = s.prof.stored :=
  Eq.trans (by cases cause <;> rfl) (storeAfterReset_still still)

/-- Settles O25: every reset leaves a fresh part, from the profile it loads or keeps. -/
theorem everyResetLeavesTheResetState : Obligations.EveryResetLeavesTheResetState := by
  refine ⟨fun s => ⟨⟨_, rfl, resetDone_loads (.inl rfl) s, resetPart_stored .powerOn⟩,
    ⟨_, rfl, resetDone_loads (.inr rfl) s, resetPart_stored .brownOut⟩,
    fun enabled => ⟨_, congrArg Host.Outcome.next (if_pos enabled), resetDone_keeps (.inl rfl) s, rfl, rfl, resetPart_stored .pin⟩,
    fun off => congrArg Host.Outcome.next (if_neg off), fun taken slot inbound line =>
      ⟨_, execLinkResetFollows_due ((repliesSent_iff _).mpr ⟨taken, slot, inbound, line⟩), resetDone_keeps (.inr rfl) s, rfl, rfl,
        resetPart_stored .link⟩⟩, congrArg Host.Outcome.next State.reset_eq.symm, ?_, rfl, rfl⟩
  have start := resetDone_freshFrom .powerOn (factoryProfile, .defaults, some 1) State.reset
  have same : State.reset = freshFrom .powerOn (factoryProfile, .defaults, some 1) State.reset := rfl
  rw [← same] at start
  exact start

end Sys2Proof.Machine
end

section
/-! SUPPORT. The checks of a profile and of a stage record, and the context record: O18, O19, O20 and O21. -/

namespace Sys2Proof.Machine

variable {s t : State}

/-! ### The first failing check of a list -/

/-- The number of the first check that fails. -/
def firstFailing (checks : List (Nat × Bool)) : Option Nat := (checks.find? fun check => !check.2).map (·.1)

theorem firstFailing_cons (n : Nat) (b : Bool) (rest : List (Nat × Bool)) :
    firstFailing ((n, b) :: rest) = if b then firstFailing rest else some n := by
  cases b <;> simp [firstFailing]

theorem firstFailing_append (a b : List (Nat × Bool)) : firstFailing (a ++ b) = (firstFailing a).or (firstFailing b) := by
  simp only [firstFailing, List.find?_append, Option.map_or]

/-- A check that holds can be left out. -/
theorem firstFailing_skip (n : Nat) (a b : List (Nat × Bool)) : firstFailing (a ++ (n, true) :: b) = firstFailing (a ++ b) := by
  simp only [firstFailing_append, firstFailing_cons, if_true]

theorem firstFailing_none_iff (checks : List (Nat × Bool)) : firstFailing checks = none ↔ ∀ check ∈ checks, check.2 = true := by
  simp [firstFailing]

theorem mem_of_firstFailing {checks : List (Nat × Bool)} {n : Nat} (h : firstFailing checks = some n) : n ∈ checks.map (·.1) := by
  obtain ⟨check, found, rfl⟩ := Option.map_eq_some_iff.mp h
  exact List.mem_map_of_mem (List.mem_of_find?_eq_some found)

/-- One more check in front, refused where it fails. -/
theorem firstFailing_cons_of {n : Nat} {fails holds : Prop} [Decidable fails] [Decidable holds] {later : Option Nat}
    {rest : List (Nat × Bool)} (check : fails ↔ ¬ holds) (h : later = firstFailing rest) :
    (if fails then some n else later) = firstFailing ((n, decide holds) :: rest) := by
  rw [firstFailing_cons]
  by_cases ok : holds
  · rw [if_neg (fun failed => check.mp failed ok), if_pos (decide_eq_true ok), h]
  · rw [if_pos (check.mpr ok), if_neg (by simpa using ok)]

/-! ### The profile's checks (R195, R196) -/

/-- A value in its range, the lower end left out where it is 0. -/
def inRange (lo hi v : Nat) : Bool := if lo = 0 then decide (v ≤ hi) else decide (lo ≤ v ∧ v ≤ hi)

theorem inRange_false_iff (lo hi v : Nat) : inRange lo hi v = false ↔ v < lo ∨ hi < v := by
  unfold inRange
  split <;> simp only [decide_eq_false_iff_not] <;> omega

/-- The range checks of the fields, numbered on from a first one. -/
def rangeChecks (idx : Nat) : List (Nat × Nat) → List Nat → List (Nat × Bool)
  | (lo, hi) :: rs, v :: vs => (idx, inRange lo hi v) :: rangeChecks (idx + 1) rs vs
  | _, _ => []

theorem rangeFault_eq (idx : Nat) (rs : List (Nat × Nat)) (vs : List Nat) : rangeFault idx rs vs = firstFailing (rangeChecks idx rs vs) := by
  induction rs generalizing idx vs with
  | nil => rfl
  | cons r rs ih =>
    cases vs with
    | nil => rfl
    | cons v vs =>
      obtain ⟨lo, hi⟩ := r
      rw [rangeFault, rangeChecks, firstFailing_cons, ih]
      cases range : inRange lo hi v with
      | false => exact if_pos ((inRange_false_iff lo hi v).mp range)
      | true => exact if_neg fun outside => by simp [(inRange_false_iff lo hi v).mpr outside] at range

/-- The cross-checks in their order (R196 steps 3 to 6). -/
def crossChecks (p : Profile) : List (Nat × Bool) :=
  [(3, decide (p.windowStart + p.windowLen ≤ p.tachPulses)), (5, decide (p.minContacts ≤ p.windowLen)),
    (14, decide (p.baseLoad + p.surge ≤ p.allowance)), (8, decide (p.current1 ≠ 0 → p.baseLoad + p.current1 ≤ p.allowance)),
    (9, decide (p.current2 ≠ 0 → p.baseLoad + p.current2 ≤ p.allowance)),
    (10, decide (p.current3 ≠ 0 → p.baseLoad + p.current3 ≤ p.allowance)),
    (11, decide (p.current4 ≠ 0 → p.baseLoad + p.current4 ≤ p.allowance))]

theorem profileFault_eq (p : Profile) :
    profileFault p = firstFailing (rangeChecks 1 profileRanges (profileFields p) ++ crossChecks p) := by
  have cross : (if p.tachPulses < p.windowStart + p.windowLen then some 3
      else if p.windowLen < p.minContacts then some 5
      else if p.allowance < p.baseLoad + p.surge then some 14
      else if p.allowance < p.baseLoad + p.current1 ∧ p.current1 ≠ 0 then some 8
      else if p.allowance < p.baseLoad + p.current2 ∧ p.current2 ≠ 0 then some 9
      else if p.allowance < p.baseLoad + p.current3 ∧ p.current3 ≠ 0 then some 10
      else if p.allowance < p.baseLoad + p.current4 ∧ p.current4 ≠ 0 then some 11
      else none) = firstFailing (crossChecks p) := by
    have fitted (c : Nat) : p.allowance < p.baseLoad + c ∧ c ≠ 0 ↔ ¬ (c ≠ 0 → p.baseLoad + c ≤ p.allowance) := by omega
    exact firstFailing_cons_of (by omega) (firstFailing_cons_of (by omega) (firstFailing_cons_of (by omega)
      (firstFailing_cons_of (fitted _) (firstFailing_cons_of (fitted _) (firstFailing_cons_of (fitted _)
        (firstFailing_cons_of (fitted _) rfl))))))
  rw [firstFailing_append, ← cross, ← rangeFault_eq, profileFault]
  cases rangeFault 1 profileRanges (profileFields p) <;> rfl

/-- The checks of a profile, field 7 left out (R196). -/
def profileChecks (p : Profile) : List (Nat × Bool) :=
  (rangeChecks 1 profileRanges (profileFields p)).take 6 ++ ((rangeChecks 1 profileRanges (profileFields p)).drop 7 ++ crossChecks p)

theorem profileFault_checks {p : Profile} (fits : profileFits p) : profileFault p = firstFailing (profileChecks p) := by
  have exponent : p.filterExp < 256 := fits (false, p.filterExp) (by simp [profileWide, profileFields])
  have seventh : inRange 0 255 p.filterExp = true := decide_eq_true (Nat.le_of_lt_succ exponent)
  have parts : rangeChecks 1 profileRanges (profileFields p) ++ crossChecks p =
      (rangeChecks 1 profileRanges (profileFields p)).take 6 ++ (7, inRange 0 255 p.filterExp) ::
        ((rangeChecks 1 profileRanges (profileFields p)).drop 7 ++ crossChecks p) := rfl
  rw [profileFault_eq, parts, seventh, firstFailing_skip, profileChecks]

theorem forall_element {P : Element → Prop} : (∀ e, P e) ↔ P .e1 ∧ P .e2 ∧ P .e3 ∧ P .e4 :=
  ⟨fun h => ⟨h _, h _, h _, h _⟩, fun ⟨h1, h2, h3, h4⟩ e => by cases e <;> assumption⟩

theorem policy_iff (n : Nat) : 1 ≤ n ∧ n ≤ 2 ↔ n = 1 ∨ n = 2 := by omega

/-! ### The stage record's checks (R129, R131) -/

/-- The checks of a stage record in field-number order. -/
def stageChecks (r : StageRec) (last : Bool) : List (Nat × Bool) :=
  [(2, decide (r.final = true → last = true)), (3, decide (r.pattern ≤ 7)),
    (4, decide (r.kind = .dry ∨ r.kind = .timed → -400 ≤ r.exhaustTarget ∧ r.exhaustTarget ≤ 3000)),
    (5, decide (r.kind = .dry ∨ r.kind = .timed → -400 ≤ r.inletLimit ∧ r.inletLimit ≤ 3000)),
    (7, decide (r.kind = .dry → 1 ≤ r.confirm)),
    (8, decide (r.kind = .dry → -400 ≤ r.dryMinExhaust ∧ r.dryMinExhaust ≤ 3000)),
    (10, decide (1 ≤ r.maxDuration ∧ (r.kind = .dry ∨ r.kind = .cool → r.minDuration ≤ r.maxDuration))),
    (11, decide (r.kind = .cool → -400 ≤ r.coolTo ∧ r.coolTo ≤ 3000)),
    (12, decide (r.kind = .guard → 10 ≤ r.guardInterval ∧ r.guardInterval ≤ 3600)),
    (13, decide (r.kind = .guard → 1 ≤ r.burstRevs))]

theorem stageFault_checks (r : StageRec) (last : Bool) : stageFault r last = firstFailing (stageChecks r last) := by
  have used {P : Prop} {v : Int} : P ∧ ¬ tempInSpan v = true ↔ ¬ (P → -400 ≤ v ∧ v ≤ 3000) := by
    rw [tempInSpan, decide_eq_true_eq, Classical.not_imp]
  have counted {P : Prop} {n : Nat} : P ∧ n = 0 ↔ ¬ (P → 1 ≤ n) := by
    rw [Classical.not_imp]
    exact and_congr_right fun _ => by omega
  have durations {P : Prop} : r.maxDuration = 0 ∨ P ∧ r.maxDuration < r.minDuration ↔
      ¬ (1 ≤ r.maxDuration ∧ (P → r.minDuration ≤ r.maxDuration)) := by
    rw [not_and_or, Classical.not_imp]
    exact or_congr (by omega) (and_congr_right fun _ => by omega)
  have interval {P : Prop} : P ∧ (r.guardInterval < 10 ∨ 3600 < r.guardInterval) ↔
      ¬ (P → 10 ≤ r.guardInterval ∧ r.guardInterval ≤ 3600) := by
    rw [Classical.not_imp]
    exact and_congr_right fun _ => by omega
  exact firstFailing_cons_of (Classical.not_imp).symm (firstFailing_cons_of (by omega) (firstFailing_cons_of used
    (firstFailing_cons_of used (firstFailing_cons_of counted (firstFailing_cons_of used (firstFailing_cons_of durations
      (firstFailing_cons_of used (firstFailing_cons_of interval (firstFailing_cons_of counted rfl)))))))))

/-- Settles O21: a profile and a stage record are refused on the first failing check of their list. -/
theorem recordsAcceptedExactlyWhenInRange : Obligations.RecordsAcceptedExactlyWhenInRange := by
  refine ⟨fun p fits => ⟨?range, fun field refused => ?number, profileFault_checks fits⟩, fun r last => ⟨?used, fun field refused => ?field,
    stageFault_checks r last⟩⟩
  case range =>
    rw [profileFault_checks fits, firstFailing_none_iff]
    simp only [profileChecks, rangeChecks, profileRanges, profileFields, crossChecks, inRange, List.cons_append, List.nil_append,
      List.take_succ_cons, List.take_zero, List.drop_succ_cons, List.drop_zero, List.forall_mem_cons, List.not_mem_nil, false_implies,
      implies_true, and_true, if_true, decide_eq_true_eq, forall_element, Profile.current, policy_iff]
    simp
  case number =>
    rw [profileFault_checks fits] at refused
    have listed : field ∈ [1, 2, 3, 4, 5, 6, 8, 9, 10, 11, 12, 13, 14, 15, 16, 17, 18, 19, 20, 21, 22, 23, 24, 25, 26, 27, 28, 29, 30, 31,
      32, 33, 34, 35, 36, 37, 38, 39, 40, 3, 5, 14, 8, 9, 10, 11] := mem_of_firstFailing refused
    clear refused
    revert field
    decide
  case used =>
    rw [stageFault_checks, firstFailing_none_iff]
    simp only [stageChecks, List.forall_mem_cons, List.not_mem_nil, false_implies, implies_true, and_true, decide_eq_true_eq]
    constructor
    · rintro ⟨final, pattern, exhaust, inlet, confirm, floor, ⟨duration, minimum⟩, cool, interval, burst⟩
      exact ⟨final, pattern, duration, fun heats => ⟨(exhaust heats).1, (exhaust heats).2, inlet heats⟩,
        fun dry => ⟨confirm dry, floor dry⟩, minimum, cool, fun guard => ⟨(interval guard).1, (interval guard).2, burst guard⟩⟩
    · rintro ⟨final, pattern, duration, heat, dry, minimum, cool, guard⟩
      exact ⟨final, pattern, fun heats => ⟨(heat heats).1, (heat heats).2.1⟩, fun heats => (heat heats).2.2, fun h => (dry h).1,
        fun h => (dry h).2, ⟨duration, minimum⟩, cool, fun h => ⟨(guard h).1, (guard h).2.1⟩, fun h => (guard h).2.2⟩
  case field =>
    rw [stageFault_checks] at refused
    exact mem_of_firstFailing refused

/-! ### The context record (R159 to R162) -/

theorem exec_contextGet (tag : Byte) (payload : List Byte) (s : State) :
    exec (.contextGet tag payload) s = .next (serve 0x50 tag payload ownContextGet s) := rfl

theorem lengthAllowed_contextGet (n : Nat) : lengthAllowed 0x50 n = decide (n = 0) := rfl

theorem ownContextGet_refused (h : s.cpx.cycle ≠ .paused ∧ s.cpx.cycle ≠ .faulted) : ownContextGet s = (s, .badState) := by
  cases cycle : s.cpx.cycle <;> simp_all [ownContextGet]

theorem ownContextGet_answered (h : s.cpx.cycle = .paused ∨ s.cpx.cycle = .faulted) :
    ownContextGet s = (s, .ok (contextBytes (contextNow s))) := by
  obtain cycle | cycle := h <;> simp [ownContextGet, cycle]

/-- Settles O18: the record is the one `contextNow` reads off the blocks. -/
theorem contextGetReturnsTheRecord : Obligations.ContextGetReturnsTheRecord := by
  intro tag payload f s due
  rw [exec_contextGet]
  refine ⟨fun nonempty => ?_, ?_⟩
  · rw [serve_bad_length due]
    rw [lengthAllowed_contextGet, decide_eq_false (mt List.eq_nil_of_length_eq_zero nonempty)]
  refine ⟨fun empty notPaused notFaulted => ?_, fun empty state => ⟨contextNow (atOwner f s), ?_⟩⟩
  · rw [serve_due due (by rw [empty]; rfl), ownContextGet_refused ⟨notPaused, notFaulted⟩]
    rfl
  · rw [serve_due due (by rw [empty]; rfl), ownContextGet_answered state]
    generalize atOwner f s = u
    refine ⟨rfl, rfl, rfl, rfl, rfl, rfl, fun v present => ?_, fun absent => ?_, rfl, rfl, rfl, ?_, fun active => ?_, fun idle => ?_⟩
    · exact congrArg (·.getD 0) present
    · exact congrArg (·.getD 0) absent
    · exact rfl
    · refine ⟨if_pos active, if_pos active, if_pos active, ?_⟩
      cases latched : u.cpx.dryLatched <;> simp [contextNow, active, latched]
    · have inactive : ¬ u.cpx.stageActive = true := by simp [idle]
      exact ⟨if_neg inactive, if_neg inactive, if_neg inactive, if_neg fun both => inactive both.1⟩

theorem contextChecks_iff (bs : List Byte) : contextChecks bs = true ↔ (crc16 (bs.take 30)).toNat = wordAt bs 30 := decide_eq_true_iff

/-- The failing checks of CONTEXT_LOAD in their order (R161). -/
theorem ownContextLoad_badState {payload : List Byte} (h : s.cpx.cycle ≠ .ready) : ownContextLoad payload s = (s, .badState) := by
  simp [ownContextLoad, h]

section
variable {payload : List Byte} (ready : s.cpx.cycle = .ready) (noTrip : tripBars s.trip = false)
include ready noTrip

theorem ownContextLoad_badCheck (h : (crc16 (payload.take 30)).toNat ≠ wordAt payload 30) :
    ownContextLoad payload s = (s, .badContext 0x01) := by
  simp [ownContextLoad, ready, noTrip, contextChecks, h]

theorem ownContextLoad_otherVersion (check : (crc16 (payload.take 30)).toNat = wordAt payload 30)
    (h : (contextOf payload).version ≠ 1) : ownContextLoad payload s = (s, .badContext 0x02) := by
  simp [ownContextLoad, ready, noTrip, contextChecks, check, h]

variable {head : StageRec} {rest : List StageRec} (check : (crc16 (payload.take 30)).toNat = wordAt payload 30)
  (version : (contextOf payload).version = 1) (plan : s.cpx.plan = head :: rest)
include check version plan

theorem ownContextLoad_otherPlan (differs : (contextOf payload).held ≠ rest.length + 1 ∨ (contextOf payload).digest ≠ s.cpx.digest.toNat) :
    ownContextLoad payload s = (s, .badContext 0x03) := by
  simp [ownContextLoad, ready, noTrip, contextChecks, check, version, plan, differs]

variable (held : (contextOf payload).held = rest.length + 1) (digest : (contextOf payload).digest = s.cpx.digest.toNat)
include held digest

theorem ownContextLoad_pastStage (past : head.maxDuration < (contextOf payload).stageElapsed) :
    ownContextLoad payload s = (s, .badContext 0x04) := by
  simp [ownContextLoad, ready, noTrip, contextChecks, check, version, plan, held, digest, past]

theorem ownContextLoad_outOfRange (within : (contextOf payload).stageElapsed ≤ head.maxDuration)
    (range : rangeContext s.profile head (contextOf payload) = none) : ownContextLoad payload s = (s, .badContext 0x05) := by
  simp [ownContextLoad, ready, noTrip, contextChecks, check, version, plan, held, digest, Nat.not_lt.mpr within, range]

theorem ownContextLoad_taken {l : LoadedContext} (within : (contextOf payload).stageElapsed ≤ head.maxDuration)
    (range : rangeContext s.profile head (contextOf payload) = some l) :
    ownContextLoad payload s = (loadContext (contextOf payload) l head s, .ok []) := by
  simp [ownContextLoad, ready, noTrip, contextChecks, check, version, plan, held, digest, Nat.not_lt.mpr within, range]

end

theorem directionOf_eq (n : Nat) :
    directionOf n = if n = 1 ∨ n = 2 then some (if n = 1 then .fwd else .rev) else none := by
  match n with
  | 0 | 1 | 2 => rfl
  | n + 3 => simp [directionOf]

theorem pointerOf_some {n : Nat} (h : n ≤ 3) : ∃ e, pointerOf n = some e ∧ pointerCode e = n := by
  match n with
  | 0 => exact ⟨.e1, rfl, rfl⟩
  | 1 => exact ⟨.e2, rfl, rfl⟩
  | 2 => exact ⟨.e3, rfl, rfl⟩
  | 3 => exact ⟨.e4, rfl, rfl⟩
  | n + 4 => omega

theorem pointerOf_none {n : Nat} (h : 3 < n) : pointerOf n = none := by
  match n with
  | 0 | 1 | 2 | 3 => omega
  | n + 4 => rfl

theorem rangeContext_taken {p : Profile} {head : StageRec} {c : ContextRec} (low : -(p.maxAdjust : Int) ≤ c.offset)
    (high : c.offset ≤ p.maxAdjust) (pointer : c.pointer ≤ 3) (direction : c.direction = 1 ∨ c.direction = 2) (present : c.fPresent ≤ 1)
    (latched : c.dryLatched ≤ 1) (dry : c.dryLatched = 1 → head.kind = .dry) :
    ∃ e, pointerCode e = c.pointer ∧ rangeContext p head c =
      some ⟨c.offset, if c.direction = 1 then .fwd else .rev, e, if c.fPresent = 1 then some c.fValue else none,
        decide (c.dryLatched = 1)⟩ := by
  obtain ⟨e, found, code⟩ := pointerOf_some pointer
  refine ⟨e, code, ?_⟩
  simp only [rangeContext, found, directionOf_eq, if_pos direction]
  rw [if_pos ⟨low, high, present, latched, dry⟩]

theorem rangeContext_refused {p : Profile} {head : StageRec} {c : ContextRec}
    (h : ¬ (-(p.maxAdjust : Int) ≤ c.offset ∧ c.offset ≤ p.maxAdjust ∧ c.pointer ≤ 3 ∧ (c.direction = 1 ∨ c.direction = 2) ∧
      c.fPresent ≤ 1 ∧ c.dryLatched ≤ 1 ∧ (c.dryLatched = 1 → head.kind = .dry))) : rangeContext p head c = none := by
  unfold rangeContext
  split
  · next d e direction pointer =>
    refine if_neg fun ⟨low, high, present, latched, dry⟩ => h ⟨low, high, ?_, ?_, present, latched, dry⟩
    · refine Nat.le_of_not_lt fun past => ?_
      rw [pointerOf_none past] at pointer
      cases pointer
    · refine Classical.byContradiction fun other => ?_
      rw [directionOf_eq, if_neg other] at direction
      cases direction
  · rfl

/-- A report's effect on LINK reads LINK and the cycle elapsed alone. -/
theorem report_link_congr {src : Source} {sev : Severity} {code : Byte} {data : List Byte} (link : t.link = s.link)
    (elapsed : t.cpx.cycleElapsed = s.cpx.cycleElapsed) : (report src sev code data t).link = (report src sev code data s).link := by
  by_cases passes : sev.code ≤ s.link.level
  · by_cases room : s.link.reports.length < 8
    · rw [report_queued passes room, report_queued (by rw [link]; exact passes) (by rw [link]; exact room)]
      simp only [State.updLink_link, link, elapsed]
    · rw [report_lost passes (Nat.le_of_not_lt room), report_lost (by rw [link]; exact passes) (by rw [link]; exact Nat.le_of_not_lt room)]
      simp only [State.updLink_link, link]
  · rw [report_discarded (Nat.lt_of_not_le passes), report_discarded (by rw [link]; exact Nat.lt_of_not_le passes), link]

/-- A change of the cycle state leaves LINK as its report does (R127). -/
theorem enterCycle_link (new : CycleState) (s : State) :
    (enterCycle new s).link =
      (report .cpx .info 0x50 (u8 s.cpx.cycle.code ++ u8 new.code ++ u8 (changeDetail new { s.cpx with cycle := new })) s).link :=
  report_link_congr rfl rfl

theorem loadContext_link (c : ContextRec) (l : LoadedContext) (head : StageRec) (ready : s.cpx.cycle = .ready) :
    (loadContext c l head s).link =
      (report .cpx .info 0x50 [2, 5, 4] (s.updCpx fun x => { x with cycleElapsed := c.cycleElapsed })).link := by
  unfold loadContext
  dsimp only
  rw [enterCycle_link]
  have bytes (u : State) (cycle : u.cpx.cycle = .ready) (cause : u.cpx.pauseCause = some .restored) :
      u8 u.cpx.cycle.code ++ u8 CycleState.paused.code ++ u8 (changeDetail .paused { u.cpx with cycle := .paused }) = [2, 5, 4] := by
    rw [cycle, changeDetail]
    simp only [cause]
    rfl
  rw [bytes _ (by simp [ready]) rfl]
  exact report_link_congr (by simp) (by simp)

theorem loadContext_mest (c : ContextRec) (l : LoadedContext) (head : StageRec) (s : State) :
    (loadContext c l head s).mest =
      { s.mest with
        stage := some (mestStage head c.ordinal), f := l.f, sparse := c.sparse, sparseWarned := false, b := 0,
        drySignalled := l.dryLatched, foldCounter := 0, trend := [], estimate := none } := by
  simp [loadContext, enterCycle, mestLoad]

theorem loadContext_drum (c : ContextRec) (l : LoadedContext) (head : StageRec) (s : State) :
    (loadContext c l head s).drum =
      { installPattern head.kind head.pattern head.burstRevs l.offset c.stageTangles s.drum with direction := l.direction } := by
  simp [loadContext, enterCycle, drumLoad]

theorem loadContext_hstg (c : ContextRec) (l : LoadedContext) (head : StageRec) (s : State) :
    (loadContext c l head s).hstg =
      { (setHeatEnable false s).hstg with
        settings := some (heatSettings head c.ordinal head.exhaustTarget), pointer := l.pointer, demand := 0 } := by
  simp [loadContext, enterCycle, hstgLoad, setHeatEnable]

theorem setHeatEnable_elements (b : Bool) (s : State) : (setHeatEnable b s).hstg.elements = s.hstg.elements := by
  rw [setHeatEnable_hstg]
  split <;> rfl

theorem setHeatEnable_onOrder (b : Bool) (s : State) : (setHeatEnable b s).hstg.onOrder = s.hstg.onOrder := by
  rw [setHeatEnable_hstg]
  split <;> rfl

theorem heatSettings_eq (r : StageRec) (ordinal : Nat) (target : Int) :
    heatSettings r ordinal target =
      ⟨r.kind, ordinal, if r.kind = .dry ∨ r.kind = .timed then some ⟨target, r.inletLimit⟩ else none⟩ := by
  cases kind : r.kind <;> simp [heatSettings, kind, StageKind.heats]

/-- Settles O19: CONTEXT_LOAD's checks one after the other, and what each block takes of a record that passes. -/
theorem contextLoadChecksThenRestores : Obligations.ContextLoadChecksThenRestores := by
  intro tag payload c f s u length record owner due
  subst record owner
  rw [exec_contextLoad length due]
  generalize atOwner f s = u
  refine ⟨fun busy => ?_, fun ready bars => ?_, fun ready noTrip => ⟨fun check => ?_, fun check => ⟨fun version => ?_,
    fun version head rest plan => ?_⟩⟩⟩
  · rw [ownContextLoad_badState busy]
    rfl
  · rw [ownContextLoad_tripped payload ready bars]
    rfl
  · rw [ownContextLoad_badCheck ready noTrip check]
    rfl
  · rw [ownContextLoad_otherVersion ready noTrip check version]
    rfl
  refine ⟨fun differs => ?_, fun held digest => ⟨fun past => ?_, fun within => ⟨fun outside => ?_,
    fun low high pointer direction present latched dry => ?_⟩⟩⟩
  · rw [ownContextLoad_otherPlan ready noTrip check version plan differs]
    rfl
  · rw [ownContextLoad_pastStage ready noTrip check version plan held digest past]
    rfl
  · rw [ownContextLoad_outOfRange ready noTrip check version plan held digest within (rangeContext_refused outside)]
    rfl
  obtain ⟨e, code, taken⟩ := rangeContext_taken low high pointer direction present latched dry
  rw [ownContextLoad_taken ready noTrip check version plan held digest within taken]
  refine ⟨_, rfl, (loadContext_cpx ..).trans rfl, (loadContext_mest ..).trans rfl, (loadContext_drum ..).trans rfl, ?_⟩
  rw [loadContext_hstg, heatSettings_eq, loadContext_link _ _ _ ready]
  exact ⟨rfl, setHeatEnable_heatEnable false u, code, setHeatEnable_elements false u, setHeatEnable_onOrder false u, by simp, by simp, by simp,
    by simp, by simp, by simp, rfl⟩

/-! ### PROFILE_SET and PROFILE_GET (R124, R196, R197) -/

theorem exec_profileSet (tag : Byte) (payload : List Byte) (s : State) :
    exec (.profileSet tag payload) s = .next (serve 0x02 tag payload (ownProfileSet payload) s) := rfl

theorem lengthAllowed_profileSet (n : Nat) : lengthAllowed 0x02 n = decide (n = 52) := rfl

theorem ownProfileSet_badState {payload : List Byte} (h : s.cpx.cycle ∉ [CycleState.idle, .ready, .done]) :
    ownProfileSet payload s = (s, .badState) := if_pos (not_quiet_of h)

theorem ownProfileSet_checked {payload : List Byte} (h : s.cpx.cycle ∈ [CycleState.idle, .ready, .done]) :
    ownProfileSet payload s =
      match profileFault (profileOf payload) with
      | some field => (s, .badField field 0)
      | none => (applyProfile (Profile.masked (profileOf payload)) (settleAccount s), .ok []) := if_neg (quiet_of h)

/-- The records aligned with a profile, one by one (R109). -/
def alignedElements (p : Profile) (t : Elements) : Elements :=
  ⟨alignElement p .e1 t.r1, alignElement p .e2 t.r2, alignElement p .e3 t.r3, alignElement p .e4 t.r4⟩

theorem alignedElements_get (p : Profile) (t : Elements) (e : Element) : (alignedElements p t).get e = alignElement p e (t.get e) := by
  cases e <;> rfl

theorem hstgProfile_eq (s : State) :
    hstgProfile s = s.updHstg fun h => { h with elements := alignedElements s.profile h.elements } := rfl

theorem clampInt_eq {lo hi : Int} (v : Int) (order : lo ≤ hi) : clampInt lo hi v = max lo (min hi v) := by
  unfold clampInt
  split
  · omega
  · split <;> omega

theorem silenceAfter_eq (old new : Nat) (timer : Timer) :
    silenceAfter old new timer =
      if new = 0 then none else if timer ≠ none ∨ old = 0 then some (new * 1000) else none := by
  unfold silenceAfter silenceFor
  by_cases off : new = 0
  · rw [if_pos off, if_pos off]
  · rw [if_neg off, if_neg off, if_neg off]
    cases timer with
    | none => by_cases was : old = 0 <;> simp [was]
    | some n => simp

theorem applyProfile_settled (p : Profile) (s : State) :
    applyProfile p (settleAccount s) =
      { s with
        prof := { s.prof with active := p }
        drum := { s.drum with offset := max (-(p.maxAdjust : Int)) (min p.maxAdjust s.drum.offset) }
        hstg := { s.hstg with elements := alignedElements p s.hstg.elements }
        saa := ⟨[], [], .idle, none, latestRequest s.paths.drumToSaa s.saa.txn⟩
        paths := { s.paths with hstgToSaa := [], saaToHstg := [], drumToSaa := [], saaToDrum := [] }
        link := { s.link with
          silence :=
            if p.silenceTimeout = 0 then none
            else if s.link.silence ≠ none ∨ s.profile.silenceTimeout = 0 then some (p.silenceTimeout * 1000)
            else none } } := by
  rw [← clampInt_eq s.drum.offset (by omega), ← silenceAfter_eq]
  rfl

theorem alignElement_removed {p : Profile} {e : Element} {r : ElementRec} (removed : Profile.current p e = 0)
    (off : r.state ∈ [ElementState.offReady, .offHold]) : alignElement p e r = { r with state := .absent, minOff := none } := by
  unfold alignElement
  rw [if_pos removed]
  cases state : r.state <;> simp_all

theorem alignElement_fitted {p : Profile} {e : Element} {r : ElementRec} (fitted : Profile.current p e ≠ 0) (absent : r.state = .absent) :
    alignElement p e r = { r with state := .offHold, minOff := some (p.minOff * 1000) } := by
  unfold alignElement
  rw [if_neg fitted, if_pos absent]

theorem alignElement_kept {p : Profile} {e : Element} {r : ElementRec}
    (notRemoved : ¬ (Profile.current p e = 0 ∧ r.state ∈ [ElementState.offReady, .offHold]))
    (notFitted : ¬ (Profile.current p e ≠ 0 ∧ r.state = .absent)) : alignElement p e r = r := by
  unfold alignElement
  by_cases removed : Profile.current p e = 0
  · rw [if_pos removed]
    cases state : r.state <;> simp_all
  · rw [if_neg removed, if_neg fun absent => notFitted ⟨removed, absent⟩]

/-- Settles O20: PROFILE_SET's refusals in their order, and a profile applied over the settled account. -/
theorem profileSetReplacesTheProfile : Obligations.ProfileSetReplacesTheProfile := by
  refine ⟨fun tag payload f s due => ?_, fun tag f s due => congrArg _ (serve_due due rfl)⟩
  rw [exec_profileSet]
  have served (length : payload.length = 52) := serve_due (owner := ownProfileSet payload) due (by rw [length]; rfl)
  refine ⟨fun wrong => ?_, fun length busy => ?_, fun length rests => ⟨fun field refused => ?_, fun passes => ?_⟩⟩
  · rw [serve_bad_length due]
    rw [lengthAllowed_profileSet, decide_eq_false wrong]
  · rw [served length, ownProfileSet_badState busy]
    rfl
  · rw [served length, ownProfileSet_checked rests, refused]
    rfl
  · rw [served length, ownProfileSet_checked rests, passes]
    refine ⟨Profile.masked (profileOf payload), alignedElements (Profile.masked (profileOf payload)) (atOwner f s).hstg.elements,
      rfl, ?_, fun e => ?_⟩
    · generalize Profile.masked (profileOf payload) = p
      dsimp only
      rw [applyProfile_settled]
      rfl
    · rw [alignedElements_get]
      exact ⟨alignElement_removed, alignElement_fitted, alignElement_kept⟩

end Sys2Proof.Machine
end

section
/-! SUPPORT. Records in a request: the pattern table and the plan's tail: O13 and O15. -/

namespace Sys2Proof.Machine

variable {s t : State}

/-! ### A payload cut into the records it was joined of -/

theorem chunks_flatMap {α : Type} {enc : α → List Byte} {width : Nat} (fixed : ∀ a, (enc a).length = width) (l : List α) (k : Nat)
    (rest : List Byte) : chunks width (l.length + k) (l.flatMap enc ++ rest) = l.map enc ++ chunks width k rest := by
  induction l with
  | nil => simp
  | cons a l ih =>
    rw [List.length_cons, Nat.add_right_comm, chunks, List.flatMap_cons, List.append_assoc, List.take_left' (fixed a),
      List.drop_left' (fixed a), ih, List.map_cons, List.cons_append]

theorem chunks_encoded {α : Type} {enc : α → List Byte} {width : Nat} (fixed : ∀ a, (enc a).length = width) (l : List α) :
    chunks width l.length (l.flatMap enc) = l.map enc := by
  simpa [chunks] using chunks_flatMap fixed l 0 []

theorem flatMap_length {α : Type} {enc : α → List Byte} {width : Nat} (fixed : ∀ a, (enc a).length = width) (l : List α) :
    (l.flatMap enc).length = width * l.length := by
  induction l with
  | nil => simp
  | cons a l ih => rw [List.flatMap_cons, List.length_append, fixed, ih, List.length_cons, Nat.mul_succ, Nat.add_comm]

theorem ofNat_toNat (b : Byte) : BitVec.ofNat 8 b.toNat = b := by rw [BitVec.ofNat_toNat, BitVec.setWidth_eq]

/-! ### The pattern table (R25 to R27) -/

theorem patternOf_patternBytes {p : Pattern} (fits : patternFits p) : patternOf (patternBytes p) = p := by
  obtain ⟨rpm, forward, reverse, dwell, nominal⟩ := fits
  have bytes : patternBytes p = [u16 p.rpm, u8 p.forward, u8 p.reverse, u16 p.dwell, u16 p.nominal].flatten := by
    simp only [patternBytes, List.flatten_cons, List.flatten_nil, List.append_assoc, List.append_nil]
  rw [bytes, patternOf]
  congr 1
  · exact word_of_lt rpm
  · exact byte_of_lt forward
  · exact byte_of_lt reverse
  · exact word_of_lt dwell
  · exact word_of_lt nominal

theorem patternBytes_length (p : Pattern) : (patternBytes p).length = 8 := rfl

theorem clampPattern_eq_iff (p : Pattern) :
    clampPattern p = p ↔ 10 ≤ p.rpm ∧ p.rpm ≤ 60 ∧ 1 ≤ p.reverse ∧ p.dwell ≤ 255 ∧ p.nominal ≤ 1023 := by
  obtain ⟨rpm, forward, reverse, dwell, nominal⟩ := p
  simp only [clampPattern, Pattern.mk.injEq, true_and]
  omega

theorem map_eq_self_iff {α : Type} {f : α → α} {l : List α} : l.map f = l ↔ ∀ a ∈ l, f a = a := by
  induction l with
  | nil => simp
  | cons a l ih => rw [List.map_cons, List.cons.injEq, ih, List.forall_mem_cons]

/-- The entries written stand in their places, and every other place stays. -/
theorem writePatterns_get (start : Nat) (ps : List Pattern) (table : Vector Pattern 8) (i : Fin 8) :
    (∀ j, i.val = start + j → ∀ p, ps[j]? = some p → (writePatterns start ps table)[i] = p) ∧
      (i.val < start ∨ start + ps.length ≤ i.val → (writePatterns start ps table)[i] = table[i]) := by
  induction ps generalizing start table with
  | nil => exact ⟨fun _ _ _ none => (nomatch none), fun _ => rfl⟩
  | cons q ps ih =>
    rw [writePatterns]
    obtain ⟨inside, outside⟩ := ih (start + 1) (table.setIfInBounds start q)
    refine ⟨fun j place p entry => ?_, fun away => ?_⟩
    · cases j with
      | zero =>
        rw [outside (by omega)]
        obtain rfl : q = p := Option.some.inj entry
        obtain rfl : i.val = start := place
        exact Vector.getElem_setIfInBounds_self i.isLt
      | succ j => exact inside j (by omega) p entry
    · rw [List.length_cons] at away
      rw [outside (by omega)]
      exact Vector.getElem_setIfInBounds_ne i.isLt (by omega)

section
variable {start : Byte} {entries : List Pattern}

theorem patternSet_count : ((start :: entries.flatMap patternBytes).length - 1) / 8 = entries.length := by
  rw [List.length_cons, flatMap_length patternBytes_length]
  omega

theorem working_iff (c : CycleState) : c = .running ∨ c = .starved ∨ c = .paused ↔ c.working = true := by cases c <;> decide

theorem received_entries (fits : ∀ p ∈ entries, patternFits p) :
    (chunks 8 entries.length (entries.flatMap patternBytes)).map patternOf = entries := by
  rw [chunks_encoded patternBytes_length, List.map_map]
  exact map_eq_self_iff.mpr fun p mem => patternOf_patternBytes (fits p mem)

/-- PATTERN_SET in the order of its checks (R25, R26). -/
theorem ownPatternSet_eq (fits : ∀ p ∈ entries, patternFits p) (s : State) :
    ownPatternSet (start :: entries.flatMap patternBytes) s =
      if 7 < start.toNat then (s, .badField 1 0)
      else if 8 < start.toNat + entries.length then (s, .badField 1 (9 - start.toNat))
      else if (s.cpx.cycle = .running ∨ s.cpx.cycle = .starved ∨ s.cpx.cycle = .paused) ∧ start.toNat ≤ s.drum.activeIdx ∧
          s.drum.activeIdx < start.toNat + entries.length then (s, .inUse)
      else
        (s.updDrum fun d => { d with table := writePatterns start.toNat (entries.map clampPattern) d.table },
          if entries.map clampPattern = entries then .ok [] else .clamped []) := by
  have first : byteAt (start :: entries.flatMap patternBytes) 0 = start.toNat := rfl
  simp only [ownPatternSet, patternSet_count, first, List.drop_succ_cons, List.drop_zero, received_entries fits]

end

theorem clampedReply (clamped : Prop) [Decidable clamped] :
    (if clamped then ReplyCode.ok [] else .clamped []).payload = [if clamped then 0x00 else 0x01] := by
  by_cases h : clamped
  · rw [if_pos h, if_pos h, ReplyCode.payload]
  · rw [if_neg h, if_neg h, ReplyCode.payload]

/-- PATTERN_GET's entries are the table's, from the start on (R27). -/
theorem tableSlice (table : Vector Pattern 8) {start count : Nat} (fits : start + count ≤ 8) :
    ((table.toList.drop start).take count).length = count ∧
      ∀ j : Fin 8, j.val < count → ∀ i : Fin 8, i.val = start + j.val →
        ((table.toList.drop start).take count)[j.val]? = some table[i] := by
  refine ⟨by simp; omega, fun j inside i place => ?_⟩
  rw [List.getElem?_take_of_lt inside, List.getElem?_drop, ← place]
  simp

/-- Settles O13: PATTERN_SET by its checks and the table it writes, PATTERN_GET by the slice it reads. -/
theorem patternTableIsWrittenClampedAndRead : Obligations.PatternTableIsWrittenClampedAndRead := by
  refine ⟨fun tag start entries f s some few fits due => ?set, fun tag start count f s due => ?get⟩
  case set =>
    have admitted : lengthAllowed 0x10 (start :: entries.flatMap patternBytes).length = true := by
      rw [List.length_cons, flatMap_length patternBytes_length]
      generalize entries.length = n at some few
      interval_cases n <;> rfl
    have run : exec (.patternSet tag (start :: entries.flatMap patternBytes)) s =
        .next (answered 0x10 tag (ownPatternSet (start :: entries.flatMap patternBytes) (atOwner f s)).2.payload
          (ownPatternSet (start :: entries.flatMap patternBytes) (atOwner f s)).1) := congrArg _ (serve_due due admitted)
    rw [run, ownPatternSet_eq fits]
    generalize atOwner f s = u
    refine ⟨fun high => ?_, fun low past => ?_, fun within works above below => ?_, fun within free => ?_⟩
    · rw [if_pos high]
      rfl
    · rw [if_neg (Nat.not_lt.mpr low), if_pos past]
      rfl
    · rw [if_neg (by omega), if_neg (by omega), if_pos ⟨(working_iff _).mpr works, above, below⟩]
      rfl
    · rw [if_neg (by omega), if_neg (by omega), if_neg fun both => free ((working_iff _).mp both.1) both.2]
      refine ⟨writePatterns start.toNat (entries.map clampPattern) u.drum.table, ?_, fun i => ⟨fun j place p entry => ?_, fun away => ?_⟩⟩
      · dsimp only
        rw [clampedReply]
        simp only [map_eq_self_iff, clampPattern_eq_iff]
        rfl
      · exact (writePatterns_get start.toNat _ u.drum.table i).1 j place (clampPattern p) (by rw [List.getElem?_map, entry]; rfl)
      · exact (writePatterns_get start.toNat _ u.drum.table i).2 (by rw [List.length_map]; exact away)
  case get =>
    have run : exec (.patternGet tag [start, count]) s =
        .next (answered 0x11 tag (ownPatternGet [start, count] (atOwner f s)).2.payload (ownPatternGet [start, count] (atOwner f s)).1) :=
      congrArg _ (serve_due due rfl)
    rw [run]
    generalize atOwner f s = u
    have read : ownPatternGet [start, count] u =
        if 7 < start.toNat then (u, .badField 1 0)
        else if count.toNat = 0 ∨ 8 < start.toNat + count.toNat then (u, .badField 2 0)
        else (u, .ok (u8 start.toNat ++ u8 count.toNat ++
          ((u.drum.table.toList.drop start.toNat).take count.toNat).flatMap patternBytes)) := rfl
    rw [read]
    refine ⟨fun high => ?_, fun low outside => ?_, fun some within => ?_⟩
    · rw [if_pos high]
      rfl
    · rw [if_neg (Nat.not_lt.mpr low), if_pos outside]
      rfl
    · rw [if_neg (by omega), if_neg (by omega)]
      obtain ⟨length, slice⟩ := tableSlice u.drum.table within
      refine ⟨_, length, slice, ?_⟩
      simp only [u8, ofNat_toNat, ReplyCode.payload, List.cons_append, List.nil_append]

/-! ### The records of a PLAN_APPEND (R131) -/

theorem checkStages_single {r : StageRec} (fits : stageFits r) (passes : stageFault r true = none) (idx : Nat) :
    checkStages idx [stageBytes r] = .ok [r] := by
  simp [checkStages, stageOf_stageBytes fits, passes]

theorem checkStages_unknownKind {bs : List Byte} (unknown : stageOf bs = none) (idx : Nat) (rest : List (List Byte)) :
    checkStages idx (bs :: rest) = .error (1, idx) := by
  simp [checkStages, unknown]

theorem checkStages_refused {r : StageRec} {rest : List (List Byte)} {field : Nat} (fits : stageFits r)
    (fault : stageFault r rest.isEmpty = some field) (idx : Nat) : checkStages idx (stageBytes r :: rest) = .error (field, idx) := by
  simp [checkStages, stageOf_stageBytes fits, fault]

/-- Records that pass leave the result to those behind them: an error stays, and an accepted tail has them in front. -/
theorem checkStages_behind {before : List StageRec} (pass : ∀ r ∈ before, stageFits r ∧ stageFault r false = none)
    {rest : List (List Byte)} (more : rest ≠ []) (idx : Nat) :
    (∀ e, checkStages (idx + before.length) rest = .error e → checkStages idx (before.map stageBytes ++ rest) = .error e) ∧
      ∀ rs, checkStages (idx + before.length) rest = .ok rs → checkStages idx (before.map stageBytes ++ rest) = .ok (before ++ rs) := by
  induction before generalizing idx with
  | nil => exact ⟨fun _ h => h, fun _ h => h⟩
  | cons r before ih =>
    rw [List.forall_mem_cons] at pass
    obtain ⟨⟨fits, passes⟩, others⟩ := pass
    obtain ⟨error, accepted⟩ := ih others (idx + 1)
    have notLast : (before.map stageBytes ++ rest).isEmpty = false := by
      simp [more]
    have count : idx + (r :: before).length = idx + 1 + before.length := by rw [List.length_cons]; omega
    rw [count]
    refine ⟨fun e refused => ?_, fun rs taken => ?_⟩
    · simp [checkStages, stageOf_stageBytes fits, notLast, passes, error e refused]
    · simp [checkStages, stageOf_stageBytes fits, notLast, passes, accepted rs taken]

section
variable {records : List StageRec} (fits : ∀ r ∈ records, stageFits r)
include fits

theorem checkStages_encoded (some : records ≠ [])
    (pass : ∀ i : Fin records.length, stageFault records[i.val] (decide (i.val + 1 = records.length)) = none) :
    checkStages 1 (records.map stageBytes) = .ok records := by
  obtain ⟨before, last, rfl⟩ : ∃ before last, records = before ++ [last] :=
    ⟨records.dropLast, records.getLast some, (List.dropLast_concat_getLast some).symm⟩
  have early : ∀ r ∈ before, stageFits r ∧ stageFault r false = none := by
    intro r mem
    refine ⟨fits r (List.mem_append_left _ mem), ?_⟩
    obtain ⟨i, inside, rfl⟩ := List.getElem_of_mem mem
    have at_i := pass ⟨i, by simp; omega⟩
    have notLast : decide (i + 1 = (before ++ [last]).length) = false := by simp; omega
    rw [notLast, List.getElem_append_left inside] at at_i
    exact at_i
  have final : stageFault last true = none := by
    have at_last := pass ⟨before.length, by simp⟩
    simpa using at_last
  rw [List.map_append]
  exact (checkStages_behind early (by simp) 1).2 _ (checkStages_single (fits last (by simp)) final _)

theorem checkStages_firstFault (i : Fin records.length) {field : Nat}
    (pass : ∀ j : Fin records.length, j.val < i.val → stageFault records[j.val] (decide (j.val + 1 = records.length)) = none)
    (fault : stageFault records[i.val] (decide (i.val + 1 = records.length)) = some field) :
    checkStages 1 (records.map stageBytes) = .error (field, i.val + 1) := by
  have parts : records = records.take i.val ++ records[i.val] :: records.drop (i.val + 1) := by
    rw [List.getElem_cons_drop, List.take_append_drop]
  have early : ∀ r ∈ records.take i.val, stageFits r ∧ stageFault r false = none := by
    intro r mem
    refine ⟨fits r (List.mem_of_mem_take mem), ?_⟩
    obtain ⟨j, inside, rfl⟩ := List.getElem_of_mem mem
    rw [List.length_take] at inside
    have notLast : decide (j + 1 = records.length) = false := by simp; omega
    have at_j := pass ⟨j, by omega⟩ (by simp; omega)
    rw [notLast] at at_j
    rw [List.getElem_take]
    exact at_j
  have last : ((records.drop (i.val + 1)).map stageBytes).isEmpty = decide (i.val + 1 = records.length) := by
    rw [Bool.eq_iff_iff]
    simp
    omega
  have refused := checkStages_refused (rest := (records.drop (i.val + 1)).map stageBytes) (fits _ (List.getElem_mem i.isLt))
    (by rw [last]; exact fault) (1 + (records.take i.val).length)
  have error := (checkStages_behind early (List.cons_ne_nil _ _) 1).1 _ refused
  rw [← List.map_cons, ← List.map_append, ← parts] at error
  rw [error, List.length_take, Nat.min_eq_left i.isLt.le, Nat.add_comm]

end

theorem stageOf_unknownKind {bs : List Byte} (unknown : byteAt bs 0 % 128 = 0 ∨ 4 < byteAt bs 0 % 128) : stageOf bs = none := by
  unfold stageOf
  generalize byteAt bs 0 % 128 = n at unknown
  match n with
  | 0 | n + 5 => rfl
  | 1 | 2 | 3 | 4 => omega

/-! ### PLAN_APPEND in the order of its checks (R131, R132) -/

section
variable {payload : List Byte} {n : Nat} (count : payload.length / 20 = n)

theorem ownPlanAppend_badState (h : s.cpx.cycle = .faulted ∨ s.cpx.cycle = .done) : ownPlanAppend payload s = (s, .badState) := if_pos h

variable (notFaulted : s.cpx.cycle ≠ .faulted) (notDone : s.cpx.cycle ≠ .done)
include count notFaulted notDone

theorem ownPlanAppend_full (full : 16 < s.cpx.plan.length + n) : ownPlanAppend payload s = (s, .full) := by
  simp [ownPlanAppend, notFaulted, notDone, count, Config.planCapacity, full]

variable (room : s.cpx.plan.length + n ≤ 16)
include room

theorem ownPlanAppend_finalSeen (final : ∃ r ∈ s.cpx.plan, r.final = true) : ownPlanAppend payload s = (s, .finalSeen) := by
  have seen : s.cpx.plan.any (·.final) = true := List.any_eq_true.mpr final
  simp [ownPlanAppend, notFaulted, notDone, count, Config.planCapacity, Nat.not_lt.mpr room, seen]

variable (none : ∀ r ∈ s.cpx.plan, r.final = false)
include none

theorem ownPlanAppend_badField {e : Nat × Nat} (h : checkStages 1 (chunks 20 n payload) = .error e) :
    ownPlanAppend payload s = (s, .badField e.1 e.2) := by
  have unseen : s.cpx.plan.any (·.final) = false := by simpa using none
  simp [ownPlanAppend, notFaulted, notDone, count, Config.planCapacity, Nat.not_lt.mpr room, unseen, h]

theorem ownPlanAppend_joined {rs : List StageRec} (h : checkStages 1 (chunks 20 n payload) = .ok rs) (notStarved : s.cpx.cycle ≠ .starved) :
    ownPlanAppend payload s =
      let stored := rs.map fun r => if r.kind.heats then { r with exhaustTarget := clampTarget s.profile r } else r
      (if s.cpx.cycle = .idle then enterCycle .ready (setPlan (s.cpx.plan ++ stored) s) else setPlan (s.cpx.plan ++ stored) s,
        if stored = rs then .ok [] else .clamped []) := by
  have unseen : s.cpx.plan.any (·.final) = false := by simpa using none
  cases cycle : s.cpx.cycle <;>
    simp_all [ownPlanAppend, Config.planCapacity, Nat.not_lt.mpr room]

end

theorem clampedTargets_eq (p : Profile) (rs : List StageRec) :
    (rs.map fun r => if r.kind.heats then { r with exhaustTarget := clampTarget p r } else r) =
      rs.map fun r =>
        if r.kind = .dry ∨ r.kind = .timed then { r with exhaustTarget := min r.exhaustTarget ((p.fireThreshold : Int) - 100) } else r := by
  refine List.map_congr_left fun r _ => ?_
  cases kind : r.kind <;> simp [StageKind.heats, clampTarget]

/-- A joined IDLE cycle is READY, with its report. -/
theorem enterReady_joined (stored : List StageRec) (idle : s.cpx.cycle = .idle) :
    enterCycle .ready (setPlan (s.cpx.plan ++ stored) s) =
      report .cpx .info 0x50 [1, 2, 0]
        (s.updCpx fun c =>
          { c with plan := c.plan ++ stored, digest := crc16 ((c.plan ++ stored).flatMap stageBytes), cycle := .ready }) := by
  have code : u8 (setPlan (s.cpx.plan ++ stored) s).cpx.cycle.code = [1] := by
    rw [show (setPlan (s.cpx.plan ++ stored) s).cpx.cycle = s.cpx.cycle from rfl, idle]
    rfl
  rw [enterCycle, reportChange, code]
  rfl

/-- Settles O15: PLAN_APPEND by its checks, its records read back from their bytes. -/
theorem planAppendJoinsTheTail : Obligations.PlanAppendJoinsTheTail := by
  refine ⟨fun tag records f s some few fits due => ?_, fun tag before bad after k f s pass badLength unknown afterLength few due
    notFaulted notDone room none => ?_⟩
  · have count : (records.flatMap stageBytes).length / 20 = records.length := by
      rw [flatMap_length stageBytes_length]
      omega
    have admitted : lengthAllowed 0x20 (records.flatMap stageBytes).length = true := by
      rw [flatMap_length stageBytes_length]
      generalize records.length = n at some few
      interval_cases n <;> rfl
    have cut : chunks 20 records.length (records.flatMap stageBytes) = records.map stageBytes := chunks_encoded stageBytes_length records
    have run : exec (.planAppend tag (records.flatMap stageBytes)) s =
        .next (answered 0x20 tag (ownPlanAppend (records.flatMap stageBytes) (atOwner f s)).2.payload
          (ownPlanAppend (records.flatMap stageBytes) (atOwner f s)).1) := congrArg _ (serve_due due admitted)
    rw [run]
    generalize atOwner f s = u
    refine ⟨fun rests => ?_, fun notFaulted notDone => ⟨fun full => ?_, fun room => ⟨fun final => ?_, fun none => ⟨fun i field early fault => ?_,
      fun pass notStarved stored clamped => ?_⟩⟩⟩⟩
    · rw [ownPlanAppend_badState rests]
      rfl
    · rw [ownPlanAppend_full count notFaulted notDone full]
      rfl
    · rw [ownPlanAppend_finalSeen count notFaulted notDone room final]
      rfl
    · rw [ownPlanAppend_badField count notFaulted notDone room none (by rw [cut]; exact checkStages_firstFault fits i early fault)]
      rfl
    · have nonempty : records ≠ [] := List.ne_nil_of_length_pos some
      rw [ownPlanAppend_joined count notFaulted notDone room none (by rw [cut]; exact checkStages_encoded fits nonempty pass) notStarved]
      dsimp only
      rw [clampedTargets_eq, ← clamped, clampedReply]
      refine ⟨fun notIdle => ?_, fun idle => ?_⟩
      · rw [if_neg notIdle]
        rfl
      · rw [if_pos idle, enterReady_joined stored idle]
  · have beforeLength : (before.flatMap stageBytes).length = 20 * before.length := flatMap_length stageBytes_length before
    have length : (before.flatMap stageBytes ++ bad ++ after).length = 20 * (before.length + (1 + k)) := by
      rw [List.length_append, List.length_append, beforeLength, badLength, afterLength]
      omega
    have admitted : lengthAllowed 0x20 (before.flatMap stageBytes ++ bad ++ after).length = true := by
      rw [length]
      generalize sum : before.length + (1 + k) = n
      have some : 1 ≤ n := by omega
      have top : n ≤ 4 := by omega
      interval_cases n <;> rfl
    have cut : chunks 20 (before.length + (1 + k)) (before.flatMap stageBytes ++ bad ++ after) =
        before.map stageBytes ++ bad :: chunks 20 k after := by
      rw [List.append_assoc, chunks_flatMap stageBytes_length, Nat.add_comm 1 k, chunks, List.take_left' badLength,
        List.drop_left' badLength]
    have refused := (checkStages_behind (fun r mem => pass r mem) (List.cons_ne_nil bad (chunks 20 k after)) 1).1 _
      (checkStages_unknownKind (stageOf_unknownKind unknown) _ _)
    have run : exec (.planAppend tag (before.flatMap stageBytes ++ bad ++ after)) s =
        .next (answered 0x20 tag (ownPlanAppend (before.flatMap stageBytes ++ bad ++ after) (atOwner f s)).2.payload
          (ownPlanAppend (before.flatMap stageBytes ++ bad ++ after) (atOwner f s)).1) := congrArg _ (serve_due due admitted)
    have count : (before.flatMap stageBytes ++ bad ++ after).length / 20 = before.length + (1 + k) := by
      rw [length]
      omega
    rw [run, ownPlanAppend_badField count notFaulted notDone (by omega) none (by rw [cut]; exact refused), Nat.add_comm 1]
    rfl

end Sys2Proof.Machine
end

section
/-! SUPPORT. HSTG's operations on the elements, each as what it does to a list of them at once: O32, O33 and O34. -/

namespace Sys2Proof.Machine

variable {s t : State}

/-! ### The element records -/

theorem Elements.ext_get {t u : Elements} (h : ∀ e, t.get e = u.get e) : t = u := by
  obtain ⟨r1, r2, r3, r4⟩ := t
  obtain ⟨q1, q2, q3, q4⟩ := u
  have h1 : r1 = q1 := h .e1
  have h2 : r2 = q2 := h .e2
  have h3 : r3 = q3 := h .e3
  have h4 : r4 = q4 := h .e4
  rw [h1, h2, h3, h4]

/-- The records of a list of elements rewritten, the others kept. -/
def elementsMoved (record : Element → ElementRec → ElementRec) (l : List Element) (t : Elements) : Elements :=
  ⟨if .e1 ∈ l then record .e1 t.r1 else t.r1, if .e2 ∈ l then record .e2 t.r2 else t.r2,
    if .e3 ∈ l then record .e3 t.r3 else t.r3, if .e4 ∈ l then record .e4 t.r4 else t.r4⟩

theorem elementsMoved_get (record : Element → ElementRec → ElementRec) (l : List Element) (t : Elements) (e : Element) :
    (elementsMoved record l t).get e = if e ∈ l then record e (t.get e) else t.get e := by cases e <;> rfl

theorem elementsMoved_nil (record : Element → ElementRec → ElementRec) (t : Elements) : elementsMoved record [] t = t :=
  Elements.ext_get fun e => by rw [elementsMoved_get, if_neg List.not_mem_nil]

theorem elementsMoved_cons {record : Element → ElementRec → ElementRec} {e : Element} {l : List Element} (apart : e ∉ l) (t : Elements) :
    elementsMoved record l (t.set e (record e (t.get e))) = elementsMoved record (e :: l) t := by
  refine Elements.ext_get fun e' => ?_
  rw [elementsMoved_get, elementsMoved_get, Elements.get_set]
  by_cases same : e' = e
  · subst same
    rw [if_neg apart, if_pos rfl, if_pos List.mem_cons_self]
  · rw [if_neg same]
    simp only [List.mem_cons, same, false_or]

/-! ### One step on an element, and a list of them -/

/-- HSTG's records, on-order list and pointer as given, with messages handed to SAA. -/
def heatMoved (elements : Elements) (onOrder : List Element) (pointer : Element) (sent : List HstgMsg) (s : State) : State :=
  { s with
    hstg := { s.hstg with elements := elements, onOrder := onOrder, pointer := pointer }
    paths := { s.paths with hstgToSaa := s.paths.hstgToSaa ++ sent } }

/-- What an operation does to the element it acts on. -/
structure HeatStep where
  record : Element → ElementRec → ElementRec
  erases : ElementRec → Bool
  pointer : Element → Element → Element
  sent : Element → ElementRec → List HstgMsg

/-- The operation on one element. -/
def HeatStep.act (k : HeatStep) (e : Element) (s : State) : State :=
  heatMoved (s.hstg.elements.set e (k.record e (s.elem e))) (if k.erases (s.elem e) then s.hstg.onOrder.erase e else s.hstg.onOrder)
    (k.pointer e s.hstg.pointer) (k.sent e (s.elem e)) s

theorem heatMoved_heatMoved (elements elements' : Elements) (order order' : List Element) (pointer pointer' : Element)
    (sent sent' : List HstgMsg) (s : State) :
    heatMoved elements' order' pointer' sent' (heatMoved elements order pointer sent s) =
      heatMoved elements' order' pointer' (sent ++ sent') s := by
  simp only [heatMoved, List.append_assoc]

theorem heatMoved_same (s : State) : heatMoved s.hstg.elements s.hstg.onOrder s.hstg.pointer [] s = s := by
  simp only [heatMoved, List.append_nil]

/-- An operation acting on distinct elements in turn acts on all of them at once. -/
theorem HeatStep.foldl_act (k : HeatStep) {op : Element → State → State} {p : Profile} (acts : ∀ e u, u.profile = p → op e u = k.act e u)
    {l : List Element} (distinct : l.Nodup) (s : State) (profile : s.profile = p) :
    l.foldl (fun s e => op e s) s =
      heatMoved (elementsMoved k.record l s.hstg.elements) (s.hstg.onOrder.diff (l.filter fun e => k.erases (s.elem e)))
        (l.foldl (fun pointer e => k.pointer e pointer) s.hstg.pointer) (l.flatMap fun e => k.sent e (s.elem e)) s := by
  induction l generalizing s with
  | nil =>
    rw [elementsMoved_nil]
    exact (heatMoved_same s).symm
  | cons e l ih =>
    obtain ⟨apart, distinct⟩ := List.nodup_cons.mp distinct
    have others : ∀ e' ∈ l, (k.act e s).elem e' = s.elem e' := fun e' mem =>
      Elements.get_set_ne _ _ fun same => apart (same ▸ mem)
    rw [List.foldl_cons, acts e s profile, ih distinct (k.act e s) profile]
    have erased : (l.filter fun e' => k.erases ((k.act e s).elem e')) = l.filter fun e' => k.erases (s.elem e') :=
      List.filter_congr fun e' mem => by rw [others e' mem]
    have handed : (l.flatMap fun e' => k.sent e' ((k.act e s).elem e')) = l.flatMap fun e' => k.sent e' (s.elem e') :=
      List.flatMap_congr fun e' mem => by rw [others e' mem]
    rw [erased, handed]
    have records : elementsMoved k.record l (k.act e s).hstg.elements = elementsMoved k.record (e :: l) s.hstg.elements :=
      elementsMoved_cons apart s.hstg.elements
    have order : (k.act e s).hstg.onOrder.diff (l.filter fun e' => k.erases (s.elem e')) =
        s.hstg.onOrder.diff ((e :: l).filter fun e' => k.erases (s.elem e')) := by
      rw [List.filter_cons]
      by_cases erases : k.erases (s.elem e) = true
      · rw [if_pos erases, List.diff_cons, HeatStep.act, heatMoved, if_pos erases]
      · rw [if_neg erases, HeatStep.act, heatMoved, if_neg erases]
    rw [records, order, List.flatMap_cons, List.foldl_cons]
    exact heatMoved_heatMoved ..

theorem Elements.set_get (t : Elements) (e : Element) : t.set e (t.get e) = t := by cases e <;> rfl

/-- The step that leaves an element as it is. -/
theorem heatMoved_unmoved (e : Element) (s : State) :
    s = heatMoved (s.hstg.elements.set e (s.elem e)) s.hstg.onOrder s.hstg.pointer [] s := by
  rw [State.elem, Elements.set_get, heatMoved_same]

/-! ### The operations as steps -/

/-- A WAIT_GRANT element dropped (R98 pass 1). -/
def dropStep : HeatStep :=
  ⟨fun _ r => { r with state := .offReady, requested := false }, fun _ => false, fun _ pointer => pointer,
    fun e r => if r.requested then [.withdrawal e] else []⟩

/-- An energized element switched off (R98 pass 2, R104). -/
def offStep (cause : OffCause) (p : Profile) : HeatStep :=
  ⟨fun _ r => { r with state := .offHold, requested := false, lastOff := cause, minOn := none, minOff := some (p.minOff * 1000) },
    fun _ => true, fun _ pointer => pointer, fun e _ => [.release e]⟩

/-- An OFF_READY element chosen (R99). -/
def chooseStep (p : Profile) : HeatStep :=
  ⟨fun _ r => { r with state := .waitGrant, requested := true }, fun _ => false,
    fun e pointer => if rotates p then nextElement e else pointer, fun e _ => [.request e (Profile.current p e)]⟩

/-- A stop of one element (R104). -/
def stopStep (p : Profile) : HeatStep :=
  ⟨fun _ r =>
      if r.state.energized then
        { r with state := .offHold, requested := false, lastOff := .stop, minOn := none, minOff := some (p.minOff * 1000) }
      else if r.state = .waitGrant then { r with state := .offReady, requested := false } else r,
    fun r => r.state.energized, fun _ pointer => pointer,
    fun e r => if r.state.energized then [.release e] else if r.state = .waitGrant ∧ r.requested then [.withdrawal e] else []⟩

theorem HeatStep.act_congr {k k' : HeatStep} {e : Element} (record : k.record e (s.elem e) = k'.record e (s.elem e))
    (erases : k.erases (s.elem e) = k'.erases (s.elem e)) (pointer : k.pointer e s.hstg.pointer = k'.pointer e s.hstg.pointer)
    (sent : k.sent e (s.elem e) = k'.sent e (s.elem e)) : k.act e s = k'.act e s := by
  unfold HeatStep.act
  rw [record, erases, pointer, sent]

theorem dropWaiting_act (e : Element) (s : State) : dropWaiting e s = dropStep.act e s := by
  unfold dropWaiting HeatStep.act dropStep
  by_cases requested : (s.elem e).requested = true
  · simp only [if_pos requested]
    rfl
  · simp only [if_neg requested, heatMoved, List.append_nil]
    rfl

theorem switchOff_act (cause : OffCause) (e : Element) (s : State) : switchOff cause e s = (offStep cause s.profile).act e s := rfl

theorem choose_act (e : Element) (s : State) : choose e s = (chooseStep s.profile).act e s := by
  have twice (r : ElementRec) : (s.hstg.elements.set e r).get e = r := Elements.get_set_same _ e r
  have set_set (r q : ElementRec) : (s.hstg.elements.set e r).set e q = s.hstg.elements.set e q := by cases e <;> rfl
  unfold choose requestElement State.updElem HeatStep.act chooseStep
  dsimp only
  by_cases rotate : rotates s.profile = true
  · rw [if_pos (by exact rotate)]
    simp only [State.updHstg, sendToSaa, State.updPaths, heatMoved, twice, set_set, if_pos rotate]
    rfl
  · rw [if_neg (by exact rotate)]
    simp only [State.updHstg, sendToSaa, State.updPaths, heatMoved, twice, set_set, if_neg rotate]
    rfl

theorem stopElement_act (e : Element) (s : State) : stopElement e s = (stopStep s.profile).act e s := by
  have rests (on : (s.elem e).state.energized = false) (waits : (s.elem e).state ≠ .waitGrant) : s = (stopStep s.profile).act e s := by
    simpa only [HeatStep.act, stopStep, on, waits, Bool.false_eq_true, if_false, false_and] using heatMoved_unmoved e s
  unfold stopElement
  cases state : (s.elem e).state with
  | onHold | onFree =>
    rw [switchOff_act]
    exact HeatStep.act_congr (by simp [offStep, stopStep, state, ElementState.energized]) (by simp [offStep, stopStep, state, ElementState.energized])
      rfl (by simp [offStep, stopStep, state, ElementState.energized])
  | waitGrant =>
    rw [dropWaiting_act]
    exact HeatStep.act_congr (by simp [dropStep, stopStep, state, ElementState.energized]) (by simp [dropStep, stopStep, state, ElementState.energized])
      rfl (by simp [dropStep, stopStep, state, ElementState.energized])
  | offHold | offReady | absent => exact rests (by rw [state]; rfl) (by rw [state]; simp)

/-! ### A stop (R104) -/

/-- A stop acts on every element at once. -/
theorem hstgStop_eq (fromCycle : Bool) (s : State) :
    hstgStop fromCycle s =
      heatMoved (elementsMoved (stopStep s.profile).record allElements s.hstg.elements)
        (s.hstg.onOrder.diff (allElements.filter fun e => (s.elem e).state.energized)) s.hstg.pointer
        (allElements.flatMap fun e => (stopStep s.profile).sent e (s.elem e))
        ((if fromCycle then setHeatEnable false s else s).updHstg fun h => { h with demand := 0 }) := by
  have acts (u : State) := (stopStep u.profile).foldl_act (op := stopElement) (p := u.profile)
    (fun e v profile => by rw [stopElement_act, profile]) allElements_nodup u rfl
  unfold hstgStop
  dsimp only
  rw [acts]
  cases fromCycle with
  | false => rfl
  | true =>
    rw [if_pos rfl]
    have elements : (setHeatEnable false s).hstg.elements = s.hstg.elements := setHeatEnable_elements false s
    have order : (setHeatEnable false s).hstg.onOrder = s.hstg.onOrder := setHeatEnable_onOrder false s
    have pointer : (setHeatEnable false s).hstg.pointer = s.hstg.pointer := by rw [setHeatEnable_hstg]; split <;> rfl
    simp only [State.elem, State.updHstg_hstg, elements, order, pointer]
    rfl

theorem hstgStop_elem (fromCycle : Bool) (s : State) (e : Element) :
    (hstgStop fromCycle s).elem e = (stopStep s.profile).record e (s.elem e) := by
  rw [hstgStop_eq]
  exact (elementsMoved_get _ _ _ e).trans (if_pos (mem_allElements e))

theorem activeCount_zero {h : Hstg} (none : ∀ e, (h.elements.get e).state.counted = false) : activeCount h = 0 := by
  unfold activeCount
  rw [List.length_eq_zero_iff, List.filter_eq_nil_iff]
  exact fun e _ => by simp [none e]

/-- Settles O34: a stop is the stop of each element at once, with the demand and heat-enable of its source. -/
theorem stopTakesAllHeatAway : Obligations.StopTakesAllHeatAway := by
  rintro fromCycle s _ rfl
  obtain ⟨enable, demand⟩ := hstgStop_settings fromCycle s
  refine ⟨demand, ?_, fun e => ⟨fun on => ?_, fun waits => ?_, fun off => ?_⟩, fun sound => ?_,
    activeCount_zero (hstgStop_not_counted fromCycle s), ?_, ?_, ?_, ?_, by simp, by simp, by simp, by simp, by simp, by simp, by simp,
    by simp⟩
  · rw [enable]
    cases fromCycle <;> rfl
  · rw [hstgStop_elem]
    exact if_pos on
  · rw [hstgStop_elem]
    exact (if_neg (by rw [waits]; decide)).trans (if_pos waits)
  · rw [hstgStop_elem]
    have notOn : ¬ (s.elem e).state.energized = true := by
      rw [ElementState.energized_of_not_counted off]
      exact Bool.false_ne_true
    have notWaiting : (s.elem e).state ≠ .waitGrant := fun waits => by rw [waits] at off; cases off
    exact (if_neg notOn).trans (if_neg notWaiting)
  · rw [hstgStop_eq]
    refine List.eq_nil_iff_forall_not_mem.mpr fun e mem => ?_
    obtain ⟨distinct, holds⟩ := sound
    obtain ⟨held, kept⟩ := (List.Nodup.mem_sdiff_iff distinct).mp mem
    exact kept (List.mem_filter.mpr ⟨mem_allElements e, (holds e).mp held⟩)
  · rw [hstgStop_eq]
    rfl
  · rw [hstgStop_eq]
    cases fromCycle with
    | false => rfl
    | true =>
      change (setHeatEnable false s).hstg.settings = _
      rw [setHeatEnable_hstg]
      split <;> rfl
  · rw [hstgStop_eq]
    cases fromCycle <;> rfl
  · rw [hstgStop_eq]
    cases fromCycle <;> rfl

/-! ### Grants, sheds and holds (R100 to R103, R106) -/

theorem takeGrant_energizes {e : Element} (waits : (s.elem e).state = .waitGrant) (asked : (s.elem e).requested = true)
    (gate : energizeGate s.atu = true) : takeGrant e s = energize e s := by simp [takeGrant, waits, asked, gate]

theorem takeGrant_heldBack {e : Element} (waits : (s.elem e).state = .waitGrant) (asked : (s.elem e).requested = true)
    (gate : energizeGate s.atu = false) :
    takeGrant e s = sendToSaa (.release e) (s.updElem e fun r => { r with requested := false }) := by
  simp [takeGrant, waits, asked, gate]

theorem takeGrant_handedBack {e : Element} (h : ¬ ((s.elem e).state = .waitGrant ∧ (s.elem e).requested = true)) :
    takeGrant e s = sendToSaa (.release e) s := if_neg h

theorem takeShed_off {e : Element} {cause : OffCause}
    (h : (s.elem e).state = .onFree ∧ cause = .shed ∨ (s.elem e).state = .onHold ∧ cause = .forced) :
    takeShed e s = applyDemand (deenergize cause e s) := by
  obtain ⟨state, rfl⟩ | ⟨state, rfl⟩ := h <;> simp only [takeShed, state]

theorem takeShed_ignored {e : Element} (off : (s.elem e).state.energized = false) : takeShed e s = s := by
  cases state : (s.elem e).state <;> simp_all [takeShed, ElementState.energized]

/-- Settles O32: each message and each expiry acts by the element's state. -/
theorem stagerTakesGrantsShedsAndHolds : Obligations.StagerTakesGrantsShedsAndHolds := by
  rintro e s rest _ rfl
  refine ⟨fun head => ?_, fun head => ?_, fun timer holds v after => ?_, fun timer rests => ?_⟩
  · have run : exec (.elementGrant e) s = .next (takeGrant e (s.updPaths fun p => { p with saaToHstg := rest })) :=
      congrArg Host.Outcome.next (takeSaaMsg_due head)
    rw [run]
    refine ⟨fun waits asked gate => ?_, fun waits asked gate => ?_, fun handedBack => ?_⟩
    · rw [takeGrant_energizes (s := s.updPaths _) waits asked gate]
      rfl
    · rw [takeGrant_heldBack (s := s.updPaths _) waits asked gate]
      rfl
    · rw [takeGrant_handedBack (s := s.updPaths _) handedBack]
      rfl
  · have run : exec (.shed e) s = .next (takeShed e (s.updPaths fun p => { p with saaToHstg := rest })) :=
      congrArg Host.Outcome.next (takeSaaMsg_due head)
    rw [run]
    refine ⟨fun cause on => ?_, fun off => ?_⟩
    · rw [takeShed_off (s := s.updPaths _) on]
      rfl
    · rw [takeShed_ignored (s := s.updPaths _) off]
  · have run : exec (.minOnExpiry e) s = .next (minOnExpires e s) := rfl
    have due : (s.elem e).minOn.isSome ∧ (s.elem e).state = .onHold := ⟨Option.isSome_iff_ne_none.mpr timer, holds⟩
    have expired : minOnExpires e s = if (v.elem e).state = .onFree then sendToSaa (.onFree e) v else v := by
      subst after
      exact if_pos due
    rw [run, expired]
    refine ⟨fun free => ?_, fun other => ?_⟩
    · rw [if_pos free]
      rfl
    · rw [if_neg other]
  · have due : (s.elem e).minOff.isSome ∧ (s.elem e).state = .offHold := ⟨Option.isSome_iff_ne_none.mpr timer, rests⟩
    exact congrArg Host.Outcome.next (if_pos due)

end Sys2Proof.Machine
end

section
/-! SUPPORT. Demand applied: what a lack chooses and what an excess takes: O33. -/

namespace Sys2Proof.Machine

variable {s t : State}

/-! ### The elements a lack chooses and an excess takes -/

/-- The elements chosen for a lack (R99). -/
def chosenElements (s : State) : List Element := (choosingOrder s.profile s.hstg).take (s.hstg.demand - activeCount s.hstg)

/-- The waiting elements an excess drops (R98 pass 1). -/
def droppedElements (s : State) : List Element := (waitingDown s.hstg).take (activeCount s.hstg - s.hstg.demand)

/-- The elements an excess switches off (R98 pass 2). -/
def offElements (s : State) : List Element :=
  (switchOffOrder s.profile s.hstg).take (activeCount s.hstg - s.hstg.demand - (droppedElements s).length)

theorem mem_chosenElements {e : Element} (h : e ∈ chosenElements s) : (s.elem e).state = .offReady := by
  exact of_decide_eq_true (List.mem_filter.mp (List.mem_of_mem_take h)).2

theorem mem_droppedElements {e : Element} (h : e ∈ droppedElements s) : (s.elem e).state = .waitGrant := by
  exact of_decide_eq_true (List.mem_filter.mp (List.mem_of_mem_take h)).2

theorem mem_offElements {e : Element} (h : e ∈ offElements s) : (s.elem e).state = .onFree := by
  exact of_decide_eq_true (List.mem_filter.mp (List.mem_of_mem_take h)).2

theorem mem_scanFrom (e e' : Element) : e' ∈ scanFrom e := by cases e <;> cases e' <;> decide

theorem chosenElements_nodup (s : State) : (chosenElements s).Nodup := by
  refine (List.Nodup.filter _ ?_).sublist (List.take_sublist _ _)
  split
  · exact scanFrom_nodup _
  · exact allElements_nodup

theorem droppedElements_nodup (s : State) : (droppedElements s).Nodup :=
  (List.Nodup.filter _ (List.nodup_reverse.mpr allElements_nodup)).sublist (List.take_sublist _ _)

theorem offElements_nodup (distinct : s.hstg.onOrder.Nodup) : (offElements s).Nodup := by
  refine (List.Nodup.filter _ ?_).sublist (List.take_sublist _ _)
  split
  · exact distinct
  · exact List.nodup_reverse.mpr allElements_nodup

theorem rotates_iff (p : Profile) : rotates p = true ↔ p.policy = 2 := decide_eq_true_iff

theorem rotates_ite {α : Type} (p : Profile) (a b : α) : (if rotates p then a else b) = if p.policy = 2 then a else b := by
  by_cases rotate : p.policy = 2
  · rw [if_pos rotate, if_pos ((rotates_iff p).mpr rotate)]
  · rw [if_neg rotate, if_neg fun h => rotate ((rotates_iff p).mp h)]

theorem chosenElements_eq (s : State) :
    chosenElements s = ((if s.profile.policy = 2 then scanFrom s.hstg.pointer else allElements).filter
      fun e => decide ((s.elem e).state = .offReady)).take (s.hstg.demand - activeCount s.hstg) := by
  rw [chosenElements, choosingOrder, rotates_ite]
  rfl

theorem offElements_eq (s : State) :
    offElements s = ((if s.profile.policy = 2 then s.hstg.onOrder else allElements.reverse).filter
      fun e => decide ((s.elem e).state = .onFree)).take (activeCount s.hstg - s.hstg.demand - (droppedElements s).length) := by
  rw [offElements, switchOffOrder, rotates_ite]
  rfl

/-! ### Demand applied (R97 to R99) -/

theorem applyDemand_met (h : s.hstg.demand = activeCount s.hstg) : applyDemand s = s := by
  simp [applyDemand, h]

/-- The pointer after a list of choices is past the last one (R93). -/
theorem choose_pointer (p : Profile) (l : List Element) (start : Element) :
    l.foldl (fun pointer e => (chooseStep p).pointer e pointer) start =
      if p.policy = 2 then (l.getLast?.map nextElement).getD start else start := by
  rw [← rotates_ite]
  cases rotate : rotates p with
  | false =>
    rw [if_neg Bool.false_ne_true]
    induction l with
    | nil => rfl
    | cons e l ih => exact (congrArg (l.foldl _) (by simp [chooseStep, rotate])).trans ih
  | true =>
    rw [if_pos rfl]
    induction l using List.reverseRecOn with
    | nil => rfl
    | append_singleton l e _ => simp [chooseStep, rotate]

/-- A lack chooses its elements at once. -/
theorem applyDemand_lack (h : activeCount s.hstg < s.hstg.demand) :
    applyDemand s =
      heatMoved (elementsMoved (chooseStep s.profile).record (chosenElements s) s.hstg.elements) s.hstg.onOrder
        (if s.profile.policy = 2 then ((chosenElements s).getLast?.map nextElement).getD s.hstg.pointer else s.hstg.pointer)
        ((chosenElements s).map fun e => .request e (Profile.current s.profile e)) s := by
  have chosen : applyDemand s = (chosenElements s).foldl (fun s e => choose e s) s := by
    rw [applyDemand]
    rw [if_neg (by omega), if_pos h]
    rfl
  rw [chosen, (chooseStep s.profile).foldl_act (p := s.profile) (fun e u profile => by rw [choose_act, profile])
    (chosenElements_nodup s) s rfl, choose_pointer]
  have unerased : ((chosenElements s).filter fun e => (chooseStep s.profile).erases (s.elem e)) = [] := List.filter_false _
  have requests : ((chosenElements s).flatMap fun e => (chooseStep s.profile).sent e (s.elem e)) =
      (chosenElements s).map fun e => .request e (Profile.current s.profile e) := List.flatMap_pure_eq_map _ _
  rw [unerased, requests, List.diff_nil]

/-- The state after pass 1 of an excess. -/
theorem dropWaiting_foldl (s : State) :
    (droppedElements s).foldl (fun s e => dropWaiting e s) s =
      heatMoved (elementsMoved dropStep.record (droppedElements s) s.hstg.elements) s.hstg.onOrder s.hstg.pointer
        ((droppedElements s).flatMap fun e => if (s.elem e).requested = true then [.withdrawal e] else []) s := by
  rw [dropStep.foldl_act (p := s.profile) (fun e u _ => dropWaiting_act e u) (droppedElements_nodup s) s rfl]
  have unerased : ((droppedElements s).filter fun e => dropStep.erases (s.elem e)) = [] := List.filter_false _
  have pointer : (droppedElements s).foldl (fun pointer e => dropStep.pointer e pointer) s.hstg.pointer = s.hstg.pointer :=
    List.foldl_fixed _
  rw [unerased, pointer, List.diff_nil]
  rfl

/-- An excess takes its elements at once: the waiting ones, then the free ones. -/
theorem applyDemand_excess (h : s.hstg.demand < activeCount s.hstg) (distinct : (offElements s).Nodup) :
    applyDemand s =
      heatMoved
        (elementsMoved (offStep .normal s.profile).record (offElements s)
          (elementsMoved dropStep.record (droppedElements s) s.hstg.elements))
        (s.hstg.onOrder.diff (offElements s)) s.hstg.pointer
        (((droppedElements s).flatMap fun e => if (s.elem e).requested = true then [.withdrawal e] else []) ++
          (offElements s).map .release) s := by
  obtain ⟨u, dropped⟩ : ∃ u, u = (droppedElements s).foldl (fun s e => dropWaiting e s) s := ⟨_, rfl⟩
  have removed : applyDemand s =
      ((switchOffOrder u.profile u.hstg).take (activeCount s.hstg - s.hstg.demand - (droppedElements s).length)).foldl
        (fun s e => switchOff .normal e s) u := by
    rw [applyDemand]
    rw [if_pos h, dropped]
    rfl
  rw [dropWaiting_foldl] at dropped
  have order : switchOffOrder u.profile u.hstg = switchOffOrder s.profile s.hstg := by
    subst dropped
    unfold switchOffOrder
    refine List.filter_congr fun e _ => ?_
    have record : (elementsMoved dropStep.record (droppedElements s) s.hstg.elements).get e =
      if e ∈ droppedElements s then dropStep.record e (s.elem e) else s.elem e := elementsMoved_get ..
    change decide (((elementsMoved dropStep.record (droppedElements s) s.hstg.elements).get e).state = .onFree) = _
    rw [record]
    split
    · next waits =>
      rw [← State.elem, mem_droppedElements waits]
      rfl
    · rfl
  have profile : u.profile = s.profile := by rw [dropped]; rfl
  rw [removed, order]
  change (offElements s).foldl (fun s e => switchOff .normal e s) u = _
  rw [(offStep .normal s.profile).foldl_act (p := s.profile) (fun e v same => by rw [switchOff_act, same]) distinct u profile]
  have erased (v : State) : ((offElements s).filter fun e => (offStep .normal s.profile).erases (v.elem e)) = offElements s :=
    List.filter_true _
  have pointer (start : Element) :
      (offElements s).foldl (fun pointer e => (offStep .normal s.profile).pointer e pointer) start = start := List.foldl_fixed _
  have released (v : State) : ((offElements s).flatMap fun e => (offStep .normal s.profile).sent e (v.elem e)) =
      (offElements s).map .release := List.flatMap_pure_eq_map _ _
  rw [erased, pointer, released, dropped]
  exact heatMoved_heatMoved ..

/-! ### The records, the order and the messages after it -/

theorem lack_elem (h : activeCount s.hstg < s.hstg.demand) (e : Element) :
    (applyDemand s).elem e = if e ∈ chosenElements s then { s.elem e with state := .waitGrant, requested := true } else s.elem e := by
  rw [applyDemand_lack h]
  exact elementsMoved_get ..

theorem excess_elem (h : s.hstg.demand < activeCount s.hstg) (distinct : (offElements s).Nodup) (e : Element) :
    (applyDemand s).elem e =
      if e ∈ droppedElements s then { s.elem e with state := .offReady, requested := false }
      else if e ∈ offElements s then
        { s.elem e with
          state := .offHold, requested := false, lastOff := .normal, minOn := none, minOff := some (s.profile.minOff * 1000) }
      else s.elem e := by
  rw [applyDemand_excess h distinct]
  refine (elementsMoved_get ..).trans ?_
  rw [elementsMoved_get]
  by_cases waits : e ∈ droppedElements s
  · have notFree : e ∉ offElements s := fun free => by
      have := mem_offElements free
      rw [mem_droppedElements waits] at this
      cases this
    rw [if_neg notFree, if_pos waits, if_pos waits]
    rfl
  · rw [if_neg waits, if_neg waits]
    rfl

/-! ### How many there are -/

theorem length_filter_or {p q : Element → Bool} {l : List Element} (apart : ∀ e ∈ l, q e = true → p e = false) :
    (l.filter fun e => q e || p e).length = (l.filter q).length + (l.filter p).length := by
  induction l with
  | nil => rfl
  | cons e l ih =>
    rw [List.forall_mem_cons] at apart
    have rest := ih apart.2
    cases new : q e <;> cases old : p e <;> simp [new, old] at rest ⊢
    · exact rest
    · omega
    · omega
    · exact absurd (apart.1 new) (by simp [old])

/-- A list of distinct elements is as long as its filter of all elements. -/
theorem length_filter_mem {l : List Element} (distinct : l.Nodup) : (allElements.filter fun e => decide (e ∈ l)).length = l.length :=
  ((List.perm_ext_iff_of_nodup (allElements_nodup.filter _) distinct).mpr fun e => by simp [mem_allElements]).length_eq

theorem length_filter_states (st : ElementState) {l : List Element} (distinct : l.Nodup) (all : ∀ e, (s.elem e).state = st → e ∈ l) :
    (l.filter fun e => decide ((s.elem e).state = st)).length = (allElements.filter fun e => decide ((s.elem e).state = st)).length :=
  ((List.perm_ext_iff_of_nodup (distinct.filter _) (allElements_nodup.filter _)).mpr fun e => by
    simpa [mem_allElements] using all e).length_eq

/-- The active count by the three states that count (R97). -/
theorem activeCount_states (s : State) :
    activeCount s.hstg = (allElements.filter fun e => decide ((s.elem e).state = .waitGrant)).length +
      ((allElements.filter fun e => decide ((s.elem e).state = .onFree)).length +
        (allElements.filter fun e => decide ((s.elem e).state = .onHold)).length) := by
  rw [← length_filter_or, ← length_filter_or]
  · refine congrArg List.length (List.filter_congr fun e _ => ?_)
    change (s.elem e).state.counted = _
    cases (s.elem e).state <;> decide
  · intro e _ waits
    simp only [decide_eq_true_eq] at waits
    simp [waits]
  · intro e _ free
    simp only [decide_eq_true_eq] at free
    simp [free]

theorem chosenElements_length (s : State) :
    (chosenElements s).length =
      min (s.hstg.demand - activeCount s.hstg) (allElements.filter fun e => decide ((s.elem e).state = .offReady)).length := by
  rw [chosenElements_eq, List.length_take]
  congr 1
  split
  · exact length_filter_states .offReady (scanFrom_nodup _) fun e _ => mem_scanFrom _ e
  · rfl

theorem droppedElements_length (s : State) :
    (droppedElements s).length =
      min (activeCount s.hstg - s.hstg.demand) (allElements.filter fun e => decide ((s.elem e).state = .waitGrant)).length := by
  rw [droppedElements, List.length_take]
  congr 1
  exact length_filter_states .waitGrant (List.nodup_reverse.mpr allElements_nodup) fun e _ => List.mem_reverse.mpr (mem_allElements e)

theorem offElements_length (sound : onOrderSound s) :
    (offElements s).length =
      min (activeCount s.hstg - s.hstg.demand - (droppedElements s).length)
        (allElements.filter fun e => decide ((s.elem e).state = .onFree)).length := by
  rw [offElements_eq, List.length_take]
  congr 1
  split
  · exact length_filter_states .onFree sound.1 fun e free => (sound.2 e).mpr (by rw [free]; rfl)
  · exact length_filter_states .onFree (List.nodup_reverse.mpr allElements_nodup) fun e _ => List.mem_reverse.mpr (mem_allElements e)

theorem activeCount_lack (h : activeCount s.hstg < s.hstg.demand) :
    activeCount (applyDemand s).hstg = (chosenElements s).length + activeCount s.hstg := by
  rw [← length_filter_mem (chosenElements_nodup s)]
  unfold activeCount
  rw [← length_filter_or]
  · refine congrArg List.length (List.filter_congr fun e _ => ?_)
    change ((applyDemand s).elem e).state.counted = _
    rw [lack_elem h]
    by_cases chosen : e ∈ chosenElements s <;> simp [chosen, ElementState.counted, State.elem]
  · intro e _ chosen
    rw [← State.elem, mem_chosenElements (of_decide_eq_true chosen)]
    rfl

theorem activeCount_excess (h : s.hstg.demand < activeCount s.hstg) (distinct : (offElements s).Nodup) :
    activeCount s.hstg = (droppedElements s).length + ((offElements s).length + activeCount (applyDemand s).hstg) := by
  rw [← length_filter_mem (droppedElements_nodup s), ← length_filter_mem distinct]
  have after (e : Element) := excess_elem h distinct e
  unfold activeCount
  rw [← length_filter_or, ← length_filter_or]
  · refine congrArg List.length (List.filter_congr fun e _ => ?_)
    change (s.elem e).state.counted = (_ || (_ || ((applyDemand s).elem e).state.counted))
    rw [after]
    by_cases waits : e ∈ droppedElements s
    · simp [waits, mem_droppedElements waits, ElementState.counted]
    · by_cases free : e ∈ offElements s
      · simp [free, mem_offElements free, ElementState.counted]
      · simp [waits, free]
  · intro e _ waits
    have waits := of_decide_eq_true waits
    have notFree : e ∉ offElements s := fun free => by
      have := mem_offElements free
      rw [mem_droppedElements waits] at this
      cases this
    rw [← State.elem, after, if_pos waits]
    simp [notFree, ElementState.counted]
  · intro e _ free
    have free := of_decide_eq_true free
    rw [← State.elem, after]
    split
    · rfl
    · rfl

/-! ### Demand applied over a sound on-order list -/

/-- A lack fills up to the elements in OFF_READY. -/
theorem activeCount_filled (h : activeCount s.hstg < s.hstg.demand) :
    activeCount (applyDemand s).hstg =
      min s.hstg.demand (activeCount s.hstg + (allElements.filter fun e => decide ((s.elem e).state = .offReady)).length) := by
  rw [activeCount_lack h, chosenElements_length]
  omega

/-- An excess leaves at most the elements in ON_HOLD above D. -/
theorem activeCount_reduced (h : s.hstg.demand < activeCount s.hstg) (sound : onOrderSound s) :
    activeCount (applyDemand s).hstg =
      max s.hstg.demand (allElements.filter fun e => decide ((s.elem e).state = .onHold)).length := by
  have count := activeCount_excess h (offElements_nodup sound.1)
  have states := activeCount_states s
  have dropped := droppedElements_length s
  have off := offElements_length sound
  omega

theorem applyDemand_state {e : Element} (sound : onOrderSound s)
    (h : (s.elem e).state ∈ [ElementState.onHold, .offHold, .absent]) : ((applyDemand s).elem e).state = (s.elem e).state := by
  have other {st : ElementState} (held : (s.elem e).state = st) : st ∈ [ElementState.onHold, .offHold, .absent] := held ▸ h
  obtain lack | met | excess := Nat.lt_trichotomy (activeCount s.hstg) s.hstg.demand
  · rw [lack_elem lack, if_neg fun chosen => absurd (other (mem_chosenElements chosen)) (by decide)]
  · rw [applyDemand_met met.symm]
  · rw [excess_elem excess (offElements_nodup sound.1),
      if_neg fun dropped => absurd (other (mem_droppedElements dropped)) (by decide),
      if_neg fun off => absurd (other (mem_offElements off)) (by decide)]

theorem applyDemand_form (sound : onOrderSound s) :
    ∃ elements onOrder pointer sent, applyDemand s = heatMoved elements onOrder pointer sent s := by
  obtain lack | met | excess := Nat.lt_trichotomy (activeCount s.hstg) s.hstg.demand
  · exact ⟨_, _, _, _, applyDemand_lack lack⟩
  · exact ⟨_, _, _, _, (applyDemand_met met.symm).trans (heatMoved_same s).symm⟩
  · exact ⟨_, _, _, _, applyDemand_excess excess (offElements_nodup sound.1)⟩

/-! ### A single element -/

/-- The first of a list that passes is the filter's first. -/
theorem filter_take_one {p : Element → Bool} {l : List Element} {e : Element} (mem : e ∈ l) (passes : p e = true)
    (first : ∀ e' ∈ l.takeWhile (· ≠ e), p e' = false) : (l.filter p).take 1 = [e] := by
  induction l with
  | nil => cases mem
  | cons a l ih =>
    by_cases same : a = e
    · subst same
      rw [List.filter_cons_of_pos passes]
      rfl
    · have ahead : (a :: l).takeWhile (· ≠ e) = a :: l.takeWhile (· ≠ e) := List.takeWhile_cons_of_pos (by simpa using same)
      rw [ahead, List.forall_mem_cons] at first
      rw [List.filter_cons_of_neg (by rw [first.1]; exact Bool.false_ne_true)]
      exact ih ((List.mem_cons.mp mem).resolve_left (Ne.symm same)) first.2

theorem chosenElements_single {e : Element} (lack : s.hstg.demand = activeCount s.hstg + 1) (ready : (s.elem e).state = .offReady)
    (first : ∀ e' ∈ (if s.profile.policy = 2 then scanFrom s.hstg.pointer else allElements).takeWhile (· ≠ e),
      (s.elem e').state ≠ .offReady) : chosenElements s = [e] := by
  have one : s.hstg.demand - activeCount s.hstg = 1 := by omega
  rw [chosenElements_eq, one]
  refine filter_take_one ?_ (decide_eq_true ready) fun e' mem => decide_eq_false (first e' mem)
  split
  · exact mem_scanFrom _ e
  · exact mem_allElements e

/-- A lack of one chooses that element. -/
theorem applyDemand_single {e : Element} (lack : s.hstg.demand = activeCount s.hstg + 1) (only : chosenElements s = [e]) :
    (applyDemand s).elem e = { s.elem e with state := .waitGrant, requested := true } ∧
      (applyDemand s).hstg.pointer = (if s.profile.policy = 2 then nextElement e else s.hstg.pointer) ∧
      (applyDemand s).paths.hstgToSaa = s.paths.hstgToSaa ++ [.request e (Profile.current s.profile e)] := by
  refine ⟨?_, ?_, ?_⟩
  · rw [lack_elem (by omega), only, if_pos List.mem_cons_self]
  · rw [applyDemand_lack (by omega), only]
    rfl
  · rw [applyDemand_lack (by omega), only]
    rfl

theorem offElements_single_nodup (excess : activeCount s.hstg = s.hstg.demand + 1) : (offElements s).Nodup := by
  have short : (offElements s).length ≤ 1 := by
    rw [offElements, List.length_take]
    omega
  match offElements s, short with
  | [], _ => exact List.nodup_nil
  | [e], _ => exact List.nodup_singleton e

theorem droppedElements_single {e : Element} (excess : activeCount s.hstg = s.hstg.demand + 1) (waits : (s.elem e).state = .waitGrant)
    (first : ∀ e' ∈ allElements.reverse.takeWhile (· ≠ e), (s.elem e').state ≠ .waitGrant) : droppedElements s = [e] := by
  have one : activeCount s.hstg - s.hstg.demand = 1 := by omega
  rw [droppedElements, one]
  exact filter_take_one (List.mem_reverse.mpr (mem_allElements e)) (decide_eq_true waits) fun e' mem => decide_eq_false (first e' mem)

theorem offElements_single {e : Element} (excess : activeCount s.hstg = s.hstg.demand + 1) (none : droppedElements s = [])
    (free : (s.elem e).state = .onFree) (ordered : e ∈ s.hstg.onOrder)
    (first : ∀ e' ∈ (if s.profile.policy = 2 then s.hstg.onOrder else allElements.reverse).takeWhile (· ≠ e),
      (s.elem e').state ≠ .onFree) : offElements s = [e] := by
  have one : activeCount s.hstg - s.hstg.demand - (droppedElements s).length = 1 := by rw [none, List.length_nil]; omega
  rw [offElements_eq, one]
  refine filter_take_one ?_ (decide_eq_true free) fun e' mem => decide_eq_false (first e' mem)
  split
  · exact ordered
  · exact List.mem_reverse.mpr (mem_allElements e)

/-- Settles O33: demand applied is what its lack chooses or its excess takes, counted over the four elements. -/
theorem appliedDemandChoosesByPolicy : Obligations.AppliedDemandChoosesByPolicy := by
  refine ⟨fun s sound => ⟨?demand, fun e held => applyDemand_state sound held, fun lack => ?filled, fun excess => ?reduced,
    applyDemand_form sound, applyDemand_met, fun chosen is lack => ?lack, fun x count waiting dropped off switched excess => ?excess⟩,
    fun s e => ⟨fun lack ready => ⟨fun fixed first => ?fixed, fun rotate first => ?rotate⟩,
      fun excess => ⟨fun waits asked first => ?waits, fun none free first ordered => ?free⟩⟩⟩
  case demand =>
    obtain ⟨_, _, _, _, form⟩ := applyDemand_form sound
    rw [form]
    rfl
  case filled =>
    obtain lt | met := Nat.lt_or_eq_of_le lack
    · exact activeCount_filled lt
    · rw [applyDemand_met met.symm]
      omega
  case reduced =>
    obtain lt | met := Nat.lt_or_eq_of_le excess
    · exact activeCount_reduced lt sound
    · rw [applyDemand_met met]
      have := activeCount_states s
      omega
  case lack =>
    rw [← chosenElements_eq] at is
    subst is
    refine ⟨lack_elem lack, ?_, ?_, ?_⟩ <;> rw [applyDemand_lack lack] <;> rfl
  case excess =>
    subst count
    obtain rfl : waiting = droppedElements s := dropped
    rw [← offElements_eq] at switched
    subst switched
    have distinct := offElements_nodup sound.1
    refine ⟨excess_elem excess distinct, ?_, ?_, ?_⟩ <;> rw [applyDemand_excess excess distinct]
    · exact (List.append_assoc ..).symm
    · exact (List.Nodup.sdiff_eq_filter sound.1).trans rfl
    · rfl
  case fixed =>
    obtain ⟨record, pointer, sent⟩ := applyDemand_single lack (chosenElements_single lack ready (by rw [if_neg fixed]; exact first))
    exact ⟨record, pointer.trans (if_neg fixed), sent⟩
  case rotate =>
    obtain ⟨record, pointer, sent⟩ := applyDemand_single lack (chosenElements_single lack ready (by rw [if_pos rotate]; exact first))
    exact ⟨record, pointer.trans (if_pos rotate), sent⟩
  case waits =>
    have only := droppedElements_single excess waits first
    have nothing : offElements s = [] := by
      have zero : activeCount s.hstg - s.hstg.demand - (droppedElements s).length = 0 := by
        rw [only, List.length_singleton]
        omega
      rw [offElements, zero, List.take_zero]
    have distinct := offElements_single_nodup excess
    refine ⟨?_, ?_⟩
    · rw [excess_elem (by omega) distinct, only, if_pos List.mem_cons_self]
    · rw [applyDemand_excess (by omega) distinct, only, nothing]
      simp [heatMoved, asked]
  case free =>
    have nothing : droppedElements s = [] :=
      List.eq_nil_iff_forall_not_mem.mpr fun e' mem => none e' (mem_droppedElements mem)
    have only := offElements_single excess nothing free ordered first
    have distinct := offElements_single_nodup excess
    refine ⟨?_, ?_, ?_⟩
    · rw [excess_elem (by omega) distinct, nothing, only, if_neg List.not_mem_nil, if_pos List.mem_cons_self]
    · rw [applyDemand_excess (by omega) distinct, only]
      exact (List.diff_cons _ _ _).trans (List.diff_nil _)
    · rw [applyDemand_excess (by omega) distinct, nothing, only]
      rfl

end Sys2Proof.Machine
end

section
/-! SUPPORT. The blower, the conversions and the debounced inputs: O49, O50 and O51. -/

namespace Sys2Proof.Machine

variable {s t : State}

/-! ### The blower (R79 to R84) -/

/-- The part with its blower OFF and the end of a standing AIRFLOW handed to TRIP, heat left as it is. -/
def blowerOff (s : State) : State := (s.updAtu blowerAtRest).updPaths fun p => { p with trip := p.trip ++ airflowEnds s.atu }

theorem enterOff_cases (s : State) : enterOff s = if s.atu.blower = .on then hstgStop false (blowerOff s) else blowerOff s := by
  unfold enterOff
  rw [endAirflow_eq]
  rfl

theorem isClosed_true {i : DebouncedInput} (h : i.settled = some .closed) : i.isClosed = true := decide_eq_true h

theorem isClosed_false {i : DebouncedInput} (h : i.settled ≠ some .closed) : i.isClosed = false := decide_eq_false h

section
variable (closed : s.atu.door.settled = some .closed)
include closed

theorem blowerRequest_on_closed (h : s.atu.blower ≠ .on) : blowerRequest .on s = enterOn s := by
  cases blower : s.atu.blower <;> simp_all [blowerRequest, isClosed_true closed]

theorem blowerRequest_runOn_closed_on (h : s.atu.blower = .on) : blowerRequest .runOn s = enterRunOn s := by
  simp [blowerRequest, h, isClosed_true closed]

theorem blowerRequest_runOn_closed_rest (h : s.atu.blower ≠ .on) : blowerRequest .runOn s = s := by
  cases blower : s.atu.blower <;> simp_all [blowerRequest, isClosed_true closed]

end

theorem blowerRequest_off_off (h : s.atu.blower = .off) (q : BlowerRequest) (notOn : q ≠ .on ∨ s.atu.door.settled ≠ some .closed) :
    blowerRequest q s = s := by
  cases q with
  | on => simp [blowerRequest, h, isClosed_false (notOn.resolve_left fun other => other rfl)]
  | runOn | off => simp [blowerRequest, h]

theorem blowerRequest_off (h : s.atu.blower ≠ .off) : blowerRequest .off s = enterOff s := by
  cases blower : s.atu.blower <;> simp_all [blowerRequest]

/-- Behind an open door every request takes a blower that runs on OFF. -/
theorem blowerRequest_open_runOn (opened : s.atu.door.settled ≠ some .closed) (h : s.atu.blower = .runOn) (q : BlowerRequest) :
    blowerRequest q s = enterOff s := by
  cases q <;> simp [blowerRequest, h, isClosed_false opened]

theorem blowerOff_eq (s : State) :
    blowerOff s =
      { s with
        atu := { s.atu with
          blower := .off, airflowProven := false, grace := none, lowFlow := none, runOn := none, airflowRaised := false }
        paths := { s.paths with trip := s.paths.trip ++ if s.atu.airflowRaised then [⟨.airflow, true⟩] else [] } } := rfl

theorem enterOff_on (h : s.atu.blower = .on) : enterOff s = hstgStop false (blowerOff s) := by rw [enterOff_cases, if_pos h]

theorem enterOff_rest (h : s.atu.blower ≠ .on) : enterOff s = blowerOff s := by rw [enterOff_cases, if_neg h]

theorem enterOff_atu (s : State) : (enterOff s).atu = blowerAtRest s.atu := by
  obtain ⟨_, _, atu, _⟩ := heatLost_frame s
  rw [enterOff_heatLost, State.updPaths_atu, State.updAtu_atu, atu]

theorem raiseAirflow_eq (s : State) :
    raiseAirflow s =
      { s with
        atu := { s.atu with airflowRaised := true }
        paths := { s.paths with trip := s.paths.trip ++ if s.atu.airflowRaised then [] else [⟨.airflow, false⟩] } } := by
  unfold raiseAirflow
  by_cases raised : s.atu.airflowRaised = true
  · have same : ({ s.atu with airflowRaised := true } : Atu) = s.atu := by rw [← raised]
    rw [if_pos raised, if_pos raised, same, List.append_nil]
  · rw [if_neg raised, if_neg raised]
    rfl

/-- Settles O50: each request by the blower and the door, and each timer's expiry. -/
theorem blowerFollowsRequestsAndTimers : Obligations.BlowerFollowsRequestsAndTimers := by
  intro s
  refine ⟨fun closed => ⟨fun on => ?_, blowerRequest_on_closed closed, fun on => ?_, blowerRequest_runOn_closed_on closed,
    blowerRequest_runOn_closed_rest closed⟩, fun opened => ⟨fun off => ⟨blowerRequest_off_off off .on (.inr opened),
    blowerRequest_off_off off .runOn (.inr opened)⟩, fun runOn => ?_⟩, fun off => blowerRequest_off_off off .off (.inl (by decide)),
    fun notOff => ?_, fun running => ?_, fun running => ?_, fun running runOn => ?_⟩
  · simp [blowerRequest, on]
  · rw [blowerRequest_runOn_closed_on closed on, enterRunOn]
    simp
  · have off (q : BlowerRequest) := blowerRequest_open_runOn opened runOn q
    rw [off .on, off .runOn, off .off, enterOff_atu]
    exact ⟨rfl, rfl, rfl, rfl⟩
  · rw [blowerRequest_off notOff]
    refine ⟨enterOff_atu s, enterOff_trip s, ?_⟩
    rintro _ rfl
    exact ⟨fun on => enterOff_on on, fun runOn => enterOff_rest (by rw [runOn]; decide)⟩
  · have expired : exec .graceTimerExpiry s = .next (raiseAirflow (s.updAtu fun a => { a with grace := none })) :=
      congrArg Host.Outcome.next (if_neg (by simpa using running))
    rw [expired, raiseAirflow_eq]
    rfl
  · have expired : exec .lowFlowExpiry s = .next (raiseAirflow (s.updAtu fun a => { a with lowFlow := none })) :=
      congrArg Host.Outcome.next (if_neg (by simpa using running))
    rw [expired, raiseAirflow_eq]
    rfl
  · rw [blowerRequest_off (by rw [runOn]; decide)]
    exact congrArg Host.Outcome.next (if_pos ⟨Option.isSome_iff_ne_none.mpr running, runOn⟩)

/-! ### What a stage start and a retirement bring at ATU and at TRIP's path -/

/-- A move that leaves ATU's channels, its door and the conditions of its channels, hands TRIP nothing but more, and leaves ATU as it is
where the blower is OFF behind an open door. -/
structure AirFollows (s t : State) : Prop where
  exhaust : t.atu.exhaust = s.atu.exhaust
  inlet : t.atu.inlet = s.atu.inlet
  sensor : t.atu.sensorRaised = s.atu.sensorRaised
  fire : t.atu.fireRaised = s.atu.fireRaised
  door : t.atu.door = s.atu.door
  trip : ∃ more, t.paths.trip = s.paths.trip ++ more
  rest : s.atu.door.settled ≠ some .closed → s.atu.blower = .off → t.atu = s.atu

theorem AirFollows.of_atu {more : List TripMsg} (atu : t.atu = s.atu) (trip : t.paths.trip = s.paths.trip ++ more) : AirFollows s t :=
  ⟨by rw [atu], by rw [atu], by rw [atu], by rw [atu], by rw [atu], ⟨more, trip⟩, fun _ _ => atu⟩

theorem AirFollows.of_eq (atu : t.atu = s.atu) (trip : t.paths.trip = s.paths.trip) : AirFollows s t :=
  .of_atu (more := []) atu (by rw [trip, List.append_nil])

theorem AirFollows.refl (s : State) : AirFollows s s := .of_eq rfl rfl

theorem AirFollows.trans {u : State} (h : AirFollows s t) (h' : AirFollows t u) : AirFollows s u := by
  refine ⟨h'.exhaust.trans h.exhaust, h'.inlet.trans h.inlet, h'.sensor.trans h.sensor, h'.fire.trans h.fire, h'.door.trans h.door, ?_,
    fun opened off => ?_⟩
  · obtain ⟨more, first⟩ := h.trip
    obtain ⟨last, second⟩ := h'.trip
    exact ⟨more ++ last, by rw [second, first, List.append_assoc]⟩
  · have same := h.rest opened off
    exact (h'.rest (by rw [same]; exact opened) (by rw [same]; exact off)).trans same

theorem enterOff_follows (notOff : s.atu.blower ≠ .off) : AirFollows s (enterOff s) := by
  have atu := enterOff_atu s
  exact ⟨by rw [atu]; rfl, by rw [atu]; rfl, by rw [atu]; rfl, by rw [atu]; rfl, by rw [atu]; rfl, ⟨_, enterOff_trip s⟩,
    fun _ off => absurd off notOff⟩

theorem enterOn_follows (closed : s.atu.door.settled = some .closed) : AirFollows s (enterOn s) :=
  ⟨rfl, rfl, rfl, rfl, rfl, ⟨[], (List.append_nil _).symm⟩, fun opened => absurd closed opened⟩

theorem enterRunOn_follows (closed : s.atu.door.settled = some .closed) : AirFollows s (enterRunOn s) := by
  have atu : (enterRunOn s).atu = { s.atu with
      blower := .runOn, airflowProven := false, grace := none, lowFlow := none, runOn := some (s.profile.runOnLimit * 60000) } := by
    simp [enterRunOn]
  exact ⟨by rw [atu], by rw [atu], by rw [atu], by rw [atu], by rw [atu], ⟨[], by rw [enterRunOn_trip, List.append_nil]⟩,
    fun opened => absurd closed opened⟩

theorem blowerRequest_follows (q : BlowerRequest) (s : State) : AirFollows s (blowerRequest q s) := by
  have closed (h : s.atu.door.isClosed = true) : s.atu.door.settled = some .closed := of_decide_eq_true h
  unfold blowerRequest
  split
  · split
    · exact enterOn_follows (closed ‹_›)
    · exact .refl s
  · exact .refl s
  · next state =>
    split
    · exact enterOn_follows (closed ‹_›)
    · exact enterOff_follows (by rw [state]; decide)
  · exact .refl s
  · next state =>
    split
    · exact enterRunOn_follows (closed ‹_›)
    · exact enterOff_follows (by rw [state]; decide)
  · next state =>
    split
    · exact .refl s
    · exact enterOff_follows (by rw [state]; decide)
  · exact .refl s
  · next state => exact enterOff_follows (by rw [state]; decide)
  · next state => exact enterOff_follows (by rw [state]; decide)

theorem drumStop_follows (s : State) : AirFollows s (drumStop s) := .of_atu (by simp) (drumStop_trip s)

theorem AirFollows.drumStop (h : AirFollows s t) : AirFollows s (drumStop t) := h.trans (drumStop_follows t)

theorem AirFollows.blowerRequest {q : BlowerRequest} (h : AirFollows s t) : AirFollows s (blowerRequest q t) :=
  h.trans (blowerRequest_follows q t)

theorem AirFollows.reportChange {old : CycleState} (h : AirFollows s t) : AirFollows s (reportChange old t) :=
  h.trans (.of_eq (by simp) (by simp))

theorem AirFollows.report {src : Source} {sev : Severity} {code : Byte} {data : List Byte} (h : AirFollows s t) :
    AirFollows s (report src sev code data t) := h.trans (.of_eq (by simp) (by simp))

theorem AirFollows.raiseFlag {g : EventFlag} (h : AirFollows s t) : AirFollows s (raiseFlag g t) := h.trans (.of_eq (by simp) (by simp))

theorem AirFollows.enterCycle {new : CycleState} (h : AirFollows s t) : AirFollows s (enterCycle new t) :=
  (h.trans (t := t) (.of_eq rfl rfl) : AirFollows s (t.updCpx fun c => { c with cycle := new })).reportChange

theorem AirFollows.updCpx {f : Cpx → Cpx} (h : AirFollows s t) : AirFollows s (t.updCpx f) := h.trans (.of_eq rfl rfl)

theorem AirFollows.hstgStop {fromCycle : Bool} (h : AirFollows s t) : AirFollows s (hstgStop fromCycle t) :=
  h.trans (.of_eq (by simp) (by simp))

theorem AirFollows.hstgStarved (h : AirFollows s t) : AirFollows s (hstgStarved t) := h.trans (.of_eq (by simp) (by simp))

theorem AirFollows.hstgStageStart {st : HeatSettings} (h : AirFollows s t) : AirFollows s (hstgStageStart st t) :=
  h.trans (.of_eq (by simp) (by simp))

theorem AirFollows.drumStageStart {kind : StageKind} {idx revs : Nat} (h : AirFollows s t) :
    AirFollows s (drumStageStart kind idx revs t) := h.trans (.of_eq (by simp) (by simp))

theorem AirFollows.runRequest (h : AirFollows s t) : AirFollows s (runRequest t) := h.trans (.of_eq (by simp) (by simp))

theorem AirFollows.mestWithdraw (h : AirFollows s t) : AirFollows s (mestWithdraw t) := h.trans (.of_eq (by simp) (by simp))

theorem AirFollows.mestStageStart {st : MestStage} (h : AirFollows s t) : AirFollows s (mestStageStart st t) :=
  h.trans (.of_eq (by simp) (by simp))

theorem AirFollows.ite {p : Prop} [Decidable p] {a b : State} (ha : AirFollows s a) (hb : AirFollows s b) :
    AirFollows s (if p then a else b) := by
  split
  · exact ha
  · exact hb

theorem AirFollows.enterPaused {cause : PauseCause} (h : AirFollows s t) : AirFollows s (enterPaused cause t) :=
  .reportChange (.ite h.updCpx.hstgStop.drumStop h.updCpx.hstgStop.drumStop.blowerRequest)

theorem enterDone_follows (reason : EndReason) (s : State) : AirFollows s (enterDone reason s) :=
  (AirFollows.refl s).updCpx.enterCycle.updCpx.hstgStop.drumStop.blowerRequest.mestWithdraw

theorem enterStarved_follows (s : State) : AirFollows s (enterStarved s) := by
  have starved := (AirFollows.refl s).enterCycle (new := .starved)
  exact .ite starved.report.raiseFlag.hstgStarved.mestWithdraw.updCpx starved.report.raiseFlag.hstgStarved.mestWithdraw.updCpx.enterPaused

theorem stageStarted_follows (r : StageRec) (s : State) : AirFollows s (stageStarted r s) := by
  have installed (st : HeatSettings) (f : Cpx → Cpx) := (AirFollows.refl s).updCpx (f := f) |>.hstgStageStart (st := st)
    |>.drumStageStart (kind := r.kind) (idx := r.pattern) (revs := r.burstRevs)
  exact (AirFollows.ite (installed _ _).drumStop (installed _ _).runRequest).mestStageStart.blowerRequest.report.raiseFlag

theorem startStages_follows (l : List StageRec) (s : State) : AirFollows s (startStages l s) := by
  induction l generalizing s with
  | nil => exact .refl s
  | cons r rest ih =>
    have dropped : AirFollows (stageStarted r s) (dropHead .door rest (drumStop (stageStarted r s))) :=
      (drumStop_follows _).trans (.of_eq rfl rfl)
    unfold startStages
    dsimp only
    refine (stageStarted_follows r s).trans ?_
    split
    · exact .refl _
    · split
      · refine dropped.trans ?_
        split
        · exact enterDone_follows _ _
        · cases rest with
          | nil => exact enterStarved_follows _
          | cons _ _ => exact ih _
      · exact (AirFollows.refl _).enterPaused

theorem retire_follows (reason : ExitReason) (s : State) : AirFollows s (retire reason s) := by
  unfold retire
  split
  · exact .refl s
  · next r rest held =>
    dsimp only
    generalize reported : (if r.kind = .dry ∧ reason = .time then
        report .cpx .info 0x52 (u16 s.cpx.ordinal ++ optField 2 u16 s.mest.f ++ u8 s.mest.b) s else s) = u
    have same : AirFollows s u := by
      rw [← reported]
      split
      · exact .of_eq (by simp) (by simp)
      · exact .refl s
    refine same.trans (.trans (t := dropHead reason rest u) (.of_eq rfl rfl) ?_)
    split
    · exact enterDone_follows _ _
    · cases rest with
      | nil => exact enterStarved_follows _
      | cons _ _ => exact startStages_follows _ _

theorem judgeCooled_follows (value : Int) (valid : Bool) (s : State) : AirFollows s (judgeCooled value valid s) := by
  unfold judgeCooled
  split
  · split
    · exact retire_follows _ _
    · exact .refl s
  · exact .refl s

theorem currentStage_head {c : Cpx} {r : StageRec} (h : currentStage c = some r) : c.stageActive = true ∧ ∃ rest, c.plan = r :: rest := by
  unfold currentStage at h
  split at h
  · exact ⟨‹_›, List.head?_eq_some_iff.mp h⟩
  · cases h

/-- COOLED is judged of a COOL stage alone, in RUNNING (R140). -/
theorem judgeCooled_notCool (value : Int) (valid : Bool) (h : ∀ r rest, s.cpx.plan = r :: rest → r.kind ≠ .cool) :
    judgeCooled value valid s = s := by
  unfold judgeCooled
  split
  · next r _ current =>
    refine if_neg fun judged => ?_
    obtain ⟨_, rest, plan⟩ := currentStage_head current
    exact h r rest plan judged.1
  · rfl

theorem judgeCooled_notRunning (value : Int) (valid : Bool) (h : s.cpx.cycle ≠ .running) : judgeCooled value valid s = s := by
  unfold judgeCooled
  split
  · next running _ => exact absurd running h
  · rfl

/-! ### ATU's judgements at a conversion (R75 to R77, R84, R85) -/

theorem tempInSpan_eq (raw : Int) : tempInSpan raw = decide (-400 ≤ raw ∧ raw ≤ 3000) := rfl

/-- SENSOR as it stands after a judgement. -/
theorem judgeSensor_eq {run : Nat} {valid up ended : Bool} (raises : (!valid && !s.atu.sensorRaised && decide (run = 1)) = up)
    (ends : (s.atu.sensorRaised && (s.atu.exhaust.valid && s.atu.inlet.valid)) = ended) :
    judgeSensor run valid s =
      { s with
        atu := { s.atu with sensorRaised := (s.atu.sensorRaised || up) && !ended }
        paths := { s.paths with
          trip := s.paths.trip ++ (if up then [⟨.sensor, false⟩] else []) ++ if ended then [⟨.sensor, true⟩] else [] } } := by
  have keeps (b : Bool) (h : s.atu.sensorRaised = b) : ({ s.atu with sensorRaised := b } : Atu) = s.atu := by rw [← h]
  subst raises ends
  unfold judgeSensor
  cases raised : s.atu.sensorRaised with
  | true =>
    by_cases both : (s.atu.exhaust.valid && s.atu.inlet.valid) = true
    · simp [both, handConditionEnd, State.updPaths, State.updAtu]
    · have same := keeps true raised
      simp [both, same]
  | false =>
    by_cases due : valid = false ∧ run = 1
    · simp [due, handCondition, State.updPaths, State.updAtu]
    · have same := keeps false raised
      have up : (!valid && decide (run = 1)) = false := by simpa using due
      have notDue : ¬ ((!valid) = true ∧ run + 1 = 2) := by simpa using due
      rw [if_neg Bool.false_ne_true, if_neg notDue]
      simp [up, same]

/-- EXHAUST_FIRE as it stands after a judgement. -/
theorem judgeFire_eq {up ended : Bool} (raises : (!s.atu.fireRaised && decide ((s.profile.fireThreshold : Int) ≤ s.atu.exhaust.value)) = up)
    (ends : (s.atu.fireRaised && decide (s.atu.exhaust.value < (s.profile.fireThreshold : Int) - 100)) = ended) :
    judgeFire s =
      { s with
        atu := { s.atu with fireRaised := (s.atu.fireRaised || up) && !ended }
        paths := { s.paths with
          trip := s.paths.trip ++ (if up then [⟨.exhaustFire, false⟩] else []) ++ if ended then [⟨.exhaustFire, true⟩] else [] } } := by
  have keeps (b : Bool) (h : s.atu.fireRaised = b) : ({ s.atu with fireRaised := b } : Atu) = s.atu := by rw [← h]
  subst raises ends
  unfold judgeFire
  cases raised : s.atu.fireRaised with
  | true =>
    by_cases below : s.atu.exhaust.value < (s.profile.fireThreshold : Int) - 100
    · simp [below, handConditionEnd, State.updPaths, State.updAtu]
    · have same := keeps true raised
      simp [below, same]
  | false =>
    by_cases above : (s.profile.fireThreshold : Int) ≤ s.atu.exhaust.value
    · simp [above, handCondition, State.updPaths, State.updAtu]
    · have same := keeps false raised
      simp [above, same]

/-- The run-on that ends, or ATU as it was. -/
theorem judgeRunOn_eq {ended : Bool}
    (ends : (decide (s.atu.blower = .runOn) && decide (s.atu.exhaust.value < s.profile.runOnTemp)) = ended) :
    judgeRunOn s =
      { s with
        atu := { s.atu with
          blower := if ended then .off else s.atu.blower
          airflowProven := s.atu.airflowProven && !ended
          grace := if ended then none else s.atu.grace
          lowFlow := if ended then none else s.atu.lowFlow
          runOn := if ended then none else s.atu.runOn
          airflowRaised := s.atu.airflowRaised && !ended }
        paths := { s.paths with trip := s.paths.trip ++ if ended && s.atu.airflowRaised then [⟨.airflow, true⟩] else [] } } := by
  subst ends
  unfold judgeRunOn
  by_cases h : s.atu.blower = .runOn ∧ s.atu.exhaust.value < s.profile.runOnTemp
  · rw [if_pos h, enterOff_rest (by rw [h.1]; decide)]
    simp [h, blowerOff, blowerAtRest, airflowEnds, State.updAtu, State.updPaths]
  · have kept : (decide (s.atu.blower = .runOn) && decide (s.atu.exhaust.value < s.profile.runOnTemp)) = false := by simpa using h
    rw [if_neg h, kept]
    simp

/-- ATU's own part of an exhaust conversion is `exhaustTaken`. -/
theorem exhaustConverted_eq (raw : Int) (s : State) :
    exhaustConverted raw s =
      judgeCooled (exhaustTaken raw s).atu.exhaust.value (tempInSpan raw)
        (hstgExhaust (exhaustTaken raw s).atu.exhaust.value (exhaustTaken raw s)) := by
  have taken : (if tempInSpan raw then
        judgeRunOn (judgeFire (judgeSensor s.atu.exhaust.invalidRun (tempInSpan raw)
          (s.updAtu fun a => { a with exhaust := channelAfter raw a.exhaust })))
      else judgeSensor s.atu.exhaust.invalidRun (tempInSpan raw) (s.updAtu fun a => { a with exhaust := channelAfter raw a.exhaust })) =
      exhaustTaken raw s := by
    by_cases valid : -400 ≤ raw ∧ raw ≤ 3000
    · have inSpan : tempInSpan raw = true := decide_eq_true valid
      have channel : channelAfter raw s.atu.exhaust = ⟨raw, true, 0⟩ := if_pos inSpan
      have within : decide (-400 ≤ raw ∧ raw ≤ 3000) = true := inSpan
      unfold exhaustTaken
      rw [if_pos inSpan, within, inSpan, judgeSensor_eq (s := s.updAtu _) rfl rfl, judgeFire_eq rfl rfl, judgeRunOn_eq rfl]
      simp only [State.updAtu_atu, channel]
      rfl
    · have outside : tempInSpan raw = false := decide_eq_false valid
      have without : decide (-400 ≤ raw ∧ raw ≤ 3000) = false := outside
      have channel : channelAfter raw s.atu.exhaust = { s.atu.exhaust with valid := false, invalidRun := bump 255 s.atu.exhaust.invalidRun } :=
        if_neg (by rw [outside]; exact Bool.false_ne_true)
      unfold exhaustTaken
      rw [if_neg (by rw [outside]; exact Bool.false_ne_true), without, outside, judgeSensor_eq (s := s.updAtu _) rfl rfl]
      simp [channel]
  unfold exhaustConverted
  dsimp only
  rw [taken]
  rfl

end Sys2Proof.Machine
end

section
/-! SUPPORT. The conversions as wholes: O49. -/

namespace Sys2Proof.Machine

variable {s t : State}

/-! ### HSTG reads its own records, the profile and the messages it hands SAA -/

/-- Two states alike to HSTG. -/
structure HeatAlike (s t : State) : Prop where
  hstg : t.hstg = s.hstg
  profile : t.profile = s.profile
  sent : t.paths.hstgToSaa = s.paths.hstgToSaa

theorem HeatStep.act_alike (k : HeatStep) (e : Element) (h : HeatAlike s t) : HeatAlike (k.act e s) (k.act e t) := by
  have elem : t.elem e = s.elem e := by rw [State.elem, h.hstg]; rfl
  refine ⟨?_, h.profile, ?_⟩
  · simp only [HeatStep.act, heatMoved, elem, h.hstg]
  · simp only [HeatStep.act, heatMoved, elem, h.sent]

theorem foldl_alike {op : Element → State → State} (alike : ∀ e {u v : State}, HeatAlike u v → HeatAlike (op e u) (op e v)) (l : List Element)
    (h : HeatAlike s t) : HeatAlike (l.foldl (fun s e => op e s) s) (l.foldl (fun s e => op e s) t) := by
  induction l generalizing s t with
  | nil => exact h
  | cons e l ih => exact ih (alike e h)

theorem dropWaiting_alike (e : Element) {u v : State} (h : HeatAlike u v) : HeatAlike (dropWaiting e u) (dropWaiting e v) := by
  rw [dropWaiting_act, dropWaiting_act]
  exact dropStep.act_alike e h

theorem switchOff_alike (e : Element) {u v : State} (h : HeatAlike u v) : HeatAlike (switchOff .normal e u) (switchOff .normal e v) := by
  rw [switchOff_act, switchOff_act, h.profile]
  exact (offStep .normal u.profile).act_alike e h

theorem choose_alike (e : Element) {u v : State} (h : HeatAlike u v) : HeatAlike (choose e u) (choose e v) := by
  rw [choose_act, choose_act, h.profile]
  exact (chooseStep u.profile).act_alike e h

theorem applyDemand_alike (h : HeatAlike s t) : HeatAlike (applyDemand s) (applyDemand t) := by
  unfold applyDemand removeExcess chooseMore
  dsimp only
  rw [h.hstg, h.profile]
  have dropped (l : List Element) := foldl_alike dropWaiting_alike l h
  split
  · rw [(dropped _).hstg, (dropped _).profile]
    exact foldl_alike switchOff_alike _ (dropped _)
  · split
    · exact foldl_alike choose_alike _ h
    · exact h

theorem setDemand_alike (d : Nat) (h : HeatAlike s t) : HeatAlike (setDemand d s) (setDemand d t) :=
  applyDemand_alike (s := s.updHstg _) (t := t.updHstg _) ⟨congrArg (fun g => { g with demand := d }) h.hstg, h.profile, h.sent⟩

@[simp] theorem applyDemand_demand (s : State) : (applyDemand s).hstg.demand = s.hstg.demand := by
  have kept {op : Element → State → State} (act : ∀ e u, (op e u).hstg.demand = u.hstg.demand) (l : List Element) (u : State) :
      (l.foldl (fun s e => op e s) u).hstg.demand = u.hstg.demand := foldl_keeps (fun v : State => v.hstg.demand) _ (fun v e => act e v) _ _
  have drops (e : Element) (u : State) : (dropWaiting e u).hstg.demand = u.hstg.demand := by rw [dropWaiting_act]; rfl
  have offs (e : Element) (u : State) : (switchOff .normal e u).hstg.demand = u.hstg.demand := rfl
  have chooses (e : Element) (u : State) : (choose e u).hstg.demand = u.hstg.demand := by rw [choose_act]; rfl
  unfold applyDemand removeExcess chooseMore
  dsimp only
  split
  · rw [kept offs, kept drops]
  · split
    · rw [kept chooses]
    · rfl

theorem setDemand_demand (d : Nat) (s : State) : (setDemand d s).hstg.demand = d := applyDemand_demand _

/-- The demand at an exhaust value under a DRY or TIMED stage's settings (R95). -/
theorem demandFor_eq {h : Hstg} {st : HeatSettings} {target : HeatTarget} (p : Profile) (value : Int) (on : h.heatEnable = true)
    (settings : h.settings = some st) (heat : st.heat = some target) :
    demandFor p h value =
      if h.inletCap = true then 0
      else if target.exhaustTarget - value ≤ 0 then 0
      else min (allElements.filter fun e => Profile.current p e ≠ 0).length
        (1 + ((target.exhaustTarget - value) / p.stageStep).toNat) := by
  simp only [demandFor, on, settings, Option.bind_some, heat, Bool.not_true, Bool.false_eq_true, if_false]
  rfl

theorem hstgExhaust_off {value : Int} (off : s.hstg.heatEnable = false) : hstgExhaust value s = s := by
  simp [hstgExhaust, off]

theorem hstgExhaust_on {value : Int} {st : HeatSettings} {target : HeatTarget} {d : Nat} (on : s.hstg.heatEnable = true)
    (settings : s.hstg.settings = some st) (heat : st.heat = some target)
    (demand : d = if s.hstg.inletCap = true then 0
      else if target.exhaustTarget - value ≤ 0 then 0
      else min (allElements.filter fun e => Profile.current s.profile e ≠ 0).length
        (1 + ((target.exhaustTarget - value) / s.profile.stageStep).toNat)) :
    hstgExhaust value s = applyDemand (s.updHstg fun h => { h with demand := d }) := by
  rw [hstgExhaust, if_pos on, demandFor_eq s.profile value on settings heat, ← demand, setDemand]

/-! ### The exhaust conversion -/

theorem exhaustTaken_value (raw : Int) (s : State) :
    (exhaustTaken raw s).atu.exhaust.value = if -400 ≤ raw ∧ raw ≤ 3000 then raw else s.atu.exhaust.value := by
  by_cases valid : -400 ≤ raw ∧ raw ≤ 3000 <;> simp [exhaustTaken, valid]

theorem exhaustTaken_exhaust (raw : Int) (s : State) :
    (exhaustTaken raw s).atu.exhaust =
      if -400 ≤ raw ∧ raw ≤ 3000 then ⟨raw, true, 0⟩
      else { s.atu.exhaust with valid := false, invalidRun := bump 255 s.atu.exhaust.invalidRun } := by
  by_cases valid : -400 ≤ raw ∧ raw ≤ 3000 <;> simp [exhaustTaken, valid]

theorem exhaustTaken_outside {raw : Int} (invalid : ¬ (-400 ≤ raw ∧ raw ≤ 3000)) (s : State) :
    (exhaustTaken raw s).atu.fireRaised = s.atu.fireRaised ∧
      (exhaustTaken raw s).atu.sensorRaised = (s.atu.sensorRaised || decide (s.atu.exhaust.invalidRun = 1)) := by
  cases raised : s.atu.sensorRaised <;> simp [exhaustTaken, invalid, raised]

theorem exhaustTaken_inside {raw : Int} (valid : -400 ≤ raw ∧ raw ≤ 3000) (s : State) :
    (exhaustTaken raw s).atu.sensorRaised = (s.atu.sensorRaised && !s.atu.inlet.valid) ∧
      (exhaustTaken raw s).atu.fireRaised =
        if s.atu.fireRaised then !decide (raw < (s.profile.fireThreshold : Int) - 100)
        else decide ((s.profile.fireThreshold : Int) ≤ raw) := by
  cases raised : s.atu.sensorRaised <;> cases fire : s.atu.fireRaised <;> simp [exhaustTaken, valid, raised, fire]

theorem exhaustTaken_runOnEnds {raw : Int} (valid : -400 ≤ raw ∧ raw ≤ 3000) (runOn : s.atu.blower = .runOn)
    (below : raw < s.profile.runOnTemp) : (exhaustTaken raw s).atu.blower = .off := by
  simp [exhaustTaken, valid, runOn, below]

theorem exhaustTaken_alike (raw : Int) (s : State) : HeatAlike s (exhaustTaken raw s) := ⟨rfl, rfl, rfl⟩

theorem exhaustTaken_cpx (raw : Int) (s : State) : (exhaustTaken raw s).cpx = s.cpx := rfl

theorem exhaustConverted_follows (raw : Int) (s : State) : AirFollows (exhaustTaken raw s) (exhaustConverted raw s) := by
  rw [exhaustConverted_eq]
  exact .trans (.of_eq (by simp) (by simp)) (judgeCooled_follows _ _ _)

theorem exhaustConverted_notCool (raw : Int) (h : ∀ r rest, s.cpx.plan = r :: rest → r.kind ≠ .cool) :
    exhaustConverted raw s = hstgExhaust (exhaustTaken raw s).atu.exhaust.value (exhaustTaken raw s) := by
  rw [exhaustConverted_eq, judgeCooled_notCool]
  rw [show (hstgExhaust _ (exhaustTaken raw s)).cpx = (exhaustTaken raw s).cpx by simp, exhaustTaken_cpx]
  exact h

theorem exhaustConverted_notRunning (raw : Int) (h : s.cpx.cycle ≠ .running) :
    exhaustConverted raw s = hstgExhaust (exhaustTaken raw s).atu.exhaust.value (exhaustTaken raw s) := by
  rw [exhaustConverted_eq, judgeCooled_notRunning]
  rw [show (hstgExhaust _ (exhaustTaken raw s)).cpx = (exhaustTaken raw s).cpx by simp, exhaustTaken_cpx]
  exact h

/-! ### The inlet conversion (R76, R96) -/

/-- ATU's own part of an inlet conversion. -/
def inletTaken (raw : Int) (s : State) : State :=
  judgeSensor s.atu.inlet.invalidRun (tempInSpan raw) (s.updAtu fun a => { a with inlet := channelAfter raw a.inlet })

theorem inletConverted_eq (raw : Int) (s : State) :
    inletConverted raw s = hstgInlet (channelAfter raw s.atu.inlet).value (tempInSpan raw) (inletTaken raw s) := rfl

theorem inletTaken_eq (raw : Int) (s : State) :
    inletTaken raw s =
      { s with
        atu := { s.atu with
          inlet := if -400 ≤ raw ∧ raw ≤ 3000 then ⟨raw, true, 0⟩
            else { s.atu.inlet with valid := false, invalidRun := bump 255 s.atu.inlet.invalidRun }
          sensorRaised :=
            if -400 ≤ raw ∧ raw ≤ 3000 then s.atu.sensorRaised && !s.atu.exhaust.valid
            else s.atu.sensorRaised || decide (s.atu.inlet.invalidRun = 1) }
        paths := { s.paths with
          trip := s.paths.trip ++
            (if s.atu.sensorRaised = true then
              (if (-400 ≤ raw ∧ raw ≤ 3000) ∧ s.atu.exhaust.valid = true then [⟨.sensor, true⟩] else [])
            else if ¬ (-400 ≤ raw ∧ raw ≤ 3000) ∧ s.atu.inlet.invalidRun = 1 then [⟨.sensor, false⟩] else []) } } := by
  unfold inletTaken
  by_cases valid : -400 ≤ raw ∧ raw ≤ 3000
  · have inSpan : tempInSpan raw = true := decide_eq_true valid
    have channel : channelAfter raw s.atu.inlet = ⟨raw, true, 0⟩ := if_pos inSpan
    rw [inSpan, judgeSensor_eq (s := s.updAtu _) rfl rfl]
    cases raised : s.atu.sensorRaised <;> simp [channel, valid, raised]
  · have outside : tempInSpan raw = false := decide_eq_false valid
    have channel : channelAfter raw s.atu.inlet = { s.atu.inlet with valid := false, invalidRun := bump 255 s.atu.inlet.invalidRun } :=
      if_neg (by rw [outside]; exact Bool.false_ne_true)
    rw [outside, judgeSensor_eq (s := s.updAtu _) rfl rfl]
    cases raised : s.atu.sensorRaised <;> simp [channel, valid, raised]

section
variable {value : Int} {st : HeatSettings} {target : HeatTarget} (on : s.hstg.heatEnable = true) (settings : s.hstg.settings = some st)
  (heat : st.heat = some target)
include on settings heat

theorem hstgInlet_capStands (cap : s.hstg.inletCap = true) :
    hstgInlet value true s =
      if value ≤ target.inletLimit - s.profile.inletHyst then s.updHstg fun h => { h with inletCap := false } else s := by
  simp [hstgInlet, on, settings, heat, cap]

theorem hstgInlet_capSet (cap : s.hstg.inletCap = false) (high : target.inletLimit ≤ value) :
    hstgInlet value true s = report .hstg .info 0x40 (s16 value ++ s16 target.inletLimit ++ u16 st.ordinal)
      (setDemand 0 (s.updHstg fun h => { h with inletCap := true })) := by
  simp [hstgInlet, on, settings, heat, cap, high]

theorem hstgInlet_low (cap : s.hstg.inletCap = false) (low : value < target.inletLimit) : hstgInlet value true s = s := by
  simp [hstgInlet, on, settings, heat, cap, Int.not_le.mpr low]

end

@[simp] theorem applyDemand_inletCap (s : State) : (applyDemand s).hstg.inletCap = s.hstg.inletCap := by
  have kept {op : Element → State → State} (act : ∀ e u, (op e u).hstg.inletCap = u.hstg.inletCap) (l : List Element) (u : State) :
      (l.foldl (fun s e => op e s) u).hstg.inletCap = u.hstg.inletCap := foldl_keeps (fun v : State => v.hstg.inletCap) _ (fun v e => act e v) _ _
  have drops (e : Element) (u : State) : (dropWaiting e u).hstg.inletCap = u.hstg.inletCap := by rw [dropWaiting_act]; rfl
  have offs (e : Element) (u : State) : (switchOff .normal e u).hstg.inletCap = u.hstg.inletCap := rfl
  have chooses (e : Element) (u : State) : (choose e u).hstg.inletCap = u.hstg.inletCap := by rw [choose_act]; rfl
  unfold applyDemand removeExcess chooseMore
  dsimp only
  split
  · rw [kept offs, kept drops]
  · split
    · rw [kept chooses]
    · rfl

@[simp] theorem hstgInlet_trip (value : Int) (valid : Bool) (s : State) : (hstgInlet value valid s).paths.trip = s.paths.trip := by
  unfold hstgInlet
  split
  · split
    · rfl
    · split
      · rfl
      · split
        · split <;> rfl
        · split
          · simp
          · rfl
  · rfl

/-! ### The re-request (R101) -/

/-- A held-back element requests again (R101). -/
def requestStep (p : Profile) : HeatStep :=
  ⟨fun _ r => { r with requested := true }, fun _ => false, fun _ pointer => pointer, fun e _ => [.request e (Profile.current p e)]⟩

/-- A held-back element: it waits with its request not handed over. -/
def heldBack (r : ElementRec) : Bool := decide (r.state = .waitGrant) && !r.requested

theorem requestedAgain_heldBack (r : ElementRec) : (if heldBack r then { r with requested := true } else r) = requestedAgain r := by
  obtain ⟨state, requested, off, minOn, minOff⟩ := r
  by_cases waiting : state = .waitGrant <;> cases requested <;> simp [heldBack, requestedAgain, waiting]

theorem flatMap_filter_eq {α β : Type} (p : α → Bool) (f : α → List β) (l : List α) :
    (l.filter p).flatMap f = l.flatMap fun a => if p a then f a else [] := by
  induction l with
  | nil => rfl
  | cons a l ih => by_cases h : p a = true <;> simp [h, ih]

theorem rerequest_eq (s : State) : rerequest s = heldBackRequested s := by
  unfold rerequest heldBackRequested
  split
  · have distinct : (allElements.filter fun e => heldBack (s.elem e)).Nodup := allElements_nodup.filter _
    have all := (requestStep s.profile).foldl_act (op := requestElement) (fun e u profile => by rw [← profile]; rfl) distinct s rfl
    have records : elementsMoved (requestStep s.profile).record (allElements.filter fun e => heldBack (s.elem e)) s.hstg.elements =
        ⟨requestedAgain (s.elem .e1), requestedAgain (s.elem .e2), requestedAgain (s.elem .e3), requestedAgain (s.elem .e4)⟩ := by
      refine Elements.ext_get fun e => ?_
      have moved : (elementsMoved (requestStep s.profile).record (allElements.filter fun e => heldBack (s.elem e)) s.hstg.elements).get e =
          requestedAgain (s.elem e) := by
        rw [elementsMoved_get, ← requestedAgain_heldBack]
        exact if_congr (by simp [mem_allElements]) rfl rfl
      rw [moved]
      cases e <;> rfl
    have order : s.hstg.onOrder.diff ((allElements.filter fun e => heldBack (s.elem e)).filter fun e =>
        (requestStep s.profile).erases (s.elem e)) = s.hstg.onOrder := by
      have none : ((allElements.filter fun e => heldBack (s.elem e)).filter fun e => (requestStep s.profile).erases (s.elem e)) = [] :=
        List.filter_eq_nil_iff.mpr fun _ _ => Bool.false_ne_true
      rw [none, List.diff_nil]
    have pointer : (allElements.filter fun e => heldBack (s.elem e)).foldl
        (fun pointer e => (requestStep s.profile).pointer e pointer) s.hstg.pointer = s.hstg.pointer :=
      foldl_keeps id _ (fun _ _ => rfl) _ _
    have handed : (allElements.filter fun e => heldBack (s.elem e)).flatMap (fun e => (requestStep s.profile).sent e (s.elem e)) =
        [Element.e1, .e2, .e3, .e4].flatMap fun e =>
          if (s.elem e).state = .waitGrant ∧ (s.elem e).requested = false then [.request e (Profile.current s.profile e)] else [] := by
      rw [flatMap_filter_eq]
      exact List.flatMap_congr fun e _ => if_congr (by simp [heldBack]) rfl rfl
    rw [records, order, pointer, handed] at all
    exact all
  · rfl

/-! ### The pressure conversion (R74, R80, R81) -/

/-- The pressure a conversion carries: its value within 0..2000 (R74). -/
def pressureOf (raw : Int) : Int := max 0 (min 2000 raw)

theorem le_pressure_iff (m : Nat) (raw : Int) : m ≤ (pressureOf raw).toNat ↔ (m : Int) ≤ pressureOf raw := by
  have : 0 ≤ pressureOf raw := le_max_left ..
  omega

section
variable (raw : Int)

theorem pressureConverted_notOn (h : s.atu.blower ≠ .on) :
    pressureConverted raw s = { s with atu := { s.atu with pressure := (pressureOf raw).toNat } } := by
  rw [pressureConverted, clampInt_eq raw (by decide)]
  exact if_pos h

theorem pressureConverted_unproven (on : s.atu.blower = .on) (unproven : s.atu.airflowProven = false) :
    pressureConverted raw s =
      if (s.profile.airflowMin : Int) ≤ pressureOf raw then
        heldBackRequested { s with atu := { s.atu with pressure := (pressureOf raw).toNat, airflowProven := true, grace := none } }
      else { s with atu := { s.atu with pressure := (pressureOf raw).toNat } } := by
  rw [pressureConverted, clampInt_eq raw (by decide)]
  refine (if_neg (not_not.mpr on)).trans ((if_pos ((congrArg not unproven).trans rfl)).trans ?_)
  exact if_congr (le_pressure_iff ..) (rerequest_eq _) rfl

theorem pressureConverted_proven (on : s.atu.blower = .on) (proven : s.atu.airflowProven = true) :
    pressureConverted raw s =
      { s with
        atu := if pressureOf raw < (s.profile.airflowMin : Int) then
            { s.atu with
              pressure := (pressureOf raw).toNat
              lowFlow := if s.atu.lowFlow = none then some (s.profile.airflowGrace * 1000) else s.atu.lowFlow }
          else { s.atu with pressure := (pressureOf raw).toNat, lowFlow := none } } := by
  have low : (pressureOf raw).toNat < s.profile.airflowMin ↔ pressureOf raw < (s.profile.airflowMin : Int) := by
    have := le_pressure_iff s.profile.airflowMin raw
    omega
  rw [pressureConverted, clampInt_eq raw (by decide)]
  refine (if_neg (not_not.mpr on)).trans ((if_neg (by simp [proven])).trans ?_)
  by_cases below : pressureOf raw < (s.profile.airflowMin : Int)
  · rw [if_pos below]
    refine (if_pos (low.mpr below)).trans ?_
    by_cases stopped : s.atu.lowFlow = none
    · rw [if_pos stopped]
      exact if_neg (by simp [stopped])
    · rw [if_neg stopped]
      exact if_pos (Option.isSome_iff_ne_none.mpr stopped)
  · rw [if_neg below]
    exact if_neg fun h => below (low.mp h)

end

/-! ### The line-current conversion (R85) -/

theorem lineConverted_eq {limit : Nat} (v : Nat)
    (limit_eq : limit = s.profile.baseLoad + grantedTotal s.profile s.saa + s.profile.excessMargin) :
    lineConverted v s =
      { s with
        atu :=
          if s.atu.excessRaised then
            if v ≤ limit then
              if s.atu.belowRun = 2 then { s.atu with lineCurrent := v, excessRaised := false, belowRun := 0 }
              else { s.atu with lineCurrent := v, belowRun := s.atu.belowRun + 1 }
            else { s.atu with lineCurrent := v, belowRun := 0 }
          else if limit < v then
            if s.atu.aboveRun = 2 then { s.atu with lineCurrent := v, excessRaised := true, aboveRun := 0 }
            else { s.atu with lineCurrent := v, aboveRun := s.atu.aboveRun + 1 }
          else { s.atu with lineCurrent := v, aboveRun := 0 }
        paths := { s.paths with
          trip := s.paths.trip ++
            if s.atu.excessRaised then (if v ≤ limit ∧ s.atu.belowRun = 2 then [⟨.supplyExcess, true⟩] else [])
            else if limit < v ∧ s.atu.aboveRun = 2 then [⟨.supplyExcess, false⟩] else [] } } := by
  unfold lineConverted
  rw [← limit_eq]
  cases raised : s.atu.excessRaised
  · by_cases above : limit < v
    · by_cases run : s.atu.aboveRun = 2 <;> simp [raised, above, run, handCondition, State.updAtu, State.updPaths]
    · simp [raised, above, State.updAtu]
  · by_cases below : v ≤ limit
    · by_cases run : s.atu.belowRun = 2 <;> simp [raised, below, run, handConditionEnd, State.updAtu, State.updPaths]
    · simp [raised, below, State.updAtu]

/-! ### The conversions as wholes -/

theorem exhaustConverted_demand {raw : Int} {st : HeatSettings} {target : HeatTarget} {d : Nat}
    (notCool : ∀ r rest, s.cpx.plan = r :: rest → r.kind ≠ .cool) (on : s.hstg.heatEnable = true) (settings : s.hstg.settings = some st)
    (heat : st.heat = some target)
    (demand : d = if s.hstg.inletCap = true then 0
      else if target.exhaustTarget - (exhaustTaken raw s).atu.exhaust.value ≤ 0 then 0
      else min (allElements.filter fun e => Profile.current s.profile e ≠ 0).length
        (1 + ((target.exhaustTarget - (exhaustTaken raw s).atu.exhaust.value) / s.profile.stageStep).toNat)) :
    HeatAlike (applyDemand (s.updHstg fun h => { h with demand := d })) (exhaustConverted raw s) := by
  rw [exhaustConverted_notCool raw notCool, hstgExhaust_on (s := exhaustTaken raw s) on settings heat demand]
  exact setDemand_alike d (exhaustTaken_alike raw s)

theorem inletConverted_atu (raw : Int) (s : State) : (inletConverted raw s).atu = (inletTaken raw s).atu := by
  rw [inletConverted_eq]
  simp

section
variable {raw : Int} {st : HeatSettings} {target : HeatTarget} (valid : -400 ≤ raw ∧ raw ≤ 3000) (on : s.hstg.heatEnable = true)
  (settings : s.hstg.settings = some st) (heat : st.heat = some target)
include valid

theorem inletConverted_valid : inletConverted raw s = hstgInlet raw true (inletTaken raw s) := by
  have inSpan : tempInSpan raw = true := decide_eq_true valid
  rw [inletConverted_eq, inSpan, show (channelAfter raw s.atu.inlet).value = raw by simp [channelAfter, inSpan]]

include on settings heat

theorem inletConverted_cap :
    (inletConverted raw s).hstg.inletCap =
      if s.hstg.inletCap then !decide (raw ≤ target.inletLimit - s.profile.inletHyst) else decide (target.inletLimit ≤ raw) := by
  have taken : (inletTaken raw s).hstg = s.hstg ∧ (inletTaken raw s).profile = s.profile := by rw [inletTaken_eq]; exact ⟨rfl, rfl⟩
  obtain ⟨hstg, profile⟩ := taken
  rw [inletConverted_valid valid]
  rw [← hstg] at on settings ⊢
  rw [← profile]
  generalize inletTaken raw s = v at on settings ⊢
  cases cap : v.hstg.inletCap
  · by_cases high : target.inletLimit ≤ raw
    · rw [hstgInlet_capSet on settings heat cap high]
      simp [setDemand, high]
    · rw [hstgInlet_low on settings heat cap (by omega), cap]
      simp [high]
  · rw [hstgInlet_capStands on settings heat cap]
    by_cases low : raw ≤ target.inletLimit - v.profile.inletHyst
    · simp [low]
    · simp [low, cap]

theorem inletConverted_capSet (cap : s.hstg.inletCap = false) (high : target.inletLimit ≤ raw) :
    (inletConverted raw s).hstg = (applyDemand (s.updHstg fun h => { h with inletCap := true, demand := 0 })).hstg ∧
      (inletConverted raw s).hstg.demand = 0 ∧
      (inletConverted raw s).link = (report .hstg .info 0x40 (s16 raw ++ s16 target.inletLimit ++ u16 st.ordinal) s).link := by
  have taken : HeatAlike s (inletTaken raw s) ∧ (inletTaken raw s).link = s.link ∧ (inletTaken raw s).cpx = s.cpx := by
    rw [inletTaken_eq]; exact ⟨⟨rfl, rfl, rfl⟩, rfl, rfl⟩
  obtain ⟨alike, link, cpx⟩ := taken
  have capped : HeatAlike (s.updHstg fun h => { h with inletCap := true }) ((inletTaken raw s).updHstg fun h => { h with inletCap := true }) :=
    ⟨congrArg (fun h => { h with inletCap := true }) alike.hstg, alike.profile, alike.sent⟩
  have eq : inletConverted raw s = report .hstg .info 0x40 (s16 raw ++ s16 target.inletLimit ++ u16 st.ordinal)
      (setDemand 0 ((inletTaken raw s).updHstg fun h => { h with inletCap := true })) := by
    rw [inletConverted_valid valid]
    exact hstgInlet_capSet (by rw [alike.hstg]; exact on) (by rw [alike.hstg]; exact settings) heat (by rw [alike.hstg]; exact cap) high
  have hstg : (inletConverted raw s).hstg = (setDemand 0 ((inletTaken raw s).updHstg fun h => { h with inletCap := true })).hstg := by
    rw [eq]; simp
  refine ⟨hstg.trans (setDemand_alike 0 capped).hstg, by rw [hstg, setDemand_demand], ?_⟩
  rw [eq]
  exact report_link_congr (by simp [link]) (by simp [cpx])

theorem inletConverted_uncapped (other : s.hstg.inletCap = true ∨ raw < target.inletLimit) :
    (inletConverted raw s).hstg.demand = s.hstg.demand ∧ (inletConverted raw s).link = s.link := by
  have taken : (inletTaken raw s).hstg = s.hstg ∧ (inletTaken raw s).link = s.link := by rw [inletTaken_eq]; exact ⟨rfl, rfl⟩
  obtain ⟨hstg, link⟩ := taken
  rw [inletConverted_valid valid]
  rw [← hstg] at on settings other ⊢
  rw [← link]
  generalize inletTaken raw s = v at on settings other ⊢
  cases cap : v.hstg.inletCap
  · rw [hstgInlet_low on settings heat cap (other.resolve_left (by simp [cap]))]
    exact ⟨rfl, rfl⟩
  · rw [hstgInlet_capStands on settings heat cap]
    split <;> exact ⟨rfl, rfl⟩

end

theorem pressureConverted_atu (raw : Int) (s : State) :
    (pressureConverted raw s).atu =
      if s.atu.blower ≠ .on then { s.atu with pressure := (pressureOf raw).toNat }
      else if s.atu.airflowProven = false then
        if (s.profile.airflowMin : Int) ≤ pressureOf raw then
          { s.atu with pressure := (pressureOf raw).toNat, airflowProven := true, grace := none }
        else { s.atu with pressure := (pressureOf raw).toNat }
      else if pressureOf raw < (s.profile.airflowMin : Int) then
        { s.atu with
          pressure := (pressureOf raw).toNat
          lowFlow := if s.atu.lowFlow = none then some (s.profile.airflowGrace * 1000) else s.atu.lowFlow }
      else { s.atu with pressure := (pressureOf raw).toNat, lowFlow := none } := by
  by_cases on : s.atu.blower = .on
  · rw [if_neg (not_not.mpr on)]
    by_cases unproven : s.atu.airflowProven = false
    · rw [if_pos unproven, pressureConverted_unproven raw on unproven]
      split
      · simp
      · rfl
    · rw [if_neg unproven, pressureConverted_proven raw on (Bool.eq_true_of_not_eq_false unproven)]
  · rw [if_pos on, pressureConverted_notOn raw on]

/-- The pressure conversion's part of O49. -/
theorem pressureConverted_moves (raw : Int) (s : State) :
    (s.atu.blower = .on → s.atu.airflowProven = false → (s.profile.airflowMin : Int) ≤ pressureOf raw →
      pressureConverted raw s = heldBackRequested { s with atu := (pressureConverted raw s).atu }) ∧
    (s.atu.blower ≠ .on ∨ s.atu.airflowProven = true ∨ pressureOf raw < (s.profile.airflowMin : Int) →
      pressureConverted raw s = { s with atu := (pressureConverted raw s).atu }) := by
  refine ⟨fun on unproven reached => ?_, fun other => ?_⟩
  · rw [pressureConverted_unproven raw on unproven, if_pos reached]
    simp
  · by_cases on : s.atu.blower = .on
    · by_cases unproven : s.atu.airflowProven = false
      · have low := (other.resolve_left (not_not.mpr on)).resolve_left (by simp [unproven])
        rw [pressureConverted_unproven raw on unproven, if_neg (by omega)]
      · rw [pressureConverted_proven raw on (Bool.eq_true_of_not_eq_false unproven)]
    · rw [pressureConverted_notOn raw on]

/-- Settles O49: the exhaust conversion as ATU's own part, HSTG's demand and CPX's judgement, and each other channel as a whole. -/
theorem conversionsMoveTheirChannels : Obligations.ConversionsMoveTheirChannels := by
  intro raw s
  have follows := exhaustConverted_follows raw s
  refine ⟨⟨exhaustConverted raw s, rfl, follows.exhaust.trans (exhaustTaken_exhaust raw s), follows.inlet, fun outside => ?_, fun lo hi => ?_,
    ?_, fun lo hi runOn below notRunning => ?_, fun notCool => ⟨fun off => ?_, ?_⟩⟩, ?_,
    ⟨inletConverted raw s, rfl, ?_, ?_, ?_, ?_, ?_, ?_, ?_, fun st target lo hi on settings heat => ⟨?_, ?_, ?_⟩⟩,
    ⟨pressureConverted raw s, rfl, pressureConverted_atu raw s, ?_⟩, ?_⟩
  · rw [follows.fire, follows.sensor]
    exact exhaustTaken_outside outside s
  · rw [follows.fire, follows.sensor]
    exact exhaustTaken_inside ⟨lo, hi⟩ s
  · by_cases notCool : ∀ r rest, s.cpx.plan = r :: rest → r.kind ≠ .cool
    · refine ⟨[], ?_, fun _ => rfl⟩
      rw [exhaustConverted_notCool raw notCool, List.append_nil]
      simp
    · obtain ⟨more, handed⟩ := follows.trip
      exact ⟨more, handed, fun h => absurd h notCool⟩
  · rw [exhaustConverted_notRunning raw notRunning]
    simpa using exhaustTaken_runOnEnds ⟨lo, hi⟩ runOn below
  · rw [exhaustConverted_notCool raw notCool, hstgExhaust_off (s := exhaustTaken raw s) off]
    rfl
  · rintro st target on settings heat value rfl d demand u rfl
    rw [← exhaustTaken_value] at demand
    have alike := exhaustConverted_demand notCool on settings heat demand
    exact ⟨alike.hstg, by rw [alike.hstg, applyDemand_demand]; rfl, alike.sent⟩
  · rintro v rfl valid rfl
    refine ⟨fun off => ?_, fun st target on settings heat d demand => ?_⟩
    · refine congrArg Host.Outcome.next ((exhaustConverted_eq raw s).trans ?_)
      rw [hstgExhaust_off (s := exhaustTaken raw s) off]
      rfl
    · refine congrArg Host.Outcome.next ((exhaustConverted_eq raw s).trans ?_)
      rw [hstgExhaust_on (s := exhaustTaken raw s) on settings heat demand]
      rfl
  · rw [inletConverted_atu, inletTaken_eq]
  · rw [inletConverted_eq, inletTaken_eq]; simp
  · rw [inletConverted_eq, inletTaken_eq]; simp
  · rw [inletConverted_eq, inletTaken_eq]; simp
  · rw [inletConverted_eq, inletTaken_eq]; simp
  · rw [inletConverted_eq, inletTaken_eq]; simp
  · rw [inletConverted_eq, hstgInlet_trip, inletTaken_eq]
  · exact inletConverted_cap ⟨lo, hi⟩ on settings heat
  · exact inletConverted_capSet ⟨lo, hi⟩ on settings heat
  · exact inletConverted_uncapped ⟨lo, hi⟩ on settings heat
  · obtain ⟨reached, other⟩ := pressureConverted_moves raw s
    exact ⟨by simp, by simp, by simp, by simp, by simp, by simp, reached, other⟩
  · rintro limit v rfl limit_eq
    exact congrArg Host.Outcome.next (lineConverted_eq v limit_eq)

end Sys2Proof.Machine
end

section
/-! SUPPORT. The drum's requests, timers and pulses as what each does to the part: O39, O41 and O42. -/

namespace Sys2Proof.Machine

variable {s t : State}

/-! ### A report and an event flag reach LINK alone -/

theorem report_eq (src : Source) (sev : Severity) (code : Byte) (data : List Byte) (s : State) :
    report src sev code data s = { s with link := (report src sev code data s).link } := by
  obtain ⟨prof, atu, hstg, saa, drum, efe, mest, cpx, trip, paths, pending, free⟩ := report_frame src sev code data s
  rw [← prof, ← atu, ← hstg, ← saa, ← drum, ← efe, ← mest, ← cpx, ← trip, ← paths, ← pending, ← free]

theorem raiseFlag_eq (g : EventFlag) (s : State) : raiseFlag g s = { s with link := (raiseFlag g s).link } := rfl

theorem raiseFlag_link_congr {g : EventFlag} (link : t.link = s.link) : (raiseFlag g t).link = (raiseFlag g s).link :=
  congrArg (fun l : Link => { l with flags := l.flags.put g }) link

/-- The link after LOCK_LOST for a revolution number. -/
def lockLostGiven (number : Nat) (s : State) : State := raiseFlag .lockLost (report .drum .info 0x22 (u16 number) s)

theorem lockLostGiven_link_congr {number : Nat} (link : t.link = s.link) (elapsed : t.cpx.cycleElapsed = s.cpx.cycleElapsed) :
    (lockLostGiven number t).link = (lockLostGiven number s).link := raiseFlag_link_congr (report_link_congr link elapsed)

theorem lockLostGiven_eq (number : Nat) (s : State) : lockLostGiven number s = { s with link := (lockLostGiven number s).link } := by
  unfold lockLostGiven
  rw [raiseFlag_eq, report_eq]

theorem lockLostLeaving_eq (d : Drum) (s : State) : lockLostLeaving d s = { s with link := (lockLostLeaving d s).link } := by
  unfold lockLostLeaving
  split
  · exact lockLostGiven_eq _ s
  · rfl

theorem lockLostLeaving_link_congr {d : Drum} (link : t.link = s.link) (elapsed : t.cpx.cycleElapsed = s.cpx.cycleElapsed) :
    (lockLostLeaving d t).link = (lockLostLeaving d s).link := by
  unfold lockLostLeaving
  split
  · exact lockLostGiven_link_congr link elapsed
  · exact link

/-- Lock lost: LOCK_LOST where lock was set (R14). -/
theorem loseLock_eq (s : State) :
    loseLock s =
      { s with
        link := (if s.drum.lock then lockLostGiven s.drum.revNumber s else s).link
        drum := { s.drum with lock := false } } := by
  unfold loseLock
  cases lock : s.drum.lock with
  | true =>
    rw [if_pos rfl, if_pos rfl]
    refine (lockLostGiven_eq s.drum.revNumber (s.updDrum fun d => { d with lock := false })).trans ?_
    rw [lockLostGiven_link_congr (s := s) (t := s.updDrum _) rfl rfl]
    rfl
  | false =>
    have same : ({ s.drum with lock := false } : Drum) = s.drum := by rw [← lock]
    rw [if_neg Bool.false_ne_true, if_neg Bool.false_ne_true, same]

/-! ### The drum slows down (R3, R8, R28, R36) -/

/-- The drum as it enters DECEL. -/
def drumSlowing (reverse : Bool) (p : Profile) (d : Drum) : Drum :=
  { d with
    state := if reverse then .decelReverse else .decelStop
    accelTimer := none
    stallTimer := none
    stopConfirmed := false
    stopDetect := some (p.stopDetectTime * 10)
    reversalRun := if reverse then 0 else d.reversalRun
    tangleRun := if reverse then 0 else d.tangleRun
    lock := if d.state = .run then false else d.lock }

theorem enterDecel_eq (reverse : Bool) (s : State) :
    enterDecel reverse s =
      { s with link := (lockLostLeaving s.drum s).link, drum := drumSlowing reverse s.profile s.drum } := by
  unfold enterDecel drumSlowing lockLostLeaving
  by_cases run : s.drum.state = .run
  · rw [if_pos run, if_pos run, loseLock_eq]
    cases lock : s.drum.lock <;> simp [run, lockLostGiven, State.updDrum, State.profile]
  · simp [run, State.updDrum]

/-! ### A stop request (R5) -/

/-- The drum after a stop request. -/
def drumStopped (p : Profile) (d : Drum) : Drum :=
  match d.state with
  | .stopped => { d with runPending := false, burst := false }
  | .surgeWait | .dwell => drumAtRest d
  | .accel | .run => drumSlowing false p d
  | .decelStop => { d with runPending := false }
  | .decelReverse => { d with state := .decelStop, runPending := false }

/-- What a stop request hands SAA. -/
def stopSends (d : Drum) : List DrumMsg :=
  if d.state = .surgeWait then [.withdrawal d.txn] else if d.state = .accel then [.release d.txn] else []

/-- What a stop request hands TRIP. -/
def stopEnds (d : Drum) : List TripMsg := if d.state = .surgeWait ∨ d.state = .dwell then drumEnds d else []

theorem drumStop_eq (s : State) :
    drumStop s =
      { s with
        link := (lockLostLeaving s.drum s).link
        drum := drumStopped s.profile s.drum
        paths := { s.paths with drumToSaa := s.paths.drumToSaa ++ stopSends s.drum, trip := s.paths.trip ++ stopEnds s.drum } } := by
  have stays (h : s.drum.state ≠ .run) : (lockLostLeaving s.drum s).link = s.link := by rw [lockLostLeaving, if_neg fun run => h run.1]
  unfold drumStop drumStopped stopSends stopEnds
  cases state : s.drum.state
  case run =>
    dsimp only
    rw [enterDecel_eq]
    simp
  case surgeWait | dwell =>
    rw [stays (by rw [state]; decide)]
    dsimp only
    rw [enterStopped_eq]
    simp [State.updDrum, State.updPaths, sendDrumToSaa]
  case accel =>
    dsimp only
    rw [stays (by rw [state]; decide), enterDecel_eq]
    simp [lockLostLeaving, sendDrumToSaa, State.updPaths, state, State.profile]
  all_goals
    rw [stays (by rw [state]; decide)]
    simp [State.updDrum, state]

/-- Settles O39: each request as what it does to the drum, its paths and the link. -/
theorem runAndStopRequestsByDrumState : Obligations.RunAndStopRequestsByDrumState := by
  intro s
  refine ⟨fun state => ⟨fun confirmed => ?_, fun unconfirmed => ?_, ?_⟩, fun state => ?_, fun state => ⟨?_, ?_⟩, fun state => ?_,
    fun state => ?_, fun state => ?_⟩
  · simp [runRequest, state, confirmed, startFromRest, enterSurgeWait, sendDrumToSaa, State.updDrum, State.updPaths]
  · simp [runRequest, state, unconfirmed]
  · simp [drumStop, state]
  · simp only [List.mem_cons, List.not_mem_nil, or_false] at state
    obtain h | h | h | h | h := state <;> simp [runRequest, h]
  · simp [runRequest, state]
  · simp [drumStop, state]
  · simp [drumStop, state]
  · rw [drumStop_eq]
    refine ⟨?_, ?_⟩
    · obtain h | h := state <;> simp [drumStopped, h, drumAtRest]
    · obtain h | h := state <;> simp [stopSends, stopEnds, drumEnds, h]
  · rw [drumStop_eq]
    refine ⟨?_, ?_⟩
    · obtain h | h := state <;> simp [drumStopped, h, drumSlowing]
    · obtain h | h := state <;> simp [stopSends, stopEnds, h]

/-! ### The drum leaves rest (R2, R6, R9) -/

/-- The drum asks for the surge with the given output, under the next number. -/
theorem startFromRest_eq (s : State) :
    startFromRest s =
      { s with
        drum := { s.drum with state := .surgeWait, dirOut := s.drum.direction, runPending := false, txn := s.drum.txn + 1 }
        paths := { s.paths with drumToSaa := s.paths.drumToSaa ++ [.request (s.drum.txn + 1)] } } := rfl

theorem endDwell_eq (s : State) :
    endDwell s =
      { s with
        drum := { s.drum with
          state := .surgeWait, dwellTimer := none, direction := s.drum.dirOut.opposite, dirOut := s.drum.dirOut.opposite,
          txn := s.drum.txn + 1 }
        paths := { s.paths with drumToSaa := s.paths.drumToSaa ++ [.request (s.drum.txn + 1)] } } := rfl

theorem isNone_false {α : Type} {o : Option α} (h : o ≠ none) : o.isNone = false := by
  cases o with
  | none => exact absurd rfl h
  | some _ => rfl

/-! ### The stop-detect timer (R3) -/

/-- The drum as an expiry of stop-detect finds it. -/
def stopSeen (d : Drum) : Drum := { d with stopDetect := none, stopConfirmed := true }

section
variable (running : s.drum.stopDetect ≠ none)
include running

theorem stopDetected_stays
    (state : s.drum.state ∈ [DrumState.surgeWait, .accel, .run, .dwell] ∨ s.drum.state = .stopped ∧ s.drum.runPending = false) :
    stopDetected s = s.updDrum stopSeen := by
  have on : s.drum.stopDetect.isNone = false := isNone_false running
  simp only [List.mem_cons, List.not_mem_nil, or_false] at state
  obtain (h | h | h | h) | ⟨h, idle⟩ := state
  all_goals simp [stopDetected, on, h]
  · rfl
  · rfl
  · rfl
  · rfl
  · simp [idle]
    rfl

theorem stopDetected_starts (stopped : s.drum.state = .stopped) (pending : s.drum.runPending = true) :
    stopDetected s = startFromRest (s.updDrum stopSeen) := by
  have on : s.drum.stopDetect.isNone = false := isNone_false running
  simp [stopDetected, on, stopped, pending]
  rfl

theorem stopDetected_rests (slowing : s.drum.state = .decelStop) :
    stopDetected s =
      if s.drum.runPending then startFromRest (enterStopped (s.updDrum stopSeen)) else enterStopped (s.updDrum stopSeen) := by
  have on : s.drum.stopDetect.isNone = false := isNone_false running
  have pending : (enterStopped (s.updDrum stopSeen)).drum.runPending = s.drum.runPending := by rw [enterStopped_eq]; rfl
  rw [← pending]
  simp [stopDetected, on, slowing]
  rfl

theorem stopDetected_turns (reversing : s.drum.state = .decelReverse) : stopDetected s = enterDwell (s.updDrum stopSeen) := by
  have on : s.drum.stopDetect.isNone = false := isNone_false running
  simp [stopDetected, on, reversing]
  rfl

end

/-- Settles O41: each timer and the surge grant by the drum's state. -/
theorem drumTimersAndSurgeGrant : Obligations.DrumTimersAndSurgeGrant := by
  refine ⟨fun n rest s handed => ⟨fun waits latest => ?_, fun other => ?_⟩, fun s => ⟨fun running => ⟨fun state => ?_, fun stopped pending => ?_,
    fun slowing => ?_, fun reversing dwells => ?_, fun reversing atOnce => ?_⟩, fun running dwells => ?_, fun _ => rfl, fun running => ?_⟩⟩
  · refine congrArg Host.Outcome.next ?_
    simp [takeSurgeGrant, handed, takeSurge, waits, latest, State.updPaths, State.updDrum, State.profile]
  · refine congrArg Host.Outcome.next ?_
    have notDue : ¬ (s.drum.state = .surgeWait ∧ n = s.drum.txn) := fun due => other.elim (fun h => h due.1) fun h => h due.2
    simp [takeSurgeGrant, handed, takeSurge, notDue, sendDrumToSaa, State.updPaths]
  · exact congrArg Host.Outcome.next (stopDetected_stays running state)
  · exact congrArg Host.Outcome.next (stopDetected_starts running stopped pending)
  · refine ⟨stopDetected s, rfl, ?_⟩
    rw [stopDetected_rests running slowing]
    cases pending : s.drum.runPending <;>
      simp [enterStopped_eq, startFromRest_eq, stopSeen, drumAtRest, drumEnds, pending, List.append_assoc]
  · refine congrArg Host.Outcome.next ((stopDetected_turns running reversing).trans ?_)
    simp [enterDwell, stopSeen, dwells, State.updDrum]
  · refine congrArg Host.Outcome.next ((stopDetected_turns running reversing).trans ?_)
    simp [enterDwell, stopSeen, atOnce, endDwell_eq, State.updDrum]
  · exact congrArg Host.Outcome.next (if_pos ⟨Option.isSome_iff_ne_none.mpr running, dwells⟩)
  · have on : s.drum.stallTimer.isNone = false := isNone_false running
    refine congrArg Host.Outcome.next ?_
    cases raised : s.drum.stallRaised <;> simp [stallExpires, on, raised, handCondition, State.updDrum, State.updPaths]

/-! ### A tach pulse (R3, R10, R40 to R43) -/

theorem efePulse_unknown {e : Efe} (p : Profile) (c : Nat) (unknown : e.phaseKnown = false) : efePulse p c e = e := by
  simp [efePulse, unknown]

theorem efePulse_known {e : Efe} (p : Profile) (c : Nat) (known : e.phaseKnown = true) :
    efePulse p c e =
      if p.windowStart < bump 255 e.position ∧ bump 255 e.position ≤ p.windowStart + p.windowLen then
        sample p c { e with position := bump 255 e.position }
      else { e with position := bump 255 e.position } := by
  rw [efePulse, if_pos known]

/-- Settles O42: DRUM's part of a pulse and EFE's, by the phase and the place in the window. -/
theorem tachPulseCountsAndSamples : Obligations.TachPulseCountsAndSamples := by
  intro current raw s
  refine ⟨(s.updDrum (drumPulse s.profile current.toNat)).updEfe (efePulse s.profile raw.toNat), rfl, rfl, efePulse_unknown _ _, ?_, rfl⟩
  rintro known pos rfl
  have pulse := efePulse_known s.profile raw.toNat known
  rw [bump] at pulse
  refine ⟨fun outside => ?_, fun after within => ⟨fun dry => ?_, fun wet => ?_⟩⟩
  · rw [if_neg fun inside => by omega] at pulse
    exact pulse
  · rw [if_pos ⟨after, within⟩, sample, if_neg (Nat.not_le.mpr dry)] at pulse
    exact pulse
  · rw [if_pos ⟨after, within⟩, sample, if_pos wet] at pulse
    exact pulse

end Sys2Proof.Machine
end

section
/-! SUPPORT. The turn and the tangle detection at a close, and what a fold brings: O45 and O47. -/

namespace Sys2Proof.Machine

variable {s t : State}

/-! ### The turn (R29, R30, R34, R37) -/

section
variable (run : s.drum.state = .run)
include run

theorem closeTurn_forced : closeTurn true s = enterDecel true s := by simp [closeTurn, run]

theorem closeTurn_guard (guard : s.drum.guardStage = true) :
    closeTurn false s = if s.drum.burst = true ∧ s.drum.burstRevs ≤ s.drum.reversalRun then drumStop s else s := by
  simp [closeTurn, run, guard]

theorem closeTurn_scheduled (noGuard : s.drum.guardStage = false) :
    closeTurn false s = if scheduledDue s.drum = true then enterDecel true s else s := by
  simp [closeTurn, run, noGuard]

/-- A close in RUN turns the drum round, ends a burst, or leaves the part as it is. -/
theorem closeTurn_cases (forced : Bool) :
    closeTurn forced s = enterDecel true s ∨ closeTurn forced s = drumStop s ∨ closeTurn forced s = s := by
  cases forced with
  | true => exact .inl (closeTurn_forced run)
  | false =>
    cases guard : s.drum.guardStage with
    | true =>
      rw [closeTurn_guard run guard]
      split
      · exact .inr (.inl rfl)
      · exact .inr (.inr rfl)
    | false =>
      rw [closeTurn_scheduled run guard]
      split
      · exact .inl rfl
      · exact .inr (.inr rfl)

theorem drumStop_of_run : drumStop s = enterDecel false s := by simp [drumStop, run]

end

theorem closeTurn_other (forced : Bool) (notRun : s.drum.state ≠ .run) : closeTurn forced s = s := if_pos notRun

theorem enterDecel_state (reverse : Bool) (s : State) :
    (enterDecel reverse s).drum.state = if reverse then .decelReverse else .decelStop := by rw [enterDecel_eq]; rfl

theorem enterDecel_link (reverse : Bool) (s : State) : (enterDecel reverse s).link = (lockLostLeaving s.drum s).link := by
  rw [enterDecel_eq]

theorem drumStop_link (s : State) : (drumStop s).link = (lockLostLeaving s.drum s).link := by rw [drumStop_eq]

/-- The turn of a RUN revolution's close as O45 states it. -/
theorem closeTurn_turns (forced : Bool) (run : s.drum.state = .run) :
    (forced = true → (closeTurn forced s).drum.state = .decelReverse) ∧
    (forced = false → s.drum.guardStage = false →
      (s.drum.dirOut = .fwd → (closeTurn forced s).drum.state =
        if s.drum.active.forward ≠ 0 ∧ s.drum.active.forward ≤ s.drum.reversalRun then .decelReverse else .run) ∧
      (s.drum.dirOut = .rev → (closeTurn forced s).drum.state =
        if s.drum.active.reverse ≤ s.drum.reversalRun then .decelReverse else .run)) ∧
    (forced = false → s.drum.guardStage = true →
      (closeTurn forced s).drum.state =
        if s.drum.burst = true ∧ s.drum.burstRevs ≤ s.drum.reversalRun then .decelStop else .run) := by
  refine ⟨?_, ?_, ?_⟩
  · rintro rfl
    rw [closeTurn_forced run, enterDecel_state]
    rfl
  · rintro rfl noGuard
    rw [closeTurn_scheduled run noGuard, apply_ite (fun u : State => u.drum.state), enterDecel_state, run]
    refine ⟨fun fwd => ?_, fun rev => ?_⟩
    · simp [scheduledDue, fwd]
    · simp [scheduledDue, rev]
  · rintro rfl guard
    rw [closeTurn_guard run guard, apply_ite (fun u : State => u.drum.state), drumStop_of_run run, enterDecel_state, run]
    rfl

/-! ### Tangle detection (R35 to R38) -/

theorem tangleThreshold_eq (p : Profile) (base : Nat) : tangleThreshold p base = base + base * p.tangleMargin / 256 := rfl

theorem closeTangle_skipped {q : Measured} (skip : s.drum.guardStage = true ∨ q.cls ≠ .steady) : closeTangle q s = (s, false) := if_pos skip

section
variable {q : Measured} (noGuard : s.drum.guardStage = false) (steady : q.cls = .steady)
include noGuard steady

theorem closeTangle_learning (unknown : s.drum.iBase = none) :
    closeTangle q s =
      (s.updDrum fun d =>
        { d with
          baseSum := d.baseSum + q.iRev
          baseCount := d.baseCount + 1
          iBase := if d.baseCount + 1 = 16 then some ((d.baseSum + q.iRev) / 16) else none }, false) := by
  simp [closeTangle, noGuard, steady, unknown]

variable {base : Nat} (known : s.drum.iBase = some base)
include known

theorem closeTangle_clears (below : q.iRev ≤ tangleThreshold s.profile base) :
    closeTangle q s = (s.updDrum fun d => { d with tangleRun := 0 }, false) := by
  simp [closeTangle, noGuard, steady, known, Nat.not_lt.mpr below]

theorem closeTangle_above (above : tangleThreshold s.profile base < q.iRev) :
    closeTangle q s =
      if s.drum.tangleRun + 1 = s.profile.tangleRun then
        (forceReversal q base (s.updDrum fun d => { d with tangleRun := bump 32 d.tangleRun }), true)
      else (s.updDrum fun d => { d with tangleRun := bump 32 d.tangleRun }, false) := by
  simp [closeTangle, noGuard, steady, known, above]

end

/-- TANGLE_REVERSAL with its event flag (R37 step 3). -/
def tangleReversalGiven (q : Measured) (base tangles : Nat) (s : State) : State :=
  raiseFlag .tangleReversal (report .drum .info 0x23
    (u16 q.number ++ u16 q.iRev ++ u16 (tangleThreshold s.profile base) ++ u8 tangles) s)

theorem tangleReversalGiven_link_congr {q : Measured} {base tangles : Nat} (link : t.link = s.link) (profile : t.profile = s.profile)
    (elapsed : t.cpx.cycleElapsed = s.cpx.cycleElapsed) :
    (tangleReversalGiven q base tangles t).link = (tangleReversalGiven q base tangles s).link := by
  unfold tangleReversalGiven
  rw [profile]
  exact raiseFlag_link_congr (report_link_congr link elapsed)

theorem forceReversal_drum (q : Measured) (base : Nat) (s : State) :
    (forceReversal q base s).drum = { s.drum with stageTangles := bump 255 s.drum.stageTangles } := by
  unfold forceReversal
  dsimp only
  split <;> simp [mestTangle]

theorem forceReversal_mest (q : Measured) (base : Nat) (s : State) :
    (forceReversal q base s).mest = { s.mest with b := 0, sparse := 0, sparseWarned := false } := by
  unfold forceReversal
  dsimp only
  split <;> simp [mestTangle]

theorem forceReversal_link (q : Measured) (base : Nat) (s : State) :
    (forceReversal q base s).link =
      (if s.drum.stageTangles = 8 then
        report .drum .warning 0x21 (u16 q.number ++ u8 9 ++ u16 base) (tangleReversalGiven q base (bump 255 s.drum.stageTangles) s)
      else tangleReversalGiven q base (bump 255 s.drum.stageTangles) s).link := by
  have given : (tangleReversalGiven q base (bump 255 s.drum.stageTangles)
      (mestTangle (s.updDrum fun d => { d with stageTangles := bump 255 s.drum.stageTangles }))).link =
      (tangleReversalGiven q base (bump 255 s.drum.stageTangles) s).link := tangleReversalGiven_link_congr rfl rfl rfl
  unfold forceReversal
  dsimp only
  by_cases ninth : s.drum.stageTangles = 8
  · rw [if_pos ninth, if_pos ninth, ninth]
    refine report_link_congr ?_ ?_
    · rw [ninth] at given
      exact given
    · simp [tangleReversalGiven, mestTangle]
  · rw [if_neg ninth, if_neg ninth]
    exact given

theorem report_flags (src : Source) (sev : Severity) (code : Byte) (data : List Byte) (s : State) :
    (report src sev code data s).link.flags = s.link.flags := by
  by_cases passes : sev.code ≤ s.link.level
  · by_cases room : s.link.reports.length < 8
    · rw [report_queued passes room, State.updLink_link]
    · rw [report_lost passes (Nat.not_lt.mp room), State.updLink_link]
  · rw [report_discarded (Nat.not_le.mp passes)]

/-- Settles O45: the turn by its equations, the tangle detection by the baseline and the threshold. -/
theorem runCloseReversesTheDrum : Obligations.RunCloseReversesTheDrum := by
  refine ⟨fun forced s run => ?_, fun q s noGuard steady => ⟨fun unknown early => ?_, fun unknown last => ?_, fun base known =>
    ⟨closeTangle_clears noGuard steady known, fun above early => ?_, fun above last => ?_⟩⟩, fun q s skip => closeTangle_skipped skip⟩
  · obtain ⟨forces, schedules, guards⟩ := closeTurn_turns forced run
    refine ⟨forces, schedules, guards, fun reversed => ?_, fun left => ?_, fun stays => ?_, drumStop_link s⟩
    · obtain eq | eq | eq := closeTurn_cases run forced
      · rw [eq, enterDecel_eq]
        exact ⟨rfl, rfl, by simp [drumSlowing, run], rfl⟩
      · rw [eq, drumStop_of_run run, enterDecel_state] at reversed
        cases reversed
      · rw [eq, run] at reversed
        cases reversed
    · obtain eq | eq | eq := closeTurn_cases run forced
      · rw [eq, enterDecel_link]
      · rw [eq, drumStop_link]
      · exact absurd (by rw [eq]; exact run) left
    · obtain eq | eq | eq := closeTurn_cases run forced
      · rw [eq, enterDecel_state] at stays
        cases stays
      · rw [eq, drumStop_of_run run, enterDecel_state] at stays
        cases stays
      · exact eq
  · rw [closeTangle_learning noGuard steady unknown]
    have notLast : ¬ s.drum.baseCount + 1 = 16 := by omega
    simp [State.updDrum, notLast, unknown]
  · rw [closeTangle_learning noGuard steady unknown]
    simp [last]
  · rw [closeTangle_above noGuard steady known above, if_neg early]
  · rw [closeTangle_above noGuard steady known above, if_pos last]
    dsimp only
    have link := forceReversal_link q base (s.updDrum fun d => { d with tangleRun := bump 32 d.tangleRun })
    have given : (tangleReversalGiven q base (bump 255 s.drum.stageTangles)
        (s.updDrum fun d => { d with tangleRun := bump 32 d.tangleRun })).link =
        (tangleReversalGiven q base (bump 255 s.drum.stageTangles) s).link := tangleReversalGiven_link_congr rfl rfl rfl
    refine ⟨rfl, by rw [forceReversal_drum]; rfl, by rw [forceReversal_mest]; rfl, ?_, ?_⟩
    · rw [link]
      split
      · rw [report_flags]
        exact congrArg Link.flags given |>.trans (congrArg (fun f : EventFlags => f.put .tangleReversal) (report_flags ..))
      · exact congrArg Link.flags given |>.trans (congrArg (fun f : EventFlags => f.put .tangleReversal) (report_flags ..))
    · rintro u rfl
      refine ⟨fun notNinth => ?_, fun ninth => ?_⟩
      · rw [link]
        exact (congrArg State.link (if_neg notNinth)).trans given
      · rw [link]
        refine (congrArg State.link (if_pos ninth)).trans ?_
        exact report_link_congr given (by simp [tangleReversalGiven])

/-! ### The dry decision (R61, R63) -/

theorem judgeDry_notDry (h : ∀ st, s.mest.stage = some st → st.dry = none) : judgeDry s = s := by
  unfold judgeDry
  split
  · rfl
  · next st stage => simp [h st stage]

section
variable {st : MestStage} {d : DryTarget} {v : Nat} (stage : s.mest.stage = some st) (dry : st.dry = some d) (f : s.mest.f = some v)
include stage dry f

theorem judgeDry_eq :
    judgeDry s =
      if s.mest.b + 1 = d.confirm ∧ dryCountAfter d v s.atu.exhaust s.mest.b = d.confirm ∧ s.mest.drySignalled = false then
        signalDry d st.ordinal v (s.updMest fun m => { m with b := dryCountAfter d v s.atu.exhaust s.mest.b })
      else s.updMest fun m => { m with b := dryCountAfter d v s.atu.exhaust s.mest.b } := by
  simp [judgeDry, stage, dry, f]

theorem judgeDry_wet (wet : d.target < v) : judgeDry s = s.updMest fun m => { m with b := 0 } := by
  have count : dryCountAfter d v s.atu.exhaust s.mest.b = 0 := if_pos wet
  rw [judgeDry_eq stage dry f, count, if_neg]
  rintro ⟨next, zero, _⟩
  omega

theorem judgeDry_uncorroborated (reached : v ≤ d.target) (cold : s.atu.exhaust.valid = false ∨ s.atu.exhaust.value < d.minExhaust) :
    judgeDry s = s := by
  have notHot : ¬ (s.atu.exhaust.valid = true ∧ d.minExhaust ≤ s.atu.exhaust.value) := fun hot =>
    cold.elim (fun invalid => by simp [invalid] at hot) fun below => by omega
  have count : dryCountAfter d v s.atu.exhaust s.mest.b = s.mest.b := (if_neg (Nat.not_lt.mpr reached)).trans (if_neg notHot)
  rw [judgeDry_eq stage dry f, count, if_neg]
  · rfl
  · rintro ⟨next, same, _⟩
    omega

theorem judgeDry_counts (reached : v ≤ d.target) (valid : s.atu.exhaust.valid = true) (hot : d.minExhaust ≤ s.atu.exhaust.value) :
    judgeDry s =
      if s.mest.b + 1 = d.confirm ∧ s.mest.drySignalled = false then
        signalDry d st.ordinal v (s.updMest fun m => { m with b := min d.confirm (s.mest.b + 1) })
      else s.updMest fun m => { m with b := min d.confirm (s.mest.b + 1) } := by
  have count : dryCountAfter d v s.atu.exhaust s.mest.b = min d.confirm (s.mest.b + 1) :=
    (if_neg (Nat.not_lt.mpr reached)).trans (if_pos ⟨valid, hot⟩)
  rw [judgeDry_eq stage dry f, count]
  refine if_congr ⟨fun ⟨next, _, unsent⟩ => ⟨next, unsent⟩, fun ⟨next, unsent⟩ => ⟨next, by omega, unsent⟩⟩ rfl rfl

end

theorem signalDry_paths (d : DryTarget) (ordinal f : Nat) (s : State) :
    (signalDry d ordinal f s).paths = { s.paths with dry := s.paths.dry ++ [ordinal] } := by
  simp [signalDry, sendDry]

theorem signalDry_link (d : DryTarget) (ordinal f : Nat) (s : State) :
    (signalDry d ordinal f s).link = (raiseFlag .dryReached (report .mest .info 0x30 (u16 f ++ u8 d.confirm ++ u16 ordinal) s)).link :=
  raiseFlag_link_congr (report_link_congr rfl rfl)

/-! ### The trend and the estimate (R66, R69, R70) -/

theorem trendStep_eq {v : Nat} (f : s.mest.f = some v) (eighth : s.mest.foldCounter % 8 = 0) :
    trendStep s = reestimate (s.updMest fun m =>
      { m with trend := (if s.mest.trend.length < 16 then s.mest.trend else s.mest.trend.drop 1) ++ [v] }) := by
  have value : v = s.mest.f.getD 0 := by rw [f]; rfl
  rw [trendStep, if_pos eighth, value]
  rfl

theorem estimateFor_notDry {m : Mest} {pt : Nat} (h : ∀ st, m.stage = some st → st.dry = none) : estimateFor m pt = none := by
  have none : m.stage.bind (·.dry) = none := by
    cases stage : m.stage with
    | none => rfl
    | some st => exact h st stage
  rw [estimateFor, none]

theorem estimateFor_dry {m : Mest} {st : MestStage} {d : DryTarget} (pt : Nat) (stage : m.stage = some st) (dry : st.dry = some d) :
    estimateFor m pt =
      if m.trend.length < 2 then none
      else if m.trend.headD 0 ≤ m.trend.getLastD 0 then none
      else if m.trend.getLastD 0 ≤ d.target then some 0
      else some (min 65535 ((m.trend.getLastD 0 - d.target) * 8 * (m.trend.length - 1) / (m.trend.headD 0 - m.trend.getLastD 0) * pt / 1000)) := by
  have target : m.stage.bind (·.dry) = some d := by rw [stage]; exact dry
  rw [estimateFor, target]

/-- Settles O47: the fold's three steps, the dry decision by its corroboration, the trend and the estimate by their cases. -/
theorem dryDecisionTrendAndEstimate : Obligations.DryDecisionTrendAndEstimate := by
  refine ⟨fun m s => ?_, fun number k sum s => ⟨fold_folded, fun few count counted atLimit => ⟨fun warned => ?_, fun unwarned => ?_⟩⟩,
    fun st d v s stage dry f => ⟨judgeDry_wet stage dry f, judgeDry_uncorroborated stage dry f, fun reached valid hot =>
      ⟨?_, fun last unsent => ?_, fun other => ?_⟩⟩, fun s => judgeDry_notDry, fun v s f => ⟨fun notEighth => if_neg notEighth, fun eighth => ?_⟩,
    fun m pt => ⟨estimateFor_notDry, fun st d stage dry => ?_⟩⟩
  · refine congrArg (fun u => trendStep (judgeDry u)) (congrArg s.updMest (funext fun x => ?_))
    cases x.f with
    | none => simp [filterStep_none]
    | some v => simp [filterStep_some]
  · subst counted
    rw [fold_sparseAsDry few atLimit, sparseWarnedOnce, if_pos warned]
  · subst counted
    rw [fold_sparseAsDry few atLimit, sparseWarnedOnce, if_neg (by simp [unwarned])]
  · rw [judgeDry_counts stage dry f reached valid hot]
    split
    · rw [signalDry_mest]
      rfl
    · rfl
  · have full : min d.confirm (s.mest.b + 1) = d.confirm := by omega
    rw [judgeDry_counts stage dry f reached valid hot, if_pos ⟨last, unsent⟩]
    have link := signalDry_link d st.ordinal v (s.updMest fun m => { m with b := min d.confirm (s.mest.b + 1) })
    have given := raiseFlag_link_congr (g := .dryReached) (report_link_congr (src := .mest) (sev := .info) (code := 0x30)
      (data := u16 v ++ u8 d.confirm ++ u16 st.ordinal) (s := s)
      (t := s.updMest fun m => { m with b := min d.confirm (s.mest.b + 1) }) rfl rfl)
    refine ⟨by rw [signalDry_mest], signalDry_paths .., ?_, link.trans given⟩
    rw [link, given]
    exact congrArg (fun f : EventFlags => f.put .dryReached) (report_flags ..)
  · rw [judgeDry_counts stage dry f reached valid hot, if_neg fun due => other.elim (fun h => h due.1) fun h => by simp [h] at due]
    rfl
  · rw [trendStep_eq f eighth]
    exact ⟨rfl, rfl⟩
  · rw [estimateFor_dry pt stage dry]
    refine ⟨fun short => if_pos short, fun oldest newest held head last => ?_⟩
    have heads : m.trend.headD 0 = oldest := by rw [List.headD_eq_head?_getD, head]; rfl
    have lasts : m.trend.getLastD 0 = newest := by rw [List.getLastD_eq_getLast?, last]; rfl
    rw [heads, lasts, if_neg (Nat.not_lt.mpr held)]
    refine ⟨fun rising => if_pos rising, fun falling reached => ?_, fun falling above => ?_⟩
    · rw [if_neg (Nat.not_le.mpr falling), if_pos reached]
    · rw [if_neg (Nat.not_le.mpr falling), if_neg (Nat.not_le.mpr above)]

end Sys2Proof.Machine
end

section
/-! SUPPORT. The index marker: opening, closing and recording a revolution, O43 and O44. -/

namespace Sys2Proof.Machine

variable {s t : State}

/-! ### The marker (R7, R10, R11, R17, R40) -/

/-- The part as a marker that is timed finds it: EFE's phase set and its sums cleared, the stall timer restarted in a driven state. -/
def markerHeard (s : State) : State :=
  { s with
    efe := ⟨true, 0, 0, 0, 0⟩
    drum := { s.drum with stallTimer := if s.drum.state.driven then some (s.profile.stallTime * 1000) else s.drum.stallTimer } }

/-- The next revolution is open. -/
def revOpened (d : Drum) : Drum := { d with openRev := some ⟨0, 0⟩ }

theorem indexMarker_untimed (elapsed : Nat) (untimed : s.drum.state.timesRevs = false) :
    exec (.indexMarker elapsed) s = .next { s with efe := ⟨true, 0, 0, 0, 0⟩ } :=
  congrArg Host.Outcome.next (if_neg (by simp [untimed]))

theorem markerHeard_eq (s : State) :
    (if (s.updEfe efeMarker).drum.state.driven then
      (s.updEfe efeMarker).updDrum fun d => { d with stallTimer := some ((s.updEfe efeMarker).profile.stallTime * 1000) }
    else s.updEfe efeMarker) = markerHeard s := by
  unfold markerHeard
  rw [State.updEfe_drum]
  cases s.drum.state.driven <;> rfl

section
variable (elapsed : Nat) (timed : s.drum.state.timesRevs = true)
include timed

theorem indexMarker_opens (none : s.drum.openRev = none) :
    exec (.indexMarker elapsed) s = .next ((endAccel (markerHeard s)).updDrum revOpened) := by
  refine congrArg Host.Outcome.next ((if_pos timed).trans ?_)
  rw [markerHeard_eq]
  have same : (markerHeard s).drum.openRev = .none := none
  simp only [same]
  rfl

theorem indexMarker_closes {o : OpenRev} (some : s.drum.openRev = some o) :
    exec (.indexMarker elapsed) s =
      .next ((endAccel (closeRevolution elapsed o s.efe.m s.efe.k s.efe.s (markerHeard s))).updDrum revOpened) := by
  refine congrArg Host.Outcome.next ((if_pos timed).trans ?_)
  rw [markerHeard_eq]
  have same : (markerHeard s).drum.openRev = .some o := some
  simp only [same]
  rfl

end

theorem endAccel_runs (accel : s.drum.state = .accel) (timer : s.drum.accelTimer = none) (clear : s.drum.stallRaised = false) :
    endAccel s = sendDrumToSaa (.release s.drum.txn) (s.updDrum fun d => { d with state := .run }) :=
  if_pos ⟨accel, by simp [timer], by simp [clear]⟩

theorem endAccel_stays (h : s.drum.state = .accel → s.drum.accelTimer ≠ none ∨ s.drum.stallRaised = true) : endAccel s = s := by
  refine if_neg fun ⟨accel, timer, clear⟩ => ?_
  obtain running | raised := h accel
  · exact running (Option.isNone_iff_eq_none.mp timer)
  · exact clear raised

theorem endAccel_notAccel (h : s.drum.state ≠ .accel) : endAccel s = s := endAccel_stays fun accel => absurd accel h

/-! ### The steps of a close (R11 to R18) -/

theorem closeLock_eq (q : Measured) (s : State) :
    closeLock q s =
      { s with
        link := (if s.drum.lock = true ∧ q.lock = false then lockLostGiven q.number s else s).link
        drum := { s.drum with revNumber := q.number, lock := q.lock } } := by
  unfold closeLock
  cases held : q.lock with
  | true => simp [State.updDrum]
  | false =>
    rw [if_neg Bool.false_ne_true, loseLock_eq]
    have given : (lockLostGiven q.number (s.updDrum fun d => { d with revNumber := q.number })).link = (lockLostGiven q.number s).link :=
      lockLostGiven_link_congr rfl rfl
    cases lock : s.drum.lock <;> simp [lock, given]

theorem closeRegulate_run {q : Measured} (wellFormed : q.wellFormed = true) (run : s.drum.state = .run) :
    closeRegulate q s = s.updDrum fun d => { d with offset := regulated s.profile q.delta d.offset } := if_pos ⟨wellFormed, run⟩

theorem closeRegulate_other {q : Measured} (h : q.wellFormed = false ∨ s.drum.state ≠ .run) : closeRegulate q s = s :=
  if_neg fun both => h.elim (fun malformed => by simp [malformed] at both) fun notRun => notRun both.2

theorem closeMalformed_wellFormed {q : Measured} (wellFormed : q.wellFormed = true) : closeMalformed q s = endMalformedRun s :=
  if_pos wellFormed

theorem closeMalformed_malformed {q : Measured} (malformed : q.wellFormed = false) :
    closeMalformed q s =
      { s with
        link := (report .drum .warning 0x20 (u16 q.number ++ u8 q.tach) s).link
        drum := { s.drum with malformedRun := bump 255 s.drum.malformedRun }
        paths := { s.paths with trip := s.paths.trip ++ if s.drum.malformedRun = 3 then [⟨.tach, false⟩] else [] } } := by
  have given : report .drum .warning 0x20 (u16 q.number ++ u8 q.tach) (s.updDrum fun d => { d with malformedRun := bump 255 d.malformedRun }) =
      { s with
        link := (report .drum .warning 0x20 (u16 q.number ++ u8 q.tach) s).link
        drum := { s.drum with malformedRun := bump 255 s.drum.malformedRun } } := by
    rw [report_eq, report_link_congr (s := s) (t := s.updDrum _) rfl rfl]
    rfl
  unfold closeMalformed
  rw [if_neg (by simp [malformed]), given]
  by_cases third : s.drum.malformedRun = 3 <;> simp [third, handCondition, State.updPaths]

/-- The history ring with a record at its tail (R18, R20). -/
def historyWith (r : RevRecord) (history : List RevRecord) : List RevRecord :=
  (if history.length < 32 then history else history.drop 1) ++ [r]

theorem closeHistory_eq (r : RevRecord) (s : State) :
    closeHistory r s = s.updDrum fun d => { d with history := historyWith r d.history, lastPeriod := r.period } := rfl

theorem closeCount_run (run : s.drum.state = .run) : closeCount s = s.updDrum fun d => { d with reversalRun := bump 255 d.reversalRun } :=
  if_pos run

theorem closeCount_other (notRun : s.drum.state ≠ .run) : closeCount s = s := if_neg notRun

/-- The part after the measures of a close: lock, regulation and the malformed run (R11 steps 3 and 4). -/
def closeJudged (q : Measured) (s : State) : State := closeMalformed q (closeRegulate q (closeLock q s))

/-- The record of a close (R18). -/
def closeRecord (q : Measured) (d : Drum) (m k : Nat) (outcome : FoldOutcome) (mRev : Option Nat) : RevRecord :=
  { number := q.number, direction := d.dirOut, period := q.period, tach := q.tach, state := d.state, lock := q.lock,
    cls := q.cls, iRev := q.iRev, m := m, k := k, mRev := mRev, outcome := outcome }

theorem closeRevolution_eq {q : Measured} (elapsed : Nat) (o : OpenRev) (m k sum : Nat) (s : State)
    (measured : measure s.profile s.drum o elapsed = q) :
    closeRevolution elapsed o m k sum s =
      closeTurn (closeTangle q (closeCount (closeHistory
          (closeRecord q s.drum m k (fold q.number q.cls k sum (closeJudged q s)).2.1 (fold q.number q.cls k sum (closeJudged q s)).2.2)
          (fold q.number q.cls k sum (closeJudged q s)).1))).2
        (closeTangle q (closeCount (closeHistory
          (closeRecord q s.drum m k (fold q.number q.cls k sum (closeJudged q s)).2.1 (fold q.number q.cls k sum (closeJudged q s)).2.2)
          (fold q.number q.cls k sum (closeJudged q s)).1))).1 := by
  subst measured
  rfl

/-! ### What a close measures (R10, R12, R13) -/

theorem meanCurrent_eq (sum tach : Nat) : (if tach = 0 then 0 else min 65535 (sum / tach)) = min 65535 (sum / tach) := by
  split
  · next zero => simp [zero]
  · rfl

section
variable (p : Profile) (d : Drum) (o : OpenRev) (elapsed : Nat)

/-- The measures of a malformed revolution. -/
def measuredMalformed : Measured :=
  ⟨(d.revNumber + 1) % 65536, min 65535 elapsed, (min 65535 elapsed : Nat) - targetPeriod d.active,
    if o.tach = 0 then 0 else min 65535 (o.currentSum / o.tach), o.tach, false, false, .malformed⟩

/-- The measures of a well-formed revolution, by the lock it leaves and its class. -/
def measuredWell (lock : Bool) (cls : RevClass) : Measured :=
  ⟨(d.revNumber + 1) % 65536, min 65535 elapsed, (min 65535 elapsed : Nat) - targetPeriod d.active, min 65535 (o.currentSum / o.tach),
    o.tach, true, lock, cls⟩

variable {p d o}

theorem measure_malformed (h : o.tach ≠ p.tachPulses) : measure p d o elapsed = measuredMalformed d o elapsed := by
  simp [measure, measuredMalformed, h, revClass]

theorem measure_rest (h : o.tach = p.tachPulses) (notRun : d.state ≠ .run) (clear : d.lock = false) :
    measure p d o elapsed = measuredWell d o elapsed false .ramp := by
  have mean := meanCurrent_eq o.currentSum o.tach
  rw [h] at mean
  simp [measure, measuredWell, h, notRun, clear, revClass, mean]

theorem measure_run (h : o.tach = p.tachPulses) (run : d.state = .run) {lock : Bool}
    (after : lockAfter p.late p.early ((min 65535 elapsed : Nat) - targetPeriod d.active) d.lock = lock) :
    measure p d o elapsed = measuredWell d o elapsed lock (if lock = true then .steady else .ramp) := by
  have mean := meanCurrent_eq o.currentSum o.tach
  rw [h] at mean
  have after' := after
  simp only [measure, measuredWell, h, run, revClass, mean, decide_true, Bool.not_true, Bool.false_eq_true, if_false, if_true, true_and]
  rw [after']

end

/-! ### The judgement of a close, by what it measures -/

theorem closeJudged_rest {q : Measured} (wellFormed : q.wellFormed = true) (notRun : s.drum.state ≠ .run) (clear : s.drum.lock = false)
    (stays : q.lock = false) :
    closeJudged q s =
      { s with
        drum := { s.drum with revNumber := q.number, malformedRun := 0 }
        paths := { s.paths with trip := s.paths.trip ++ if 4 ≤ s.drum.malformedRun then [⟨.tach, true⟩] else [] } } := by
  have same : ({ s.drum with revNumber := q.number, lock := false } : Drum) = { s.drum with revNumber := q.number } := by rw [← clear]
  unfold closeJudged
  rw [closeLock_eq, clear, if_neg fun h => Bool.false_ne_true h.1, stays, same, closeRegulate_other (.inr (by exact notRun)),
    closeMalformed_wellFormed wellFormed, endMalformedRun_eq]
  rfl

theorem closeJudged_run {q : Measured} (wellFormed : q.wellFormed = true) (run : s.drum.state = .run) :
    closeJudged q s =
      { s with
        link := (if s.drum.lock = true ∧ q.lock = false then lockLostGiven q.number s else s).link
        drum := { s.drum with
          revNumber := q.number, lock := q.lock, offset := regulated s.profile q.delta s.drum.offset, malformedRun := 0 }
        paths := { s.paths with trip := s.paths.trip ++ if 4 ≤ s.drum.malformedRun then [⟨.tach, true⟩] else [] } } := by
  unfold closeJudged
  rw [closeLock_eq, closeRegulate_run wellFormed, closeMalformed_wellFormed wellFormed, endMalformedRun_eq]
  · rfl
  · exact run

theorem closeJudged_malformed {q : Measured} (malformed : q.wellFormed = false) (lost : q.lock = false) :
    closeJudged q s =
      { s with
        link := (report .drum .warning 0x20 (u16 q.number ++ u8 q.tach) (if s.drum.lock = true then lockLostGiven q.number s else s)).link
        drum := { s.drum with revNumber := q.number, lock := false, malformedRun := bump 255 s.drum.malformedRun }
        paths := { s.paths with trip := s.paths.trip ++ if s.drum.malformedRun = 3 then [⟨.tach, false⟩] else [] } } := by
  unfold closeJudged
  rw [closeRegulate_other (.inl malformed), closeMalformed_malformed malformed, closeLock_eq, lost]
  have given : (report .drum .warning 0x20 (u16 q.number ++ u8 q.tach)
      { s with
        link := (if s.drum.lock = true ∧ false = false then lockLostGiven q.number s else s).link
        drum := { s.drum with revNumber := q.number, lock := false } }).link =
      (report .drum .warning 0x20 (u16 q.number ++ u8 q.tach) (if s.drum.lock = true then lockLostGiven q.number s else s)).link := by
    refine report_link_congr (by simp) ?_
    cases s.drum.lock <;> simp [lockLostGiven]
  rw [given]

/-! ### A close that folds nothing -/

theorem closeRevolution_unfolded {q : Measured} (elapsed : Nat) (o : OpenRev) (m k sum : Nat) (s : State)
    (measured : measure s.profile s.drum o elapsed = q) (notSteady : q.cls ≠ .steady) :
    closeRevolution elapsed o m k sum s =
      closeTurn false (closeCount (closeHistory (closeRecord q s.drum m k .skipped none) (closeJudged q s))) := by
  rw [closeRevolution_eq elapsed o m k sum s measured, fold_not_steady notSteady, closeTangle_skipped (.inr notSteady)]

theorem closeRevolution_rest {o : OpenRev} (elapsed m k sum : Nat) (wellFormed : o.tach = s.profile.tachPulses)
    (notRun : s.drum.state ≠ .run) (clear : s.drum.lock = false) :
    closeRevolution elapsed o m k sum s =
      { s with
        drum := { s.drum with
          revNumber := (s.drum.revNumber + 1) % 65536
          malformedRun := 0
          history := historyWith (closeRecord (measuredWell s.drum o elapsed false .ramp) s.drum m k .skipped none) s.drum.history
          lastPeriod := min 65535 elapsed }
        paths := { s.paths with trip := s.paths.trip ++ if 4 ≤ s.drum.malformedRun then [⟨.tach, true⟩] else [] } } := by
  rw [closeRevolution_unfolded elapsed o m k sum s (measure_rest elapsed wellFormed notRun clear) RevClass.noConfusion,
    closeJudged_rest rfl notRun clear rfl, closeHistory_eq, closeCount_other (by exact notRun), closeTurn_other false (by exact notRun)]
  rfl

/-- Settles O43: the marker by the drum's state and the revolution open. -/
theorem indexMarkerOutsideARevolution : Obligations.IndexMarkerOutsideARevolution := by
  intro elapsed s
  refine ⟨indexMarker_untimed elapsed, fun closed state => ?_, fun closed state => ?_, fun closed accel timer clear => ?_,
    fun o opened wellFormed clear state runs runs_eq => ?_⟩
  · obtain state | state := state
    all_goals
      rw [indexMarker_opens elapsed (by rw [state]; rfl) closed, endAccel_notAccel (by simp [markerHeard, state])]
      simp [markerHeard, revOpened, State.updDrum, state, DrumState.driven]
  · have timed : s.drum.state.timesRevs = true ∧ s.drum.state.driven = true := by
      obtain state | ⟨state, _⟩ := state <;> simp [state, DrumState.timesRevs, DrumState.driven]
    rw [indexMarker_opens elapsed timed.1 closed, endAccel_stays (s := markerHeard s) fun accel => ?_]
    · simp [markerHeard, revOpened, State.updDrum, timed.2]
    · obtain run | ⟨_, stays⟩ := state
      · rw [show (markerHeard s).drum.state = s.drum.state from rfl, run] at accel
        cases accel
      · exact stays
  · rw [indexMarker_opens elapsed (by rw [accel]; rfl) closed, endAccel_runs (s := markerHeard s) accel timer clear]
    simp [markerHeard, revOpened, State.updDrum, State.updPaths, sendDrumToSaa, accel, DrumState.driven]
  · have notRun : s.drum.state ≠ .run := by obtain h | h | h := state <;> simp [h]
    have timed : s.drum.state.timesRevs = true := by obtain h | h | h := state <;> simp [h, DrumState.timesRevs]
    have driven : s.drum.state.driven = decide (s.drum.state = .accel) := by obtain h | h | h := state <;> simp [h, DrumState.driven]
    rw [indexMarker_closes elapsed timed opened,
      closeRevolution_rest (s := markerHeard s) elapsed _ _ _ wellFormed notRun clear]
    subst runs_eq
    by_cases ends : s.drum.state = .accel ∧ s.drum.accelTimer = none ∧ s.drum.stallRaised = false
    · obtain ⟨accel, timer, notRaised⟩ := ends
      rw [endAccel_runs (by exact accel) (by exact timer) (by exact notRaised)]
      simp [markerHeard, revOpened, State.updDrum, State.updPaths, sendDrumToSaa, accel, timer, notRaised, DrumState.driven,
        historyWith, closeRecord, measuredWell]
    · rw [endAccel_stays fun accel => ?_]
      · simp [markerHeard, revOpened, State.updDrum, ends, driven, historyWith, closeRecord, measuredWell]
      · by_contra both
        simp only [not_or, not_not, Bool.not_eq_true] at both
        exact ends ⟨accel, both.1, both.2⟩

/-! ### A RUN revolution closed (R11 to R15) -/

theorem lockAfter_eq (late early : Nat) (delta : Int) (lock : Bool) :
    lockAfter late early delta lock =
      if -(early : Int) ≤ delta ∧ delta ≤ late then true
      else if 2 * (late : Int) < delta ∨ delta < -2 * (early : Int) then false else lock := rfl

/-- The tangle detection sets the baseline, the run and the stage's count alone of what DRUM holds (R35 to R37). -/
theorem closeTangle_drum (q : Measured) (s : State) :
    ∃ sum count base run tangles, (closeTangle q s).1.drum =
      { s.drum with baseSum := sum, baseCount := count, iBase := base, tangleRun := run, stageTangles := tangles } := by
  by_cases skip : s.drum.guardStage = true ∨ q.cls ≠ .steady
  · rw [closeTangle_skipped skip]
    exact ⟨_, _, _, _, _, rfl⟩
  · rw [not_or, not_not, Bool.not_eq_true] at skip
    obtain ⟨noGuard, steady⟩ := skip
    cases known : s.drum.iBase with
    | none =>
      rw [closeTangle_learning noGuard steady known]
      exact ⟨_, _, _, _, _, rfl⟩
    | some base =>
      obtain above | below := Nat.lt_or_ge (tangleThreshold s.profile base) q.iRev
      · rw [closeTangle_above noGuard steady known above]
        split
        · dsimp only
          rw [forceReversal_drum]
          exact ⟨_, _, _, _, _, rfl⟩
        · exact ⟨_, _, _, _, _, rfl⟩
      · rw [closeTangle_clears noGuard steady known below]
        exact ⟨_, _, _, _, _, rfl⟩

/-- The turn leaves the drum's records, and clears lock as it leaves RUN (R14). -/
theorem closeTurn_drum {forced : Bool} (run : s.drum.state = .run) :
    (closeTurn forced s).drum = s.drum ∨ ∃ reverse, (closeTurn forced s).drum = drumSlowing reverse s.profile s.drum := by
  obtain eq | eq | eq := closeTurn_cases run forced
  · exact .inr ⟨true, by rw [eq, enterDecel_eq]⟩
  · exact .inr ⟨false, by rw [eq, drumStop_of_run run, enterDecel_eq]⟩
  · exact .inl (by rw [eq])

theorem closeTurn_notAccel {forced : Bool} (run : s.drum.state = .run) : (closeTurn forced s).drum.state ≠ .accel := by
  obtain eq | ⟨reverse, eq⟩ := closeTurn_drum (forced := forced) run
  · rw [eq, run]
    decide
  · rw [eq]
    cases reverse <;> simp [drumSlowing]

/-- The close of a well-formed RUN revolution, up to its turn, from the part after its judgement. -/
def runClosed (q : Measured) (d : Drum) (m k sum : Nat) (u : State) : State × Bool :=
  closeTangle q ((fold q.number q.cls k sum u).1.updDrum fun c =>
    { c with
      history := historyWith (closeRecord q d m k (fold q.number q.cls k sum u).2.1 (fold q.number q.cls k sum u).2.2) c.history
      lastPeriod := q.period
      reversalRun := bump 255 c.reversalRun })

theorem closeRevolution_run {q : Measured} (elapsed : Nat) (o : OpenRev) (m k sum : Nat) (s : State) (run : s.drum.state = .run)
    (wellFormed : q.wellFormed = true) (measured : measure s.profile s.drum o elapsed = q) :
    closeRevolution elapsed o m k sum s =
      closeTurn (runClosed q s.drum m k sum (closeJudged q s)).2 (runClosed q s.drum m k sum (closeJudged q s)).1 := by
  rw [closeRevolution_eq elapsed o m k sum s measured, closeCount_run]
  · rfl
  · rw [closeHistory_eq, State.updDrum_drum]
    have drum : (fold q.number q.cls k sum (closeJudged q s)).1.drum = (closeJudged q s).drum := by simp
    rw [drum, closeJudged_run wellFormed run]
    exact run

theorem runClosed_state {q : Measured} {d : Drum} {m k sum : Nat} {u : State} (run : u.drum.state = .run) :
    (runClosed q d m k sum u).1.drum.state = .run := by
  obtain ⟨_, _, _, _, _, drum⟩ := closeTangle_drum q ((fold q.number q.cls k sum u).1.updDrum fun c =>
    { c with
      history := historyWith (closeRecord q d m k (fold q.number q.cls k sum u).2.1 (fold q.number q.cls k sum u).2.2) c.history
      lastPeriod := q.period
      reversalRun := bump 255 c.reversalRun })
  rw [runClosed, drum]
  simp [run]

/-- The marker that closes a well-formed RUN revolution, as a whole (R11). -/
theorem indexMarker_runCloses {o : OpenRev} {lock : Bool} (elapsed : Nat) (run : s.drum.state = .run) (opened : s.drum.openRev = some o)
    (wellFormed : o.tach = s.profile.tachPulses)
    (after : lockAfter s.profile.late s.profile.early ((min 65535 elapsed : Nat) - targetPeriod s.drum.active) s.drum.lock = lock)
    {q : Measured} (measured : q = measuredWell s.drum o elapsed lock (if lock = true then .steady else .ramp)) {w : State × Bool}
    (closed : w = runClosed q s.drum s.efe.m s.efe.k s.efe.s (closeJudged q (markerHeard s))) :
    exec (.indexMarker elapsed) s = .next ((closeTurn w.2 w.1).updDrum revOpened) := by
  subst closed measured
  have judged : (closeJudged (measuredWell s.drum o elapsed lock (if lock = true then .steady else .ramp)) (markerHeard s)).drum.state = .run := by
    rw [closeJudged_run (q := measuredWell s.drum o elapsed lock _) rfl (by exact run)]
    exact run
  rw [indexMarker_closes elapsed (by rw [run]; rfl) opened,
    closeRevolution_run (s := markerHeard s) elapsed o _ _ _ run rfl (measure_run (d := (markerHeard s).drum) elapsed wellFormed run after),
    endAccel_notAccel (closeTurn_notAccel (runClosed_state (by exact judged)))]
  rfl

/-- What a well-formed RUN close leaves after its judgement: lock with its report, the offset regulated, the malformed run ended. -/
def runJudged (q : Measured) (s : State) : State :=
  { s with
    efe := ⟨true, 0, 0, 0, 0⟩
    link := (if s.drum.lock = true ∧ q.lock = false then lockLostGiven q.number s else s).link
    drum := { s.drum with
      revNumber := q.number
      lock := q.lock
      stallTimer := some (s.profile.stallTime * 1000)
      malformedRun := 0
      offset := regulated s.profile q.delta s.drum.offset }
    paths := { s.paths with trip := s.paths.trip ++ if 4 ≤ s.drum.malformedRun then [⟨.tach, true⟩] else [] } }

theorem closeJudged_heard {q : Measured} (wellFormed : q.wellFormed = true) (run : s.drum.state = .run) :
    closeJudged q (markerHeard s) = runJudged q s := by
  have given : (if s.drum.lock = true ∧ q.lock = false then lockLostGiven q.number (markerHeard s) else markerHeard s).link =
      (if s.drum.lock = true ∧ q.lock = false then lockLostGiven q.number s else s).link := by
    split
    · exact lockLostGiven_link_congr rfl rfl
    · rfl
  have driven : s.drum.state.driven = true := by rw [run]; rfl
  rw [closeJudged_run wellFormed (by exact run), runJudged, ← given]
  simp [markerHeard, driven, State.profile]

theorem runClosed_eq {q : Measured} (d : Drum) (m k sum : Nat) (u : State) {v : State × FoldOutcome × Option Nat}
    (folded : v = fold q.number q.cls k sum u) :
    runClosed q d m k sum u =
      closeTangle q (v.1.updDrum fun c =>
        { c with
          history := historyWith (closeRecord q d m k v.2.1 v.2.2) u.drum.history
          lastPeriod := q.period
          reversalRun := bump 255 c.reversalRun }) := by
  subst folded
  have history : (fold q.number q.cls k sum u).1.drum.history = u.drum.history := by simp
  rw [runClosed, ← history]
  rfl

/-- What a well-formed RUN close leaves of DRUM, whatever the tangle detection and the turn do. -/
theorem runClosed_drum {q : Measured} (d : Drum) (m k sum : Nat) (u : State) :
    ∃ bSum count base run tangles turns outcome mRev, (q.cls ≠ .steady → outcome = .skipped ∧ mRev = none) ∧
      (runClosed q d m k sum u).1.drum =
        { u.drum with
          history := historyWith (closeRecord q d m k outcome mRev) u.drum.history, lastPeriod := q.period, reversalRun := turns,
          baseSum := bSum, baseCount := count, iBase := base, tangleRun := run, stageTangles := tangles } := by
  have kept : (fold q.number q.cls k sum u).1.drum = u.drum := by simp
  generalize folded : fold q.number q.cls k sum u = v at kept
  rw [runClosed_eq d m k sum u folded.symm]
  obtain ⟨bSum, count, base, run, tangles, drum⟩ := closeTangle_drum q (v.1.updDrum fun c =>
    { c with
      history := historyWith (closeRecord q d m k v.2.1 v.2.2) u.drum.history
      lastPeriod := q.period
      reversalRun := bump 255 c.reversalRun })
  refine ⟨bSum, count, base, run, tangles, bump 255 u.drum.reversalRun, v.2.1, v.2.2, fun notSteady => ?_, ?_⟩
  · rw [← folded, fold_not_steady notSteady]
    exact ⟨rfl, rfl⟩
  · rw [drum, State.updDrum_drum, kept]

/-- The RUN close's part of O44. -/
theorem indexMarker_runRecords {o : OpenRev} {lock : Bool} (elapsed : Nat) (run : s.drum.state = .run) (opened : s.drum.openRev = some o)
    (wellFormed : o.tach = s.profile.tachPulses)
    (after : lockAfter s.profile.late s.profile.early ((min 65535 elapsed : Nat) - targetPeriod s.drum.active) s.drum.lock = lock) :
    ∃ t outcome mRev, exec (.indexMarker elapsed) s = .next t ∧ (lock = false → outcome = .skipped ∧ mRev = none) ∧
      t.drum.history = historyWith (closeRecord (measuredWell s.drum o elapsed lock (if lock = true then .steady else .ramp)) s.drum
        s.efe.m s.efe.k outcome mRev) s.drum.history ∧
      t.drum.revNumber = (s.drum.revNumber + 1) % 65536 ∧ t.drum.lastPeriod = min 65535 elapsed ∧ t.drum.malformedRun = 0 ∧
      t.drum.openRev = some ⟨0, 0⟩ ∧ t.efe = ⟨true, 0, 0, 0, 0⟩ ∧
      t.drum.offset = regulated s.profile ((min 65535 elapsed : Nat) - targetPeriod s.drum.active) s.drum.offset ∧
      (t.drum.state = .run → t.drum.lock = lock) := by
  generalize measured : measuredWell s.drum o elapsed lock (if lock = true then .steady else .ramp) = q
  have whole := indexMarker_runCloses elapsed run opened wellFormed after measured.symm rfl
  have wellFormed' : q.wellFormed = true := by rw [← measured]; rfl
  have locked : q.lock = lock := by rw [← measured]; rfl
  have number : q.number = (s.drum.revNumber + 1) % 65536 := by rw [← measured]; rfl
  have period : q.period = min 65535 elapsed := by rw [← measured]; rfl
  have delta : q.delta = (min 65535 elapsed : Nat) - targetPeriod s.drum.active := by rw [← measured]; rfl
  rw [closeJudged_heard wellFormed' run] at whole
  obtain ⟨_, _, _, _, _, _, outcome, mRev, skipped, drum⟩ := runClosed_drum (q := q) s.drum s.efe.m s.efe.k s.efe.s (runJudged q s)
  have efe : (runClosed q s.drum s.efe.m s.efe.k s.efe.s (runJudged q s)).1.efe = ⟨true, 0, 0, 0, 0⟩ := by
    rw [runClosed]
    simp [runJudged]
  generalize runClosed q s.drum s.efe.m s.efe.k s.efe.s (runJudged q s) = w at whole drum efe
  have running : w.1.drum.state = .run := by rw [drum]; exact run
  refine ⟨_, outcome, mRev, whole, fun unlocked => skipped ?_, ?_⟩
  · rw [← measured]
    simp [measuredWell, unlocked]
  · rw [State.updDrum_efe, show (closeTurn w.2 w.1).efe = w.1.efe by simp, efe, State.updDrum_drum, ← number, ← delta, ← period, ← locked]
    obtain eq | ⟨reverse, eq⟩ := closeTurn_drum (forced := w.2) running
    · rw [eq, drum]
      exact ⟨rfl, rfl, rfl, rfl, rfl, rfl, rfl, fun _ => rfl⟩
    · rw [eq, drum]
      refine ⟨rfl, rfl, rfl, rfl, rfl, rfl, rfl, fun still => ?_⟩
      cases reverse <;> cases still

/-! ### A malformed revolution closed (R13, R16) -/

/-- The state a RUN close turns to without a forced reversal. -/
theorem closeTurn_state (run : s.drum.state = .run) :
    (closeTurn false s).drum.state =
      if s.drum.guardStage = true then (if s.drum.burst = true ∧ s.drum.burstRevs ≤ s.drum.reversalRun then .decelStop else .run)
      else if scheduledDue s.drum = true then .decelReverse else .run := by
  by_cases guard : s.drum.guardStage = true
  · rw [closeTurn_guard run guard, if_pos guard, apply_ite (fun u : State => u.drum.state), drumStop_of_run run, enterDecel_state, run]
    rfl
  · rw [closeTurn_scheduled run (Bool.eq_false_iff.mpr guard), if_neg guard, apply_ite (fun u : State => u.drum.state), enterDecel_state, run]
    rfl

/-- Without lock the turn reports nothing. -/
theorem closeTurn_unlocked {forced : Bool} (run : s.drum.state = .run) (clear : s.drum.lock = false) :
    closeTurn forced s = { s with drum := (closeTurn forced s).drum } := by
  have quiet : lockLostLeaving s.drum s = s := if_neg fun both => by simp [clear] at both
  obtain eq | eq | eq := closeTurn_cases run forced
  · rw [eq, enterDecel_eq, quiet]
  · rw [eq, drumStop_of_run run, enterDecel_eq, quiet]
  · rw [eq]

/-- The part after the record of a malformed close. -/
def malformedRecorded (elapsed : Nat) (o : OpenRev) (s : State) : State :=
  { s with
    efe := ⟨true, 0, 0, 0, 0⟩
    link := (report .drum .warning 0x20 (u16 ((s.drum.revNumber + 1) % 65536) ++ u8 o.tach)
      (if s.drum.lock = true then lockLostGiven ((s.drum.revNumber + 1) % 65536) s else s)).link
    drum := { s.drum with
      stallTimer := if s.drum.state.driven then some (s.profile.stallTime * 1000) else s.drum.stallTimer
      revNumber := (s.drum.revNumber + 1) % 65536
      lock := false
      malformedRun := bump 255 s.drum.malformedRun
      history := historyWith (closeRecord (measuredMalformed s.drum o elapsed) s.drum s.efe.m s.efe.k .skipped none) s.drum.history
      lastPeriod := min 65535 elapsed }
    paths := { s.paths with trip := s.paths.trip ++ if s.drum.malformedRun = 3 then [⟨.tach, false⟩] else [] } }

theorem indexMarker_malformed {o : OpenRev} (elapsed : Nat) (timed : s.drum.state.timesRevs = true) (opened : s.drum.openRev = some o)
    (malformed : o.tach ≠ s.profile.tachPulses) :
    exec (.indexMarker elapsed) s =
      .next ((endAccel (closeTurn false (closeCount (malformedRecorded elapsed o s)))).updDrum revOpened) := by
  have given : (report .drum .warning 0x20 (u16 ((s.drum.revNumber + 1) % 65536) ++ u8 o.tach)
        (if s.drum.lock = true then lockLostGiven ((s.drum.revNumber + 1) % 65536) (markerHeard s) else markerHeard s)).link =
      (report .drum .warning 0x20 (u16 ((s.drum.revNumber + 1) % 65536) ++ u8 o.tach)
        (if s.drum.lock = true then lockLostGiven ((s.drum.revNumber + 1) % 65536) s else s)).link := by
    refine report_link_congr ?_ ?_
    · split
      · exact lockLostGiven_link_congr rfl rfl
      · rfl
    · cases s.drum.lock <;> simp [lockLostGiven, markerHeard]
  have recorded : closeHistory (closeRecord (measuredMalformed s.drum o elapsed) (markerHeard s).drum s.efe.m s.efe.k .skipped none)
      (closeJudged (measuredMalformed s.drum o elapsed) (markerHeard s)) = malformedRecorded elapsed o s := by
    rw [closeJudged_malformed (q := measuredMalformed s.drum o elapsed) rfl rfl, malformedRecorded, ← given]
    rfl
  rw [indexMarker_closes elapsed timed opened, closeRevolution_unfolded (s := markerHeard s) elapsed o _ _ _
    (measure_malformed (d := (markerHeard s).drum) elapsed malformed) RevClass.noConfusion, ← recorded]
  rfl

/-- The malformed close's part of O44. -/
theorem indexMarker_malformedRecords {o : OpenRev} (elapsed : Nat) (timed : s.drum.state.timesRevs = true) (opened : s.drum.openRev = some o)
    (malformed : o.tach ≠ s.profile.tachPulses) :
    ∃ t, exec (.indexMarker elapsed) s = .next t ∧
      t.drum.history = (malformedRecorded elapsed o s).drum.history ∧ t.drum.lastPeriod = min 65535 elapsed ∧
      t.efe = ⟨true, 0, 0, 0, 0⟩ ∧ t.drum.offset = s.drum.offset ∧ t.mest = s.mest ∧ t.drum.lock = false ∧
      t.drum.malformedRun = bump 255 s.drum.malformedRun ∧
      t.paths.trip = s.paths.trip ++ (if s.drum.malformedRun = 3 then [⟨.tach, false⟩] else []) ∧
      t.drum.revNumber = (s.drum.revNumber + 1) % 65536 ∧ t.drum.openRev = some ⟨0, 0⟩ ∧
      t.link = (malformedRecorded elapsed o s).link ∧
      (s.drum.state = .accel →
        (s.drum.accelTimer = none ∧ s.drum.stallRaised = false →
          t.drum.state = .run ∧ t.paths.drumToSaa = s.paths.drumToSaa ++ [.release s.drum.txn]) ∧
        (s.drum.accelTimer ≠ none ∨ s.drum.stallRaised = true → t.drum.state = .accel ∧ t.paths.drumToSaa = s.paths.drumToSaa)) ∧
      (s.drum.state = .decelStop ∨ s.drum.state = .decelReverse → t.drum.state = s.drum.state) ∧
      (s.drum.state = .run → t.drum.state =
        (closeTurn false (s.updDrum fun d => { d with reversalRun := bump 255 d.reversalRun })).drum.state) := by
  have whole := indexMarker_malformed elapsed timed opened malformed
  by_cases run : s.drum.state = .run
  · have running : ((malformedRecorded elapsed o s).updDrum fun d => { d with reversalRun := bump 255 d.reversalRun }).drum.state = .run := run
    have turned := closeTurn_unlocked (forced := false) running rfl
    have state := closeTurn_state running
    rw [closeCount_run (by exact run), endAccel_notAccel (closeTurn_notAccel running), turned] at whole
    refine ⟨_, whole, ?_⟩
    have drum := closeTurn_drum (forced := false) running
    have turns : (closeTurn false ((malformedRecorded elapsed o s).updDrum fun d => { d with reversalRun := bump 255 d.reversalRun })).drum.state =
        (closeTurn false (s.updDrum fun d => { d with reversalRun := bump 255 d.reversalRun })).drum.state := by
      rw [state, closeTurn_state (s := s.updDrum _) (by exact run)]
      rfl
    have other (st : DrumState) (h : st ≠ .run) : s.drum.state ≠ st := fun same => h (same.symm.trans run)
    generalize (closeTurn false ((malformedRecorded elapsed o s).updDrum fun d => { d with reversalRun := bump 255 d.reversalRun })).drum = d
      at drum turns
    have clear : d.lock = false := by
      obtain rfl | ⟨reverse, rfl⟩ := drum
      · rfl
      · exact ite_self _
    refine ⟨?_, ?_, rfl, ?_, rfl, clear, ?_, rfl, ?_, rfl, rfl, fun accel => absurd accel (other _ (by decide)),
      fun slow => slow.elim (fun h => absurd h (other _ (by decide))) fun h => absurd h (other _ (by decide)), fun _ => turns⟩
    all_goals
      obtain rfl | ⟨reverse, rfl⟩ := drum
      · rfl
      · rfl
  · rw [closeCount_other (by exact run), closeTurn_other false (by exact run)] at whole
    by_cases ends : s.drum.state = .accel ∧ s.drum.accelTimer = none ∧ s.drum.stallRaised = false
    · obtain ⟨accel, timer, clear⟩ := ends
      rw [endAccel_runs (by exact accel) (by exact timer) (by exact clear)] at whole
      refine ⟨_, whole, rfl, rfl, rfl, rfl, rfl, rfl, rfl, rfl, rfl, rfl, rfl, fun _ => ⟨fun _ => ⟨rfl, rfl⟩, fun stays => ?_⟩,
        fun slow => ?_, fun h => absurd h run⟩
      · simp [timer, clear] at stays
      · simp [accel] at slow
    · rw [endAccel_stays (s := malformedRecorded elapsed o s) fun accel => ?_] at whole
      · exact ⟨_, whole, rfl, rfl, rfl, rfl, rfl, rfl, rfl, rfl, rfl, rfl, rfl,
          fun accel => ⟨fun due => absurd ⟨accel, due⟩ ends, fun _ => ⟨accel, rfl⟩⟩, fun _ => rfl, fun h => absurd h run⟩
      · by_contra both
        rw [not_or, not_not, Bool.not_eq_true] at both
        exact ends ⟨accel, both⟩

/-- Settles O44: the RUN close and the malformed close by what each records, and the RUN close as a whole in the order of its steps. -/
theorem closedRevolutionIsRecorded : Obligations.ClosedRevolutionIsRecorded := by
  refine ⟨fun elapsed o s period delta lock run opened wellFormed _ period_eq delta_eq lock_eq => ?_,
    fun elapsed o s timed opened malformed => ?_,
    fun elapsed o s run opened wellFormed n n_eq period period_eq delta delta_eq lock lock_eq cls cls_eq iRev iRev_eq u u_eq v v_eq w w_eq => ?_⟩
  · subst period_eq delta_eq
    obtain ⟨t, outcome, mRev, whole, skipped, history, rest⟩ := indexMarker_runRecords elapsed run opened wellFormed lock_eq.symm
    obtain ⟨number, last, malformed, opens, efe, offset, locks⟩ := rest
    exact ⟨t, _, _, whole, history, rfl, rfl, rfl, rfl, rfl, run, rfl, rfl, rfl, rfl, rfl, skipped, number, last, malformed, opens, efe,
      offset, locks⟩
  · obtain ⟨t, whole, history, last, efe, offset, mest, lock, malformedRun, trip, number, opens, link, accel, slow, runs⟩ :=
      indexMarker_malformedRecords elapsed timed opened malformed
    exact ⟨t, _, _, whole, history, rfl, rfl, rfl, last, rfl, rfl, rfl, efe, rfl, rfl, rfl, rfl, rfl, rfl, offset, mest, lock, malformedRun,
      trip, rfl, number, opens, link, accel, slow, runs⟩
  · subst n_eq period_eq delta_eq cls_eq iRev_eq
    have judged := closeJudged_heard (q := measuredWell s.drum o elapsed lock (if lock = true then .steady else .ramp)) rfl run
    have closes := indexMarker_runCloses elapsed run opened wellFormed lock_eq.symm rfl rfl
    have u_judged : runJudged (measuredWell s.drum o elapsed lock (if lock = true then .steady else .ramp)) s = u := u_eq.symm
    rw [judged, u_judged, runClosed_eq s.drum s.efe.m s.efe.k s.efe.s u v_eq] at closes
    have history : u.drum.history = s.drum.history := by rw [u_eq]
    have record : closeRecord (measuredWell s.drum o elapsed lock (if lock = true then .steady else .ramp)) s.drum s.efe.m s.efe.k v.2.1 v.2.2 =
        ⟨(s.drum.revNumber + 1) % 65536, s.drum.dirOut, min 65535 elapsed, o.tach, .run, lock, if lock = true then .steady else .ramp,
          min 65535 (o.currentSum / o.tach), s.efe.m, s.efe.k, v.2.2, v.2.1⟩ := by rw [closeRecord, run]; rfl
    rw [history, record] at closes
    subst w_eq
    exact closes

end Sys2Proof.Machine
end

section
/-! SUPPORT. The drum through the moves of the cycle, and its exits: O40. -/

namespace Sys2Proof.Machine

variable {s t : State}

/-! ### The requests at the drum -/

/-- The drum after a run request. -/
def drumRan (d : Drum) : Drum :=
  match d.state with
  | .stopped =>
    if d.stopConfirmed then { d with state := .surgeWait, dirOut := d.direction, runPending := false, txn := d.txn + 1 }
    else { d with runPending := true }
  | .decelStop => { d with runPending := true }
  | .surgeWait | .accel | .run | .decelReverse | .dwell => d

theorem runRequest_drum (s : State) : (runRequest s).drum = drumRan s.drum := by
  cases state : s.drum.state
  case stopped => cases confirmed : s.drum.stopConfirmed <;> simp [runRequest, drumRan, state, confirmed, startFromRest_eq]
  all_goals simp [runRequest, drumRan, state]

theorem drumStop_drum (s : State) : (drumStop s).drum = drumStopped s.profile s.drum := by rw [drumStop_eq]

/-! ### The moves that run and stop requests bring -/

/-- The states in which the drum is at rest or on its way from it. -/
def DrumState.atRest : DrumState → Bool
  | .stopped | .surgeWait | .dwell => true
  | .accel | .run | .decelStop | .decelReverse => false

/-- Where run and stop requests take a drum: nowhere, from motion to DECEL (STOP), or from rest to SURGE_WAIT and STOPPED. -/
def requestsTake (a b : DrumState) : Prop :=
  b = a ∨ (a.atRest = false ∧ b = .decelStop) ∨ a.atRest = true ∧ (b = .surgeWait ∨ b = .stopped)

/-- The direction output moves on the way to SURGE_WAIT alone, out of rest. -/
def turnsAtRest (d e : Drum) : Prop :=
  e.dirOut ≠ d.dirOut →
    (e.state = .surgeWait ∨ e.state = .stopped) ∧ d.state.atRest = true

/-- A drum that nothing but run and stop requests has moved. -/
structure DrumGoes (d e : Drum) : Prop where
  state : requestsTake d.state e.state
  turns : turnsAtRest d e

theorem DrumGoes.of_eq {d e : Drum} (state : e.state = d.state) (dirOut : e.dirOut = d.dirOut) : DrumGoes d e :=
  ⟨.inl state, fun turned => absurd dirOut turned⟩

theorem DrumGoes.refl (d : Drum) : DrumGoes d d := .of_eq rfl rfl

theorem requestsTake_rest {a b : DrumState} (h : requestsTake a b) : b.atRest = a.atRest := by
  obtain rfl | ⟨moving, rfl⟩ | ⟨rest, rfl | rfl⟩ := h
  · rfl
  · rw [moving]; rfl
  · rw [rest]; rfl
  · rw [rest]; rfl

/-- What requests reach from what they reach. -/
theorem requestsTake_trans {a b c : DrumState} (h : requestsTake a b) (h' : requestsTake b c) : requestsTake a c := by
  have same := requestsTake_rest h
  obtain rfl | ⟨moving, rfl⟩ | ⟨rest, ends⟩ := h'
  · exact h
  · exact .inr (.inl ⟨same ▸ moving, rfl⟩)
  · exact .inr (.inr ⟨same ▸ rest, ends⟩)

theorem DrumGoes.trans {d e f : Drum} (h : DrumGoes d e) (h' : DrumGoes e f) : DrumGoes d f := by
  refine ⟨requestsTake_trans h.state h'.state, fun turned => ?_⟩
  have same := requestsTake_rest h.state
  by_cases first : e.dirOut = d.dirOut
  · obtain ⟨rests, left⟩ := h'.turns (by rw [first]; exact turned)
    exact ⟨rests, same ▸ left⟩
  · obtain ⟨rests, left⟩ := h.turns first
    refine ⟨?_, left⟩
    obtain stays | ⟨moving, _⟩ | ⟨_, ends⟩ := h'.state
    · rw [stays]
      exact rests
    · rw [same, left] at moving
      cases moving
    · exact ends

theorem drumStopped_goes (p : Profile) (d : Drum) : DrumGoes d (drumStopped p d) := by
  have takes : requestsTake d.state (drumStopped p d).state := by
    unfold drumStopped
    cases state : d.state
    case stopped | decelStop => exact .inl rfl
    case surgeWait | dwell => exact .inr (.inr ⟨rfl, .inr rfl⟩)
    all_goals exact .inr (.inl ⟨rfl, rfl⟩)
  have kept : (drumStopped p d).dirOut = d.dirOut := by
    unfold drumStopped
    split <;> rfl
  exact ⟨takes, fun turned => absurd kept turned⟩

theorem drumRan_goes (d : Drum) : DrumGoes d (drumRan d) := by
  unfold drumRan
  split
  · next state =>
    have rest : d.state.atRest = true := by rw [state]; rfl
    split
    · exact ⟨.inr (.inr ⟨rest, .inl rfl⟩), fun _ => ⟨.inl rfl, rest⟩⟩
    · exact .of_eq rfl rfl
  all_goals exact .of_eq rfl rfl

/-! ### The cycle's moves at the drum -/

theorem enterPaused_drum (cause : PauseCause) (s : State) : (enterPaused cause s).drum = drumStopped s.profile s.drum := by
  unfold enterPaused
  dsimp only
  split <;> simp [drumStop_drum, State.profile_eq]

theorem enterDone_drum (reason : EndReason) (s : State) : (enterDone reason s).drum = drumStopped s.profile s.drum := by
  simp [enterDone, drumStop_drum, State.profile_eq]

theorem enterStarved_drum (s : State) :
    (enterStarved s).drum = if s.atu.door.isClosed then s.drum else drumStopped s.profile s.drum := by
  unfold enterStarved
  cases closed : s.atu.door.isClosed <;> simp [closed, enterPaused_drum, State.profile_eq]

/-- The drum with a stage's settings installed (R23). -/
def stageInstalled (r : StageRec) (d : Drum) : Drum :=
  installPattern r.kind r.pattern r.burstRevs (if r.pattern = d.activeIdx then d.offset else 0) 0 d

theorem stageStarted_drum (r : StageRec) (s : State) :
    (stageStarted r s).drum =
      if r.kind = .guard then drumStopped s.profile (stageInstalled r s.drum) else drumRan (stageInstalled r s.drum) := by
  unfold stageStarted
  by_cases guard : r.kind = .guard
  · simp [guard, drumStop_drum, drumStageStart, stageInstalled, State.profile_eq]
  · simp [guard, runRequest_drum, drumStageStart, stageInstalled]

theorem stageInstalled_goes (r : StageRec) (d : Drum) : DrumGoes d (stageInstalled r d) := .of_eq rfl rfl

theorem stageStarted_goes (r : StageRec) (s : State) : DrumGoes s.drum (stageStarted r s).drum := by
  rw [stageStarted_drum]
  split
  · exact (stageInstalled_goes r _).trans (drumStopped_goes _ _)
  · exact (stageInstalled_goes r _).trans (drumRan_goes _)

theorem enterPaused_goes (cause : PauseCause) (s : State) : DrumGoes s.drum (enterPaused cause s).drum := by
  rw [enterPaused_drum]
  exact drumStopped_goes _ _

theorem enterDone_goes (reason : EndReason) (s : State) : DrumGoes s.drum (enterDone reason s).drum := by
  rw [enterDone_drum]
  exact drumStopped_goes _ _

theorem enterStarved_goes (s : State) : DrumGoes s.drum (enterStarved s).drum := by
  rw [enterStarved_drum]
  split
  · exact .refl _
  · exact drumStopped_goes _ _

theorem drumStop_goes (s : State) : DrumGoes s.drum (drumStop s).drum := by
  rw [drumStop_drum]
  exact drumStopped_goes _ _

theorem runRequest_goes (s : State) : DrumGoes s.drum (runRequest s).drum := by
  rw [runRequest_drum]
  exact drumRan_goes _

theorem burstRequest_goes (s : State) : DrumGoes s.drum (burstRequest s).drum := by
  unfold burstRequest
  split
  · exact .trans (e := (s.updDrum _).drum) (.of_eq rfl rfl) (runRequest_goes _)
  · exact .refl _

theorem startStages_goes (l : List StageRec) (s : State) : DrumGoes s.drum (startStages l s).drum := by
  induction l generalizing s with
  | nil => exact .refl _
  | cons r rest ih =>
    have dropped : DrumGoes (stageStarted r s).drum (dropHead .door rest (drumStop (stageStarted r s))).drum := drumStop_goes _
    unfold startStages
    dsimp only
    refine (stageStarted_goes r s).trans ?_
    split
    · exact .refl _
    · split
      · refine dropped.trans ?_
        split
        · exact enterDone_goes _ _
        · cases rest with
          | nil => exact enterStarved_goes _
          | cons _ _ => exact ih _
      · exact enterPaused_goes _ _

theorem startHead_goes (s : State) : DrumGoes s.drum (startHead s).drum := startStages_goes _ _

theorem retire_goes (reason : ExitReason) (s : State) : DrumGoes s.drum (retire reason s).drum := by
  unfold retire
  split
  · exact .refl _
  · next r rest held =>
    dsimp only
    generalize reported : (if r.kind = .dry ∧ reason = .time then
        report .cpx .info 0x52 (u16 s.cpx.ordinal ++ optField 2 u16 s.mest.f ++ u8 s.mest.b) s else s) = u
    have same : u.drum = s.drum := by
      rw [← reported]
      split <;> simp
    rw [← same]
    refine .trans (e := (dropHead reason rest u).drum) (.refl _) ?_
    split
    · exact enterDone_goes _ _
    · cases rest with
      | nil => exact enterStarved_goes _
      | cons _ _ => exact startHead_goes _

theorem DrumGoes.of_drum (h : t.drum = s.drum) : DrumGoes s.drum t.drum := .of_eq (by rw [h]) (by rw [h])

theorem drumGoes_ite {p : Prop} [Decidable p] {a b : State} (ha : DrumGoes s.drum a.drum) (hb : DrumGoes s.drum b.drum) :
    DrumGoes s.drum (if p then a else b).drum := by
  split
  · exact ha
  · exact hb

/-! ### What the blocks hand CPX, at the drum -/

theorem judgeCooled_goes (value : Int) (valid : Bool) (s : State) : DrumGoes s.drum (judgeCooled value valid s).drum := by
  unfold judgeCooled
  split
  · exact drumGoes_ite (retire_goes _ s) (.refl _)
  · exact .refl _

theorem cpxDoorOpened_goes (s : State) : DrumGoes s.drum (cpxDoorOpened s).drum := by
  unfold cpxDoorOpened
  split
  · split
    · exact drumGoes_ite ((drumStop_goes s).trans (retire_goes _ _)) (enterPaused_goes _ s)
    · exact enterPaused_goes _ _
  · exact enterPaused_goes _ _
  all_goals exact .refl _

theorem doorOpened_goes (s : State) : DrumGoes s.drum (doorOpened s).drum := by
  unfold doorOpened
  dsimp only
  generalize off : (if s.atu.blower = .off then s else enterOff s) = u
  have same : u.drum = s.drum := by
    rw [← off]
    split <;> simp
  obtain ⟨_, _, _, _, drum, _⟩ := hstgStop_frame false (cpxDoorOpened u)
  rw [← same, drum]
  exact cpxDoorOpened_goes u

theorem doorDebounced_goes (s : State) : DrumGoes s.drum (doorDebounced s).drum := by
  unfold doorDebounced
  refine drumGoes_ite (.refl _) ?_
  dsimp only
  split
  · exact doorOpened_goes (s.updAtu _)
  · exact .of_drum (by simp)
  all_goals exact .refl _

theorem dryReached_goes (ordinal : Nat) (s : State) : DrumGoes s.drum (dryReached ordinal s).drum := by
  unfold dryReached
  split
  · exact .refl _
  · refine drumGoes_ite ?_ (.refl _)
    split
    · exact drumGoes_ite (retire_goes _ s) (.refl _)
    all_goals exact .refl _

theorem countSecond_goes (s : State) : DrumGoes s.drum (countSecond s).drum := by
  have judged (u : State) : DrumGoes u.drum (judgeCount u).drum := by
    unfold judgeCount
    split
    · exact .refl _
    · exact drumGoes_ite (retire_goes _ u) (drumGoes_ite (retire_goes _ u) (drumGoes_ite (burstRequest_goes u) (.refl _)))
  unfold countSecond
  split
  · exact judged (s.updCpx _)
  all_goals exact .refl _

theorem starveExpires_goes (s : State) : DrumGoes s.drum (starveExpires s).drum := by
  unfold starveExpires
  split
  · exact drumGoes_ite (enterDone_goes _ s) (.refl _)
  · exact .refl _

/-! ### TRIP at the drum -/

theorem stopEffects_goes (severe : Bool) (s : State) : DrumGoes s.drum (stopEffects severe s).drum := by
  have stopped : DrumGoes s.drum (blowerRequest (if severe then .off else .runOn) (drumStop (hstgStop true (cpxFault s)))).drum := by
    have same : (hstgStop true (cpxFault s)).drum = s.drum := by simp
    have moved := drumStop_goes (hstgStop true (cpxFault s))
    rw [same] at moved
    simpa using moved
  unfold stopEffects
  split
  · exact stopped
  · exact stopped
  · exact stopped
  all_goals exact .of_drum (by split <;> simp)

theorem cpxSilence_goes (s : State) : DrumGoes s.drum (cpxSilence s).drum := by
  unfold cpxSilence
  split
  · exact enterPaused_goes _ _
  · exact enterPaused_goes _ _
  all_goals exact .refl _

theorem takeCondition_goes (c : TripCause) (s : State) : DrumGoes s.drum (takeCondition c s).drum := by
  unfold takeCondition
  refine drumGoes_ite (.refl _) ?_
  dsimp only
  generalize entered : raiseFlag .tripRaised _ = u
  have same : u.drum = s.drum := by
    rw [← entered]
    simp
  rw [← same]
  unfold classEffects
  split
  · exact stopEffects_goes _ _
  · exact stopEffects_goes _ _
  · exact cpxSilence_goes _

theorem takeConditionEnd_drum (c : TripCause) (s : State) : (takeConditionEnd c s).drum = s.drum := by simp

theorem takeTripMsg_goes {m : TripMsg} {act : State → State} (h : ∀ u : State, DrumGoes u.drum (act u).drum) (s : State) :
    DrumGoes s.drum (takeTripMsg m act s).drum := by
  unfold takeTripMsg
  exact drumGoes_ite (h (s.updPaths _)) (.refl _)

theorem settleFor_goes (f : InFrame) (s : State) : DrumGoes s.drum (settleFor f s).drum := by
  have settled (ms : List TripMsg) : ∀ (n : Nat) (u : State), DrumGoes u.drum (settleSilence n ms u).drum := by
    induction ms with
    | nil => intro n u; cases n <;> exact .refl _
    | cons m ms ih =>
      intro n u
      cases n with
      | zero => exact .refl _
      | succ n =>
        have takes (v : State) : DrumGoes v.drum (tripTakes m v).drum := by
          unfold tripTakes
          split
          · exact .of_drum (takeConditionEnd_drum _ _)
          · exact takeCondition_goes _ _
        exact drumGoes_ite ((takeTripMsg_goes takes u).trans (ih _ _)) (ih _ _)
  exact settled _ _ _

/-! ### The requests CPX owns, at the drum -/

theorem ownPlanAppend_goes (payload : List Byte) (s : State) : DrumGoes s.drum (ownPlanAppend payload s).1.drum := by
  unfold ownPlanAppend
  dsimp only
  split
  · exact .refl _
  · split
    · exact .refl _
    · split
      · exact .refl _
      · split
        · exact .refl _
        · split
          · exact .of_drum (by simp [setPlan])
          · have moved (l : List StageRec) := startHead_goes (enterCycle .running ((setPlan l s).updCpx fun c => { c with starve := none }))
            simpa [setPlan] using moved _
          all_goals exact .refl _

theorem ownStart_goes (s : State) : DrumGoes s.drum (ownStart s).1.drum := by
  unfold ownStart
  split
  · exact .refl _
  · split
    · exact .refl _
    · split
      · exact .refl _
      · dsimp only
        generalize begun : enterCycle .running _ = u
        refine .trans (e := u.drum) ?_ (startHead_goes u)
        rw [← begun]
        exact .of_eq (by simp [mestStart]) (by simp [mestStart])

theorem ownResume_goes (s : State) : DrumGoes s.drum (ownResume s).1.drum := by
  have asked (guard : Prop) [Decidable guard] (u : State) : DrumGoes u.drum (if guard then u else runRequest u).drum :=
    drumGoes_ite (.refl _) (runRequest_goes u)
  have stage (r : StageRec) (u : State) : DrumGoes u.drum (resumeStage r u).drum := by
    have moved := asked (r.kind = .guard) (drumResume (mestResume (u.updCpx fun c => { c with cycle := .running })))
    have resumed : DrumGoes u.drum (drumResume (mestResume (u.updCpx fun c => { c with cycle := .running }))).drum := .of_eq rfl rfl
    refine resumed.trans ?_
    simpa [resumeStage] using moved
  have starved (u : State) : DrumGoes u.drum (resumeStarved u).drum := by
    have moved := asked (u.drum.guardStage = true) (drumResume (mestResume (u.updCpx fun c => { c with cycle := .starved })))
    have resumed : DrumGoes u.drum (drumResume (mestResume (u.updCpx fun c => { c with cycle := .starved }))).drum := .of_eq rfl rfl
    refine resumed.trans ?_
    have guard : (drumResume (mestResume (u.updCpx fun c => { c with cycle := .starved }))).drum.guardStage = u.drum.guardStage := rfl
    simpa [resumeStarved, guard] using moved
  have head (u : State) : DrumGoes u.drum (resumeHead u).drum := by
    have moved := startHead_goes (blowerRequest .on (enterCycle .running u))
    simpa [resumeHead] using moved
  unfold ownResume
  split
  · exact .refl _
  · split
    · exact .refl _
    · split
      · exact .refl _
      · split
        · exact .refl _
        · dsimp only
          generalize cleared : State.updCpx _ (_ : Cpx → Cpx) = u
          have same : u.drum = s.drum := by
            rw [← cleared]
            rfl
          rw [← same]
          split
          · exact stage _ _
          · split
            · exact starved _
            · exact head _

/-! ### A delivery -/

/-- A delivery moves the part by the settling of the host's silence and then by its owner, and nothing else but LINK. -/
theorem serve_leads {R : State → State → Prop} (trans : ∀ {a b c : State}, R a b → R b c → R a c)
    (ofLink : ∀ (u : State) (f : Link → Link), R u (u.updLink f)) (settles : ∀ (f : InFrame) (u : State), R u (settleFor f u))
    {kind tag : Byte} {payload : List Byte} {owner : State → State × ReplyCode} (owns : ∀ u, R u (owner u).1) (s : State) :
    R s (serve kind tag payload owner s) := by
  unfold serve
  split
  · exact ofLink s id
  · next f rest due =>
    dsimp only
    split
    · exact trans (ofLink s _) (ofLink _ _)
    · split
      · exact trans (trans (ofLink s _) (settles f _)) (trans (owns _) (ofLink _ _))
      · exact trans (ofLink s _) (ofLink _ _)

theorem serve_goes {kind tag : Byte} {payload : List Byte} {owner : State → State × ReplyCode}
    (owns : ∀ u : State, DrumGoes u.drum (owner u).1.drum) (s : State) : DrumGoes s.drum (serve kind tag payload owner s).drum :=
  serve_leads (R := fun s t => DrumGoes s.drum t.drum) .trans (fun _ _ => .refl _) settleFor_goes owns s

theorem serve_drumKept {kind tag : Byte} {payload : List Byte} {owner : State → State × ReplyCode}
    (owns : ∀ u : State, (owner u).1.drum = u.drum) (s : State) : DrumGoes s.drum (serve kind tag payload owner s).drum :=
  serve_goes (fun u => .of_drum (owns u)) s

theorem serveUnknown_drum (kind tag : Byte) (payload : List Byte) (s : State) : (serveUnknown kind tag payload s).drum = s.drum := by
  unfold serveUnknown
  split
  · rfl
  · split <;> rfl

theorem ownPlanClear_drum (s : State) : (ownPlanClear s).1.drum = s.drum := by
  unfold ownPlanClear
  split <;> simp [setPlan]

theorem ownContextLoad_goes (payload : List Byte) (s : State) : DrumGoes s.drum (ownContextLoad payload s).1.drum := by
  unfold ownContextLoad
  dsimp only
  (repeat' split)
  case h_2 => exact .of_eq (by simp [loadContext, drumLoad, installPattern, emptyBaseline]) (by simp [loadContext, drumLoad, installPattern, emptyBaseline])
  all_goals exact .refl _

theorem applyProfile_goes (p : Profile) (s : State) : DrumGoes s.drum (applyProfile p s).drum :=
  .of_eq (by simp [applyProfile]) (by simp [applyProfile])

theorem ownProfileSet_goes (payload : List Byte) (s : State) : DrumGoes s.drum (ownProfileSet payload s).1.drum := by
  unfold ownProfileSet
  split
  · exact .refl _
  · split
    · exact .refl _
    · exact .trans (e := (settleAccount s).drum) (.of_drum (by simp)) (applyProfile_goes _ _)

theorem ownPatternSet_goes (payload : List Byte) (s : State) : DrumGoes s.drum (ownPatternSet payload s).1.drum := by
  unfold ownPatternSet
  dsimp only
  (repeat' split) <;> exact .of_eq rfl rfl

theorem ownPause_goes (s : State) : DrumGoes s.drum (ownPause s).1.drum := by
  unfold ownPause
  split
  · exact enterPaused_goes _ _
  · exact enterPaused_goes _ _
  all_goals exact .refl _

theorem ownAbort_goes (s : State) : DrumGoes s.drum (ownAbort s).1.drum := by
  unfold ownAbort
  split
  · exact enterDone_goes _ _
  · exact enterDone_goes _ _
  · exact enterDone_goes _ _
  all_goals exact .refl _

theorem ownAdvance_goes (s : State) : DrumGoes s.drum (ownAdvance s).1.drum := by
  unfold ownAdvance
  split
  · exact retire_goes _ _
  all_goals exact .refl _

theorem ownCycleClose_drum (s : State) : (ownCycleClose s).1.drum = s.drum := by
  have closed : (closeCycle s).drum = s.drum := by simp [closeCycle, setPlan]
  unfold ownCycleClose
  split
  · exact closed
  · split
    · rfl
    · exact closed
  all_goals rfl

theorem ownTripClear_drum (payload : List Byte) (s : State) : (ownTripClear payload s).1.drum = s.drum := by
  unfold ownTripClear
  dsimp only
  (repeat' split) <;> rfl

theorem ownAllowanceSet_drum (payload : List Byte) (s : State) : (ownAllowanceSet payload s).1.drum = s.drum := by
  unfold ownAllowanceSet
  dsimp only
  (repeat' split) <;> simp

theorem ownProfileStore_drum (s : State) : (ownProfileStore s).1.drum = s.drum := by
  unfold ownProfileStore
  (repeat' split) <;> simp

theorem ownReportLevelSet_drum (payload : List Byte) (s : State) : (ownReportLevelSet payload s).1.drum = s.drum := by
  unfold ownReportLevelSet
  dsimp only
  split <;> rfl

theorem ownLinkReset_drum (s : State) : (ownLinkReset s).1.drum = s.drum := by
  unfold ownLinkReset
  (repeat' split) <;> rfl

/-! ### The drum's own timers, grants and markers -/

/-- A drum moved along an exit of the table, its direction output kept while driven. -/
structure DrumExits (d e : Drum) : Prop where
  state : drumMayGo d.state e.state = true
  turns : e.dirOut ≠ d.dirOut → (e.state = .surgeWait ∨ e.state = .stopped) ∧ d.state ≠ .accel ∧ d.state ≠ .run

theorem DrumGoes.exits {d e : Drum} (h : DrumGoes d e) : DrumExits d e := by
  refine ⟨?_, fun turned => ?_⟩
  · obtain same | ⟨moving, stops⟩ | ⟨rest, waits | stops⟩ := h.state
    · rw [same]
      cases d.state <;> rfl
    · rw [stops]
      cases state : d.state <;> rw [state] at moving
      case stopped | surgeWait | dwell => cases moving
      all_goals rfl
    · rw [waits]
      cases state : d.state <;> rw [state] at rest
      case stopped | surgeWait | dwell => rfl
      all_goals cases rest
    · rw [stops]
      cases state : d.state <;> rw [state] at rest
      case stopped | surgeWait | dwell => rfl
      all_goals cases rest
  · obtain ⟨ends, rest⟩ := h.turns turned
    refine ⟨ends, ?_, ?_⟩ <;> intro driven <;> rw [driven] at rest <;> cases rest

theorem DrumExits.of_kept {d e : Drum} (state : drumMayGo d.state e.state = true) (dirOut : e.dirOut = d.dirOut) : DrumExits d e :=
  ⟨state, fun turned => absurd dirOut turned⟩

/-- A drum that goes to SURGE_WAIT from rest or from DECEL. -/
theorem DrumExits.of_surge {d e : Drum} (waits : e.state = .surgeWait) (state : drumMayGo d.state .surgeWait = true)
    (accel : d.state ≠ .accel) (run : d.state ≠ .run) : DrumExits d e :=
  ⟨by rw [waits]; exact state, fun _ => ⟨.inl waits, accel, run⟩⟩

theorem takeSurgeGrant_exits (n : Byte) (s : State) : DrumExits s.drum (takeSurgeGrant n (takeSurge n) s).drum := by
  unfold takeSurgeGrant
  split
  · split
    · unfold takeSurge
      split
      · next waits =>
        have state : s.drum.state = .surgeWait := waits.1
        exact .of_kept (by rw [state]; rfl) rfl
      · exact (DrumGoes.refl s.drum).exits
    · exact (DrumGoes.refl s.drum).exits
  · exact (DrumGoes.refl s.drum).exits

theorem dwellExpiry_exits (s : State) :
    DrumExits s.drum (if s.drum.dwellTimer.isSome ∧ s.drum.state = .dwell then endDwell s else s).drum := by
  split
  · next due => exact .of_surge rfl (by rw [due.2]; rfl) (by rw [due.2]; decide) (by rw [due.2]; decide)
  · exact (DrumGoes.refl s.drum).exits

theorem stopDetected_exits (s : State) : DrumExits s.drum (stopDetected s).drum := by
  by_cases running : s.drum.stopDetect = none
  · have idle : stopDetected s = s := if_pos (by simp [running])
    rw [idle]
    exact (DrumGoes.refl s.drum).exits
  · have stays (h : s.drum.state ∈ [DrumState.surgeWait, .accel, .run, .dwell] ∨ s.drum.state = .stopped ∧ s.drum.runPending = false) :
        DrumExits s.drum (stopDetected s).drum := by
      rw [stopDetected_stays running h]
      exact (DrumGoes.of_eq (d := s.drum) (e := stopSeen s.drum) rfl rfl).exits
    cases state : s.drum.state
    case surgeWait | accel | run | dwell => exact stays (.inl (by simp [state]))
    case stopped =>
      cases pending : s.drum.runPending with
      | false => exact stays (.inr ⟨state, pending⟩)
      | true =>
        rw [stopDetected_starts running state pending]
        exact .of_surge rfl (by rw [state]; rfl) (by rw [state]; decide) (by rw [state]; decide)
    case decelStop =>
      rw [stopDetected_rests running state]
      split
      · exact .of_surge rfl (by rw [state]; rfl) (by rw [state]; decide) (by rw [state]; decide)
      · rw [enterStopped_eq]
        exact .of_kept (by rw [state]; rfl) rfl
    case decelReverse =>
      rw [stopDetected_turns running state]
      unfold enterDwell
      dsimp only
      split
      · exact .of_surge rfl (by rw [state]; rfl) (by rw [state]; decide) (by rw [state]; decide)
      · exact .of_kept (by rw [state]; rfl) rfl

/-! ### The marker's exits -/

/-- Two drums in one state with one direction output. -/
def sameMotion (d e : Drum) : Prop := e.state = d.state ∧ e.dirOut = d.dirOut

theorem closeJudged_motion (q : Measured) (s : State) : sameMotion s.drum (closeJudged q s).drum := by
  have locked : sameMotion s.drum (closeLock q s).drum := by rw [closeLock_eq]; exact ⟨rfl, rfl⟩
  have regulated (u : State) : sameMotion u.drum (closeRegulate q u).drum := by
    unfold closeRegulate
    split <;> exact ⟨rfl, rfl⟩
  have counted (u : State) : sameMotion u.drum (closeMalformed q u).drum := by
    cases wellFormed : q.wellFormed with
    | true => rw [closeMalformed_wellFormed wellFormed, endMalformedRun_eq]; exact ⟨rfl, rfl⟩
    | false => rw [closeMalformed_malformed wellFormed]; exact ⟨rfl, rfl⟩
  obtain ⟨state1, dir1⟩ := locked
  obtain ⟨state2, dir2⟩ := regulated (closeLock q s)
  obtain ⟨state3, dir3⟩ := counted (closeRegulate q (closeLock q s))
  exact ⟨state3.trans (state2.trans state1), dir3.trans (dir2.trans dir1)⟩

theorem closeCount_motion (s : State) : sameMotion s.drum (closeCount s).drum := by
  unfold closeCount
  split <;> exact ⟨rfl, rfl⟩

/-- A close turns a drum in RUN into DECEL, or leaves its motion. -/
theorem closeRevolution_motion (elapsed : Nat) (o : OpenRev) (m k sum : Nat) (s : State) :
    (closeRevolution elapsed o m k sum s).drum.dirOut = s.drum.dirOut ∧
      ((closeRevolution elapsed o m k sum s).drum.state = s.drum.state ∨
        s.drum.state = .run ∧ ((closeRevolution elapsed o m k sum s).drum.state = .decelStop ∨
          (closeRevolution elapsed o m k sum s).drum.state = .decelReverse)) := by
  rw [closeRevolution_eq elapsed o m k sum s rfl]
  generalize measure s.profile s.drum o elapsed = q
  have judged := closeJudged_motion q s
  have folded : (fold q.number q.cls k sum (closeJudged q s)).1.drum = (closeJudged q s).drum := by simp
  rw [← folded] at judged
  generalize fold q.number q.cls k sum (closeJudged q s) = v at judged
  have counted := closeCount_motion (closeHistory (closeRecord q s.drum m k v.2.1 v.2.2) v.1)
  generalize closeCount (closeHistory (closeRecord q s.drum m k v.2.1 v.2.2) v.1) = u at counted
  obtain ⟨_, _, _, _, _, tangled⟩ := closeTangle_drum q u
  have motion : sameMotion s.drum (closeTangle q u).1.drum := by
    rw [tangled]
    exact ⟨counted.1.trans judged.1, counted.2.trans judged.2⟩
  generalize closeTangle q u = w at motion
  obtain ⟨state, dirOut⟩ := motion
  by_cases run : w.1.drum.state = .run
  · obtain same | ⟨reverse, slows⟩ := closeTurn_drum (forced := w.2) run
    · rw [same]
      exact ⟨dirOut, .inl state⟩
    · rw [slows]
      refine ⟨dirOut, .inr ⟨state ▸ run, ?_⟩⟩
      cases reverse
      · exact .inl rfl
      · exact .inr rfl
  · rw [closeTurn_other _ run]
    exact ⟨dirOut, .inl state⟩

theorem endAccel_motion (s : State) :
    (endAccel s).drum.dirOut = s.drum.dirOut ∧
      ((endAccel s).drum.state = s.drum.state ∨ s.drum.state = .accel ∧ (endAccel s).drum.state = .run) := by
  unfold endAccel
  split
  · next ends => exact ⟨rfl, .inr ⟨ends.1, rfl⟩⟩
  · exact ⟨rfl, .inl rfl⟩

theorem indexMarker_exits {elapsed : Nat} (h : exec (.indexMarker elapsed) s = .next t) : DrumExits s.drum t.drum := by
  have accelEnds (u : State) (state : u.drum.state = s.drum.state ∨ s.drum.state = .run ∧
      (u.drum.state = .decelStop ∨ u.drum.state = .decelReverse)) (dirOut : u.drum.dirOut = s.drum.dirOut)
      (ends : Host.Outcome.next (φ := Fault) (ρ := Refusal) ((endAccel u).updDrum revOpened) = .next t) : DrumExits s.drum t.drum := by
    injection ends with ends
    subst ends
    obtain ⟨dir, moved⟩ := endAccel_motion u
    refine .of_kept ?_ (dir.trans dirOut)
    rw [show ((endAccel u).updDrum revOpened).drum.state = (endAccel u).drum.state from rfl]
    obtain stays | ⟨accel, runs⟩ := moved
    · rw [stays]
      obtain same | ⟨run, slow | slow⟩ := state
      · rw [same]
        cases s.drum.state <;> rfl
      · rw [run, slow]; rfl
      · rw [run, slow]; rfl
    · rw [runs]
      obtain same | ⟨_, slow | slow⟩ := state
      · rw [← same, accel]; rfl
      · rw [accel] at slow; cases slow
      · rw [accel] at slow; cases slow
  cases timed : s.drum.state.timesRevs with
  | false =>
    rw [indexMarker_untimed elapsed timed] at h
    injection h with h
    subst h
    exact (DrumGoes.refl s.drum).exits
  | true =>
    cases opened : s.drum.openRev with
    | none =>
      rw [indexMarker_opens elapsed timed opened] at h
      exact accelEnds (markerHeard s) (.inl rfl) rfl h
    | some o =>
      rw [indexMarker_closes elapsed timed opened] at h
      obtain ⟨dirOut, state⟩ := closeRevolution_motion elapsed o s.efe.m s.efe.k s.efe.s (markerHeard s)
      exact accelEnds _ state dirOut h

theorem stallExpires_motion (s : State) : sameMotion s.drum (stallExpires s).drum := by
  unfold stallExpires
  split
  · exact ⟨rfl, rfl⟩
  · dsimp only
    split <;> exact ⟨rfl, rfl⟩

theorem DrumExits.of_drum (h : t.drum = s.drum) : DrumExits s.drum t.drum := (DrumGoes.of_drum h).exits

theorem takeDry_goes {n : Nat} {act : State → State} (h : ∀ u : State, DrumGoes u.drum (act u).drum) (s : State) :
    DrumGoes s.drum (takeDry n act s).drum := by
  unfold takeDry
  split
  · exact drumGoes_ite (h (s.updPaths _)) (.refl _)
  · exact .refl _

/-- Settles O40: every command that is no reset moves the drum along an exit of the table. -/
theorem drumLeavesEachStateByItsExits : Obligations.DrumLeavesEachStateByItsExits := by
  intro c s t notReset h
  have only {u : State} (exits : DrumExits s.drum u.drum) (same : Host.Outcome.next (φ := Fault) (ρ := Refusal) u = .next t) :
      drumMayGo s.drum.state t.drum.state = true ∧
        (t.drum.dirOut ≠ s.drum.dirOut → (t.drum.state = .surgeWait ∨ t.drum.state = .stopped) ∧ s.drum.state ≠ .accel ∧ s.drum.state ≠ .run) := by
    injection same with same
    exact same ▸ ⟨exits.state, exits.turns⟩
  have kept {u : State} (drum : u.drum = s.drum) (same : Host.Outcome.next (φ := Fault) (ρ := Refusal) u = .next t) :=
    only (.of_drum drum) same
  cases c with
  | powerOn | brownOut | pinReset | linkResetFollows => cases notReset
  | rxByte b => exact kept (by simp) h
  | gapTimerExpiry => exact kept (by split <;> simp) h
  | txFrameBoundary => exact kept (by simp) h
  | silenceTimerExpiry => exact kept (by split <;> simp) h
  | unknownKindRequest kind tag payload => exact kept (serveUnknown_drum kind tag payload s) h
  | profileSet tag payload => exact only (serve_goes (ownProfileSet_goes payload) s).exits h
  | profileStore tag payload => exact only (serve_drumKept ownProfileStore_drum s).exits h
  | allowanceSet tag payload => exact only (serve_drumKept (ownAllowanceSet_drum payload) s).exits h
  | reportLevelSet tag payload => exact only (serve_drumKept (ownReportLevelSet_drum payload) s).exits h
  | linkReset tag payload => exact only (serve_drumKept ownLinkReset_drum s).exits h
  | patternSet tag payload => exact only (serve_goes (ownPatternSet_goes payload) s).exits h
  | planAppend tag payload => exact only (serve_goes (ownPlanAppend_goes payload) s).exits h
  | planClear tag payload => exact only (serve_drumKept ownPlanClear_drum s).exits h
  | start tag payload => exact only (serve_goes ownStart_goes s).exits h
  | pause tag payload => exact only (serve_goes ownPause_goes s).exits h
  | resume tag payload => exact only (serve_goes ownResume_goes s).exits h
  | abort tag payload => exact only (serve_goes ownAbort_goes s).exits h
  | advance tag payload => exact only (serve_goes ownAdvance_goes s).exits h
  | cycleClose tag payload => exact only (serve_drumKept ownCycleClose_drum s).exits h
  | contextLoad tag payload => exact only (serve_goes (ownContextLoad_goes payload) s).exits h
  | tripClear tag payload => exact only (serve_drumKept (ownTripClear_drum payload) s).exits h
  | probe | profileGet | nop | trendGet | tripGet | statusGet => exact only (serve_drumKept (fun _ => rfl) s).exits h
  | patternGet tag payload => exact only (serve_drumKept (fun u => congrArg State.drum (ownPatternGet_state payload u)) s).exits h
  | planGet tag payload => exact only (serve_drumKept (fun u => congrArg State.drum (ownPlanGet_state payload u)) s).exits h
  | historyGet tag payload => exact only (serve_drumKept (fun u => congrArg State.drum (ownHistoryGet_state payload u)) s).exits h
  | contextGet tag payload => exact only (serve_drumKept (fun u => congrArg State.drum (ownContextGet_state u)) s).exits h
  | tachPulse current rawCount =>
    exact only (u := (s.updDrum (drumPulse s.profile current.toNat)).updEfe (efePulse s.profile rawCount.toNat))
      (DrumGoes.exits (.of_eq (by rfl) (by rfl))) h
  | indexMarker elapsed => exact ⟨(indexMarker_exits h).state, (indexMarker_exits h).turns⟩
  | stopDetectExpiry => exact only (stopDetected_exits s) h
  | accelTimerExpiry => exact only (u := s.updDrum fun d => { d with accelTimer := none }) (DrumGoes.exits (.of_eq (by rfl) (by rfl))) h
  | dwellExpiry => exact only (dwellExpiry_exits s) h
  | stallTimerExpiry =>
    obtain ⟨state, dirOut⟩ := stallExpires_motion s
    exact only (DrumGoes.of_eq state dirOut).exits h
  | surgeGrant n => exact only (takeSurgeGrant_exits n s) h
  | conversionComplete ch raw =>
    cases ch with
    | exhaust =>
      refine only (DrumGoes.exits ?_) h
      rw [exhaustConverted_eq]
      refine .trans (e := (hstgExhaust (exhaustTaken raw s).atu.exhaust.value (exhaustTaken raw s)).drum) ?_ (judgeCooled_goes _ _ _)
      exact .of_eq (by simp [exhaustTaken]) (by simp [exhaustTaken])
    | inlet => exact kept (by simp) h
    | pressure => exact kept (by simp) h
    | lineCurrent => exact kept (by simp) h
  | inputLevelChange pin level => exact kept (by simp) h
  | debounceExpiry pin =>
    cases pin with
    | door => exact only (doorDebounced_goes s).exits h
    | highLimit => exact kept (by simp) h
  | graceTimerExpiry => exact kept (by split <;> simp) h
  | lowFlowExpiry => exact kept (by split <;> simp) h
  | runOnTimerExpiry => exact kept (by split <;> simp) h
  | minOnExpiry e => exact kept (by simp) h
  | minOffExpiry e => exact kept (by simp) h
  | elementGrant e => exact kept (by unfold takeSaaMsg; (repeat' split) <;> simp) h
  | shed e => exact kept (by unfold takeSaaMsg; (repeat' split) <;> simp) h
  | elementRequest e current => exact kept (by unfold takeHstgMsg; (repeat' split) <;> simp) h
  | elementWithdrawal e => exact kept (by unfold takeHstgMsg; (repeat' split) <;> simp) h
  | elementRelease e => exact kept (by unfold takeHstgMsg; (repeat' split) <;> simp) h
  | onFreeNotice e => exact kept (by unfold takeHstgMsg; (repeat' split) <;> simp) h
  | surgeRequest n => exact kept (by unfold takeDrumMsg; (repeat' split) <;> simp) h
  | surgeRelease n => exact kept (by unfold takeDrumMsg; (repeat' split) <;> simp) h
  | surgeWithdrawal n => exact kept (by unfold takeDrumMsg; (repeat' split) <;> simp) h
  | grantTimerExpiry => exact kept (by simp) h
  | oneSecondCount => exact only (countSecond_goes s).exits h
  | starveTimerExpiry => exact only (starveExpires_goes s).exits h
  | dryReachedSignal ordinal => exact only (takeDry_goes (dryReached_goes ordinal) s).exits h
  | tripCondition c => exact only (takeTripMsg_goes (takeCondition_goes c) s).exits h
  | tripConditionEnd c => exact only (takeTripMsg_goes (fun u => .of_drum (takeConditionEnd_drum c u)) s).exits h
  | storeVerify readBack => exact kept (by simp) h

end Sys2Proof.Machine
end

section
/-! SUPPORT. The cycle's exits, command by command: O58. -/

namespace Sys2Proof.Machine

variable {s t u : State}

/-! ### The host's silence settled before an owner (R170, R175) -/

/-- What the settling of the host's silence leaves of the cycle: nothing moved, or a working cycle paused. -/
structure Settled (s t : State) : Prop where
  door : t.atu.door = s.atu.door
  cpx : t.cpx = s.cpx ∨ (s.cpx.cycle = .running ∨ s.cpx.cycle = .starved) ∧
    t.cpx = { s.cpx with starve := none, cycle := .paused, pauseCause := some .silent }

theorem Settled.of_eq (atu : t.atu = s.atu) (cpx : t.cpx = s.cpx) : Settled s t := ⟨by rw [atu], .inl cpx⟩

theorem Settled.trans (h : Settled s t) (h' : Settled t u) : Settled s u := by
  refine ⟨h'.door.trans h.door, ?_⟩
  obtain same | ⟨work, pauses⟩ := h.cpx
  · rw [← same]
    exact h'.cpx
  · obtain same' | ⟨work', _⟩ := h'.cpx
    · exact .inr ⟨work, same'.trans pauses⟩
    · rw [pauses] at work'
      obtain running | starved := work'
      · cases running
      · cases starved

theorem cpxSilence_settled (s : State) : Settled s (cpxSilence s) := by
  have pauses (work : s.cpx.cycle = .running ∨ s.cpx.cycle = .starved) : Settled s (enterPaused .silent s) := by
    refine ⟨?_, .inr ⟨work, enterPaused_cpx .silent s⟩⟩
    unfold enterPaused
    simp
  unfold cpxSilence
  split
  · next running => exact pauses (.inl running)
  · next starved => exact pauses (.inr starved)
  all_goals exact .of_eq rfl rfl

theorem takeCondition_settled (s : State) : Settled s (takeCondition .hostSilent s) := by
  unfold takeCondition
  split
  · exact .of_eq rfl rfl
  · dsimp only
    exact .trans (.of_eq (by simp) (by simp)) (cpxSilence_settled _)

theorem settleSilence_settled (ms : List TripMsg) : ∀ (n : Nat) (s : State), Settled s (settleSilence n ms s) := by
  induction ms with
  | nil => intro n s; cases n <;> exact .of_eq rfl rfl
  | cons m ms ih =>
    intro n s
    cases n with
    | zero => exact .of_eq rfl rfl
    | succ n =>
      unfold settleSilence
      split
      · next silent =>
        have takes : Settled s (takeTripMsg m (tripTakes m) s) := by
          unfold takeTripMsg
          split
          · refine .trans (t := tripMsgTaken m s) (.of_eq rfl rfl) ?_
            unfold tripTakes
            split
            · exact .of_eq (by simp [tripMsgTaken]) (by simp [tripMsgTaken])
            · rw [silent]
              exact takeCondition_settled _
          · exact .of_eq rfl rfl
        exact takes.trans (ih _ _)
      · exact ih _ _

/-- Settling moves the cycle only where a silence's end is due at the frame. -/
theorem settleFor_settled (f : InFrame) (s : State) : Settled s (settleFor f s) := settleSilence_settled _ _ _

theorem settleFor_moved {f : InFrame} (moved : (settleFor f s).cpx ≠ s.cpx) : 0 < endsDue f s := by
  by_contra none
  refine moved ?_
  unfold settleFor
  rw [Nat.eq_zero_of_not_pos none]
  cases s.paths.trip <;> rfl

/-! ### The moves of the cycle -/

/-- The moves of the cycle state from `a` to `b` at a command: by TRIP, by the host's silence, the door and the host, by the stage's own
exits and by the requests. `silent` says that TRIP takes the host's silence, `notClosed` that the door is not CLOSED, `sound` that stage
and cycle agree. -/
inductive CycleMove (c : Instr) (silent notClosed sound : Prop) (a b : CycleState) : Prop
  | stays (same : b = a)
  | faults (work : a.working = true) (faulted : b = .faulted) (cause : faultsWork c)
  | silences (work : a = .running ∨ a = .starved) (paused : b = .paused) (taken : silent)
  | pauses (work : a = .running ∨ a = .starved) (paused : b = .paused) (event : c = .debounceExpiry .door ∨ ∃ tag payload, c = .pause tag payload)
  | aborts (work : a.working = true) (done : b = .done) (event : ∃ tag payload, c = .abort tag payload)
  | starves (starved : a = .starved) (done : b = .done) (event : c = .starveTimerExpiry)
  | exits (running : a = .running) (leads : b = .done ∨ b = .starved ∨ b = .paused ∧ notClosed) (event : exitsStage c)
  | appends (idle : a = .idle) (ready : b = .ready) (event : ∃ tag payload, c = .planAppend tag payload)
  | feeds (starved : a = .starved) (leads : b = .running ∨ notClosed ∧ (b = .paused ∨ b = .done)) (event : ∃ tag payload, c = .planAppend tag payload)
  | clears (ready : a = .ready) (idle : b = .idle) (event : ∃ tag payload, c = .planClear tag payload)
  | starts (ready : a = .ready) (event : ∃ tag payload, c = .start tag payload)
  | loads (ready : a = .ready) (paused : b = .paused) (event : ∃ tag payload, c = .contextLoad tag payload)
  | resumes (paused : a = .paused) (leads : b = .running ∨ b = .starved) (event : ∃ tag payload, c = .resume tag payload)
  | resumesSilenced (work : a = .running ∨ a = .starved) (leads : b = .running ∨ b = .starved) (event : ∃ tag payload, c = .resume tag payload)
      (agrees : sound → b = a)
  | closes (ended : a = .faulted ∨ a = .done) (idle : b = .idle) (event : ∃ tag payload, c = .cycleClose tag payload)

/-- The move of a command between two states. -/
def movesCycle (c : Instr) (s t : State) : Prop :=
  CycleMove c (takesSilence c s) (s.atu.door.settled ≠ some .closed) (stageSound s) s.cpx.cycle t.cpx.cycle

theorem movesCycle_of_cpx {c : Instr} (h : t.cpx = s.cpx) : movesCycle c s t := .stays (by rw [h])

/-- The moves that O58 names, without the agreement of stage and cycle. -/
theorem CycleMove.events {c : Instr} {silent notClosed sound : Prop} {a b : CycleState} (h : CycleMove c silent notClosed sound a b) :
    (a = .idle → b ≠ .idle → b = .ready ∧ ∃ tag payload, c = .planAppend tag payload) ∧
    (a = .ready → b ≠ .ready → ∃ tag payload,
      (c = .planClear tag payload ∧ b = .idle) ∨ c = .start tag payload ∨ (c = .contextLoad tag payload ∧ b = .paused)) ∧
    (a = .paused → b = .running ∨ b = .starved → ∃ tag payload, c = .resume tag payload) ∧
    (a = .faulted ∨ a = .done → b ≠ a → b = .idle ∧ ∃ tag payload, c = .cycleClose tag payload) ∧
    (a ≠ .running → b = .running → ∃ tag payload,
      c = .start tag payload ∨ c = .resume tag payload ∨ (c = .planAppend tag payload ∧ a = .starved)) := by
  cases h with
  | stays same => subst same; cases b <;> simp
  | faults work faulted _ => subst faulted; cases a <;> simp_all [CycleState.working]
  | silences work paused _ => subst paused; obtain rfl | rfl := work <;> simp
  | pauses work paused _ => subst paused; obtain rfl | rfl := work <;> simp
  | aborts work done _ => subst done; cases a <;> simp_all [CycleState.working]
  | starves starved done _ => subst starved done; simp
  | exits running leads _ => subst running; simp
  | appends idle ready event => subst idle ready; simpa using event
  | feeds starved leads event =>
    obtain ⟨tag, payload, rfl⟩ := event
    subst starved
    simp
  | clears ready idle event =>
    obtain ⟨tag, payload, rfl⟩ := event
    subst ready idle
    simp
  | starts ready event =>
    obtain ⟨tag, payload, rfl⟩ := event
    subst ready
    simp
  | loads ready paused event =>
    obtain ⟨tag, payload, rfl⟩ := event
    subst ready paused
    simp
  | resumes paused leads event =>
    obtain ⟨tag, payload, rfl⟩ := event
    subst paused
    simp
  | resumesSilenced work leads event _ =>
    obtain ⟨tag, payload, rfl⟩ := event
    obtain rfl | rfl := work <;> simp
  | closes ended idle event =>
    subst idle
    obtain rfl | rfl := ended <;> simpa using event

/-- The moves out of work that O58 names, where stage and cycle agree. -/
theorem CycleMove.leaves {c : Instr} {silent notClosed sound : Prop} {a b : CycleState} (h : CycleMove c silent notClosed sound a b)
    (agree : sound) :
    (a = .running → b ≠ .running →
      b = .faulted ∧ faultsWork c ∨ b = .done ∧ (∃ tag payload, c = .abort tag payload) ∨
      b = .paused ∧ (silent ∨ c = .debounceExpiry .door ∨ ∃ tag payload, c = .pause tag payload) ∨
      (b = .done ∨ b = .starved ∨ b = .paused ∧ notClosed) ∧ exitsStage c) ∧
    (a = .starved → b ≠ .starved →
      b = .faulted ∧ faultsWork c ∨ b = .done ∧ ((∃ tag payload, c = .abort tag payload) ∨ c = .starveTimerExpiry) ∨
      b = .paused ∧ (silent ∨ c = .debounceExpiry .door ∨ ∃ tag payload, c = .pause tag payload) ∨
      (∃ tag payload, c = .planAppend tag payload) ∧ (b = .running ∨ notClosed ∧ (b = .paused ∨ b = .done))) ∧
    (a = .paused → b ≠ .paused →
      b = .faulted ∧ faultsWork c ∨ b = .done ∧ (∃ tag payload, c = .abort tag payload) ∨
      (b = .running ∨ b = .starved) ∧ ∃ tag payload, c = .resume tag payload) := by
  cases h with
  | stays same => subst same; cases b <;> simp
  | faults work faulted cause => exact ⟨fun _ _ => .inl ⟨faulted, cause⟩, fun _ _ => .inl ⟨faulted, cause⟩, fun _ _ => .inl ⟨faulted, cause⟩⟩
  | silences work paused taken =>
    exact ⟨fun _ _ => .inr (.inr (.inl ⟨paused, .inl taken⟩)), fun _ _ => .inr (.inr (.inl ⟨paused, .inl taken⟩)), fun _ left => absurd paused left⟩
  | pauses work paused event =>
    exact ⟨fun _ _ => .inr (.inr (.inl ⟨paused, .inr event⟩)), fun _ _ => .inr (.inr (.inl ⟨paused, .inr event⟩)), fun _ left => absurd paused left⟩
  | aborts work done event =>
    exact ⟨fun _ _ => .inr (.inl ⟨done, event⟩), fun _ _ => .inr (.inl ⟨done, .inl event⟩), fun _ _ => .inr (.inl ⟨done, event⟩)⟩
  | starves starved done event => subst starved done; simp [event]
  | exits running leads event => exact ⟨fun _ _ => .inr (.inr (.inr ⟨leads, event⟩)), by simp [running], by simp [running]⟩
  | appends idle _ _ => subst idle; simp
  | feeds starved leads event => exact ⟨by simp [starved], fun _ _ => .inr (.inr (.inr ⟨event, leads⟩)), by simp [starved]⟩
  | clears ready _ _ => subst ready; simp
  | starts ready _ => subst ready; simp
  | loads ready _ _ => subst ready; simp
  | resumes paused leads event => exact ⟨by simp [paused], by simp [paused], fun _ _ => .inr (.inr ⟨leads, event⟩)⟩
  | resumesSilenced work leads event agrees =>
    have same := agrees agree
    subst same
    obtain rfl | rfl := work <;> simp
  | closes ended _ _ => obtain rfl | rfl := ended <;> simp

/-! ### A delivery -/

/-- A delivery moves the cycle by its owner, which finds it as it was or, a working one, paused by a silence that TRIP takes there. -/
theorem serve_moves {c : Instr} {kind tag : Byte} {payload : List Byte} {owner : State → State × ReplyCode}
    (command : c = commandOfFrame kind tag payload)
    (owns : ∀ u : State, lengthAllowed kind payload.length = true → u.cpx = s.cpx → u.atu.door = s.atu.door →
      CycleMove c (takesSilence c s) (s.atu.door.settled ≠ some .closed) (stageSound s) s.cpx.cycle (owner u).1.cpx.cycle)
    (silenced : ∀ u : State, takesSilence c s → s.cpx.cycle = .running ∨ s.cpx.cycle = .starved →
      u.cpx = { s.cpx with starve := none, cycle := .paused, pauseCause := some .silent } →
      CycleMove c (takesSilence c s) (s.atu.door.settled ≠ some .closed) (stageSound s) s.cpx.cycle (owner u).1.cpx.cycle) :
    movesCycle c s (serve kind tag payload owner s) := by
  unfold serve
  split
  · exact .stays rfl
  · next f rest due =>
    dsimp only
    split
    · exact .stays rfl
    · split
      · next admitted =>
        obtain ⟨door, same | ⟨work, pauses⟩⟩ := settleFor_settled f (s.updLink fun l => { l with inbound := rest })
        · exact owns _ admitted same door
        · have moved : 0 < endsDue f (s.updLink fun l => { l with inbound := rest }) := by
            refine settleFor_moved fun same => ?_
            rw [same] at pauses
            have paused : s.cpx.cycle = .paused := congrArg Cpx.cycle pauses
            rw [State.updLink_cpx, paused] at work
            obtain running | starved := work
            · cases running
            · cases starved
          obtain ⟨head, rfl, rfl, rfl⟩ : s.link.inbound.head? = some f ∧ f.kind = kind ∧ f.tag = tag ∧ f.payload = payload := by
            unfold dueFrame at due
            split at due
            · next f' rest' slot held =>
              split at due
              · next fits =>
                injection due with due
                injection due with same
                subst same
                exact ⟨by rw [held]; rfl, fits⟩
              · cases due
            · cases due
          exact silenced _ (.inr ⟨f, head, moved, command⟩) work pauses
      · exact .stays rfl

/-- An owner that leaves CPX as it is. -/
theorem serve_moves_kept {c : Instr} {kind tag : Byte} {payload : List Byte} {owner : State → State × ReplyCode}
    (command : c = commandOfFrame kind tag payload) (kept : ∀ u : State, (owner u).1.cpx = u.cpx) :
    movesCycle c s (serve kind tag payload owner s) :=
  serve_moves command (fun u _ same _ => .stays (by rw [kept, same])) fun u taken work pauses => .silences work (by rw [kept, pauses]) taken

/-- An owner that refuses a paused cycle. -/
theorem serve_moves_working {c : Instr} {kind tag : Byte} {payload : List Byte} {owner : State → State × ReplyCode}
    (command : c = commandOfFrame kind tag payload)
    (owns : ∀ u : State, lengthAllowed kind payload.length = true → u.cpx = s.cpx → u.atu.door = s.atu.door →
      CycleMove c (takesSilence c s) (s.atu.door.settled ≠ some .closed) (stageSound s) s.cpx.cycle (owner u).1.cpx.cycle)
    (paused : ∀ u : State, u.cpx.cycle = .paused → (owner u).1.cpx.cycle = .paused) :
    movesCycle c s (serve kind tag payload owner s) :=
  serve_moves command owns fun u taken work pauses => .silences work (paused u (by rw [pauses])) taken

/-! ### The requests CPX owns -/

theorem ownPlanAppend_paused (payload : List Byte) (paused : s.cpx.cycle = .paused) :
    (ownPlanAppend payload s).1.cpx.cycle = .paused := by
  unfold ownPlanAppend
  dsimp only
  split
  · exact paused
  · split
    · exact paused
    · split
      · exact paused
      · split
        · exact paused
        · split
          · next idle => exact absurd (paused.symm.trans idle) (by decide)
          · next starved => exact absurd (paused.symm.trans starved) (by decide)
          all_goals exact paused

theorem planAppend_moves (tag : Byte) (payload : List Byte) (s : State) :
    movesCycle (.planAppend tag payload) s (serve 0x20 tag payload (ownPlanAppend payload) s) := by
  refine serve_moves_working rfl (fun u admitted same door => ?_) fun u paused => ?_
  · rw [← same]
    unfold ownPlanAppend
    dsimp only
    split
    · exact .stays rfl
    · split
      · exact .stays rfl
      · split
        · exact .stays rfl
        · split
          · exact .stays rfl
          · next rs ok =>
            dsimp only
            generalize joins : (rs.map fun r =>
              if r.kind.heats then { r with exhaustTarget := clampTarget u.profile r } else r) = l
            have more : u.cpx.plan ++ l ≠ [] := by
              rw [← joins]
              simp [checkStages_ne_nil (lengthAllowed_planAppend_le admitted) ok]
            split
            · next idle => exact .appends idle (by simp [enterCycle_cpx]) ⟨tag, payload, rfl⟩
            · next starved =>
              refine .feeds starved ?_ ⟨tag, payload, rfl⟩
              have started := startHead_started (s := enterCycle .running
                ((setPlan (u.cpx.plan ++ l) u).updCpx fun c => { c with starve := none })) (by simpa [enterCycle_cpx, setPlan] using more)
                  (by simp [enterCycle_cpx])
              obtain ⟨_, running⟩ | ⟨notClosed, ended⟩ := started.cycle
              · exact .inl running
              · have apart : u.atu.door.isClosed = false := by simpa [setPlan] using notClosed
                refine .inr ⟨?_, ended⟩
                rw [← door]
                exact of_decide_eq_false apart
            all_goals exact .stays rfl
  · exact ownPlanAppend_paused payload paused

theorem planClear_moves (tag : Byte) (payload : List Byte) (s : State) :
    movesCycle (.planClear tag payload) s (serve 0x21 tag payload ownPlanClear s) := by
  refine serve_moves_working rfl (fun u _ same _ => ?_) fun u paused => ?_
  · rw [← same]
    unfold ownPlanClear
    split
    · exact .stays rfl
    · next ready => exact .clears ready (by simp [enterCycle_cpx]) ⟨tag, payload, rfl⟩
    all_goals exact .stays rfl
  · unfold ownPlanClear
    rw [paused]
    exact paused

theorem start_moves (tag : Byte) (payload : List Byte) (s : State) :
    movesCycle (.start tag payload) s (serve 0x30 tag payload ownStart s) := by
  refine serve_moves_working rfl (fun u _ same _ => ?_) fun u paused => ?_
  · rw [← same]
    by_cases ready : u.cpx.cycle = .ready
    · exact .starts ready ⟨tag, payload, rfl⟩
    · rw [show ownStart u = (u, .badState) from if_pos ready]
      exact .stays rfl
  · rw [show ownStart u = (u, .badState) from if_pos (by rw [paused]; decide)]
    exact paused

theorem pause_moves (tag : Byte) (payload : List Byte) (s : State) :
    movesCycle (.pause tag payload) s (serve 0x31 tag payload ownPause s) := by
  refine serve_moves_working rfl (fun u _ same _ => ?_) fun u paused => ?_
  · rw [← same]
    unfold ownPause
    split
    · next running => exact .pauses (.inl running) (by rw [enterPaused_cpx]) (.inr ⟨tag, payload, rfl⟩)
    · next starved => exact .pauses (.inr starved) (by rw [enterPaused_cpx]) (.inr ⟨tag, payload, rfl⟩)
    all_goals exact .stays rfl
  · unfold ownPause
    rw [paused]
    exact paused

/-- What RESUME does to a paused cycle: it refuses, or continues the stage, starts the head, or waits for a stage. -/
theorem ownResume_cycle (paused : s.cpx.cycle = .paused) :
    (ownResume s).1 = s ∨ ((ownResume s).1.cpx.cycle = .running ∧ (s.cpx.stageActive = true ∨ s.cpx.plan ≠ [])) ∨
      ((ownResume s).1.cpx.cycle = .starved ∧ currentStage s.cpx = none) := by
  unfold ownResume
  rw [if_neg (not_not.mpr paused)]
  split
  · exact .inl rfl
  · next closed =>
    split
    · exact .inl rfl
    · split
      · exact .inl rfl
      · right
        change (resumed ((s.updTrip silenceCleared).updCpx fun c => { c with pauseCause := none })).cpx.cycle = .running ∧ _ ∨
          (resumed ((s.updTrip silenceCleared).updCpx fun c => { c with pauseCause := none })).cpx.cycle = .starved ∧ _
        unfold resumed
        split
        · next r current =>
          exact .inl ⟨by rw [resumeStage_cpx], .inl (currentStage_head (c := { s.cpx with pauseCause := none }) current).1⟩
        · next current =>
          split
          · exact .inr ⟨by rw [resumeStarved_cpx], current⟩
          · next some =>
            have held : s.cpx.plan ≠ [] := by simpa using some
            refine .inl ⟨?_, .inr held⟩
            obtain ⟨_, running⟩ | ⟨notClosed, _⟩ := (resumeHead_started (s := (s.updTrip silenceCleared).updCpx fun c =>
              { c with pauseCause := none }) held).cycle
            · exact running
            · exact absurd notClosed (by simpa using closed)

theorem resume_moves (tag : Byte) (payload : List Byte) (s : State) :
    movesCycle (.resume tag payload) s (serve 0x32 tag payload ownResume s) := by
  refine serve_moves rfl (fun u _ same _ => ?_) fun u taken work pauses => ?_
  · rw [← same]
    by_cases paused : u.cpx.cycle = .paused
    · obtain refused | ⟨running, _⟩ | ⟨starved, _⟩ := ownResume_cycle paused
      · rw [refused]
        exact .stays rfl
      · exact .resumes paused (.inl running) ⟨tag, payload, rfl⟩
      · exact .resumes paused (.inr starved) ⟨tag, payload, rfl⟩
    · rw [show ownResume u = (u, .badState) from if_pos paused]
      exact .stays rfl
  · obtain refused | ⟨running, held⟩ | ⟨starved, none⟩ := ownResume_cycle (s := u) (by rw [pauses])
    · rw [refused]
      exact .silences work (by rw [pauses]) taken
    · refine .resumesSilenced work (.inl running) ⟨tag, payload, rfl⟩ fun sound => ?_
      rw [running]
      obtain was | was := work
      · exact was.symm
      · unfold stageSound at sound
        rw [was] at sound
        rw [pauses] at held
        obtain ⟨empty, inactive⟩ := sound
        obtain active | some := held
        · exact absurd (inactive.symm.trans active) (by decide)
        · exact absurd empty some
    · refine .resumesSilenced work (.inr starved) ⟨tag, payload, rfl⟩ fun sound => ?_
      rw [starved]
      obtain was | was := work
      · unfold stageSound at sound
        rw [was] at sound
        obtain ⟨some, active⟩ := sound
        rw [pauses] at none
        have head : s.cpx.plan.head? = .none := by simpa [currentStage, active] using none
        exact absurd (List.head?_eq_none_iff.mp head) some
      · exact was.symm

theorem abort_moves (tag : Byte) (payload : List Byte) (s : State) :
    movesCycle (.abort tag payload) s (serve 0x33 tag payload ownAbort s) := by
  have aborts (u : State) (work : u.cpx.cycle.working = true) : (ownAbort u).1.cpx.cycle = .done := by
    unfold ownAbort
    cases cycle : u.cpx.cycle <;> rw [cycle] at work
    case running | starved | paused => simp [enterDone_cpx]
    all_goals cases work
  refine serve_moves rfl (fun u _ same _ => ?_) fun u taken work pauses => ?_
  · rw [← same]
    cases work : u.cpx.cycle.working with
    | true => exact .aborts work (aborts u work) ⟨tag, payload, rfl⟩
    | false =>
      unfold ownAbort
      cases cycle : u.cpx.cycle <;> rw [cycle] at work
      case running | starved | paused => cases work
      all_goals exact .stays cycle
  · refine .aborts ?_ (aborts u (by rw [pauses]; rfl)) ⟨tag, payload, rfl⟩
    obtain running | starved := work
    · rw [running]; rfl
    · rw [starved]; rfl

/-- An exit of the stage of a RUNNING cycle. -/
theorem retire_move {c : Instr} {silent notClosed sound : Prop} (reason : ExitReason) (running : s.cpx.cycle = .running)
    (opened : s.atu.door.isClosed = false → notClosed) (event : exitsStage c) :
    CycleMove c silent notClosed sound .running (retire reason s).cpx.cycle := by
  obtain empty | some := eq_or_ne s.cpx.plan []
  · rw [retire_nil reason empty]
    exact .stays running
  · obtain done | ⟨_, runs | starved⟩ | ⟨door, paused⟩ := (retire_retired reason some running).cycle
    · exact .exits rfl (.inl done) event
    · exact .stays runs
    · exact .exits rfl (.inr (.inl starved)) event
    · exact .exits rfl (.inr (.inr ⟨paused, opened door⟩)) event

theorem notClosed_of {i : DebouncedInput} (h : i.isClosed = false) : i.settled ≠ some .closed := of_decide_eq_false h

theorem advance_moves (tag : Byte) (payload : List Byte) (s : State) :
    movesCycle (.advance tag payload) s (serve 0x34 tag payload ownAdvance s) := by
  refine serve_moves_working rfl (fun u _ same door => ?_) fun u paused => ?_
  · rw [← same, ← door]
    cases cycle : u.cpx.cycle
    case running =>
      rw [show ownAdvance u = (retire .advance u, .ok []) by simp [ownAdvance, cycle]]
      exact retire_move .advance cycle notClosed_of (.inr (.inr (.inr (.inr ⟨tag, payload, rfl⟩))))
    all_goals
      rw [show ownAdvance u = (u, .badState) by simp [ownAdvance, cycle]]
      exact .stays cycle
  · rw [show ownAdvance u = (u, .badState) by simp [ownAdvance, paused]]
    exact paused

theorem cycleClose_moves (tag : Byte) (payload : List Byte) (s : State) :
    movesCycle (.cycleClose tag payload) s (serve 0x35 tag payload ownCycleClose s) := by
  refine serve_moves_working rfl (fun u _ same _ => ?_) fun u paused => ?_
  · rw [← same]
    unfold ownCycleClose
    split
    · next done => exact .closes (.inr done) (by rw [closeCycle_cpx]) ⟨tag, payload, rfl⟩
    · next faulted =>
      split
      · exact .stays rfl
      · exact .closes (.inl faulted) (by rw [closeCycle_cpx]) ⟨tag, payload, rfl⟩
    all_goals exact .stays rfl
  · unfold ownCycleClose
    rw [paused]
    exact paused

theorem contextLoad_moves (tag : Byte) (payload : List Byte) (s : State) :
    movesCycle (.contextLoad tag payload) s (serve 0x51 tag payload (ownContextLoad payload) s) := by
  refine serve_moves_working rfl (fun u _ same _ => ?_) fun u paused => ?_
  · rw [← same]
    by_cases ready : u.cpx.cycle = .ready
    · unfold ownContextLoad
      dsimp only
      rw [if_neg (not_not.mpr ready)]
      (repeat' split)
      case h_2 => exact .loads ready (by rw [loadContext_cpx]) ⟨tag, payload, rfl⟩
      all_goals exact .stays rfl
    · rw [show ownContextLoad payload u = (u, .badState) from if_pos ready]
      exact .stays rfl
  · rw [show ownContextLoad payload u = (u, .badState) from if_pos (by rw [paused]; decide)]
    exact paused

/-! ### What the blocks hand CPX -/

theorem doorDebounced_moves (s : State) : movesCycle (.debounceExpiry .door) s (doorDebounced s) := by
  unfold doorDebounced
  dsimp only
  split
  · exact .stays rfl
  · split
    · next was now =>
      have door : (s.updAtu fun a => { a with door := { a.door with timer := none, settled := some a.door.raw } }).atu.door.isClosed = false :=
        decide_eq_false (by simp [now])
      unfold doorOpened
      dsimp only
      generalize settled : s.updAtu _ = v at door
      have vCpx : v.cpx = s.cpx := by rw [← settled]; rfl
      generalize off : (if v.atu.blower = .off then v else enterOff v) = u
      have uFrame : u.cpx = s.cpx ∧ u.atu.door = v.atu.door := by
        rw [← off, ← vCpx]
        split
        · exact ⟨rfl, rfl⟩
        · simp
      obtain ⟨cpx, uDoor⟩ := uFrame
      unfold movesCycle
      rw [show (hstgStop false (cpxDoorOpened u)).cpx = (cpxDoorOpened u).cpx by simp, ← cpx]
      have pauses (work : u.cpx.cycle = .running ∨ u.cpx.cycle = .starved) :
          CycleMove (.debounceExpiry .door) (takesSilence (.debounceExpiry .door) s) (s.atu.door.settled ≠ some .closed) (stageSound s)
            u.cpx.cycle (enterPaused .door u).cpx.cycle := .pauses work (by rw [enterPaused_cpx]) (.inl rfl)
      unfold cpxDoorOpened
      split
      · next running =>
        split
        · next r current =>
          split
          · obtain ⟨_, rest, held⟩ := currentStage_head current
            have dropped : (drumStop u).cpx = u.cpx ∧ (drumStop u).atu.door.isClosed = false := by
              refine ⟨by simp, ?_⟩
              rw [show (drumStop u).atu = u.atu by simp, uDoor]
              exact door
            obtain ⟨dCpx, dDoor⟩ := dropped
            obtain done | ⟨closed, _⟩ | ⟨_, paused⟩ := (retire_retired (s := drumStop u) .door (by rw [dCpx, held]; simp) (by rw [dCpx]; exact running)).cycle
            · exact .exits running (.inl done) (.inr (.inr (.inr (.inl rfl))))
            · rw [dDoor] at closed
              cases closed
            · exact .pauses (.inl running) paused (.inl rfl)
          · exact pauses (.inl running)
        · exact pauses (.inl running)
      · next starved => exact pauses (.inr starved)
      all_goals exact .stays rfl
    · exact movesCycle_of_cpx (by simp)
    all_goals exact .stays rfl

theorem exhaustConverted_moves (raw : Int) (s : State) : movesCycle (.conversionComplete .exhaust raw) s (exhaustConverted raw s) := by
  rw [exhaustConverted_eq]
  generalize (exhaustTaken raw s).atu.exhaust.value = value
  have same : (hstgExhaust value (exhaustTaken raw s)).cpx = s.cpx ∧ (hstgExhaust value (exhaustTaken raw s)).atu.door = s.atu.door := by
    simp [exhaustTaken]
  generalize hstgExhaust value (exhaustTaken raw s) = u at same
  obtain ⟨cpx, door⟩ := same
  unfold movesCycle
  rw [← cpx, ← door]
  unfold judgeCooled
  split
  · next r running _ =>
    split
    · rw [running]
      exact retire_move .cooled running notClosed_of (.inr (.inr (.inl ⟨raw, rfl⟩)))
    · exact .stays rfl
  · exact .stays rfl

theorem countSecond_moves (s : State) : movesCycle .oneSecondCount s (countSecond s) := by
  unfold countSecond
  split
  · next running =>
    generalize counted : s.updCpx _ = u
    have same : u.cpx.cycle = s.cpx.cycle ∧ u.atu.door = s.atu.door := by rw [← counted]; exact ⟨rfl, rfl⟩
    obtain ⟨cycle, door⟩ := same
    unfold movesCycle
    rw [← cycle, ← door]
    have runs : u.cpx.cycle = .running := cycle.trans running
    rw [runs]
    unfold judgeCount
    split
    · exact .stays runs
    · dsimp only
      split
      · exact retire_move _ runs notClosed_of (.inl rfl)
      · split
        · exact retire_move _ runs notClosed_of (.inl rfl)
        · split
          · exact .stays (by simp [runs])
          · exact .stays runs
  all_goals exact .stays rfl

theorem starveExpires_moves (s : State) : movesCycle .starveTimerExpiry s (starveExpires s) := by
  unfold starveExpires
  split
  · next starved _ =>
    split
    · exact .starves starved (by rw [enterDone_cpx]) rfl
    · exact .stays rfl
  · exact .stays rfl

theorem dryReachedSignal_moves (ordinal : Nat) (s : State) :
    movesCycle (.dryReachedSignal ordinal) s (takeDry ordinal (dryReached ordinal) s) := by
  unfold takeDry
  split
  · next n rest handed =>
    split
    · generalize taken : s.updPaths _ = u
      have same : u.cpx = s.cpx ∧ u.atu.door = s.atu.door := by rw [← taken]; exact ⟨rfl, rfl⟩
      obtain ⟨cpx, door⟩ := same
      unfold movesCycle
      rw [← cpx, ← door]
      unfold dryReached
      split
      · exact .stays rfl
      · split
        · split
          · next running =>
            split
            · rw [running]
              exact retire_move .dry running notClosed_of (.inr (.inl ⟨ordinal, rfl⟩))
            · exact .stays rfl
          all_goals exact .stays rfl
        · exact .stays rfl
    · exact .stays rfl
  · exact .stays rfl

theorem tripClass_pause {c : TripCause} (h : tripClass c = .pause) : c = .hostSilent := by
  cases c
  case hostSilent => rfl
  all_goals cases h

theorem tripCondition_moves (c : TripCause) (s : State) : movesCycle (.tripCondition c) s (takeTripMsg ⟨c, false⟩ (takeCondition c) s) := by
  unfold takeTripMsg
  split
  · generalize taken : s.updPaths _ = v
    have vCpx : v.cpx = s.cpx := by rw [← taken]; rfl
    unfold takeCondition
    split
    · exact movesCycle_of_cpx vCpx
    · dsimp only
      generalize entered : raiseFlag .tripRaised _ = u
      have cpx : u.cpx = s.cpx := by
        rw [← entered, ← vCpx]
        simp
      unfold movesCycle
      rw [← cpx]
      have stops (severe : Bool) (cls : tripClass c ≠ .pause) : CycleMove (.tripCondition c) (takesSilence (.tripCondition c) s)
          (s.atu.door.settled ≠ some .closed) (stageSound s) u.cpx.cycle (stopEffects severe u).cpx.cycle := by
        cases work : u.cpx.cycle.working with
        | true =>
          obtain ⟨faulted, _⟩ := stopEffects_working severe work
          exact .faults work (by rw [faulted]) ⟨c, rfl, cls⟩
        | false =>
          rw [stopEffects_not_working severe work]
          exact .stays (by split <;> simp)
      unfold classEffects
      split
      · next cls => exact stops false (by rw [cls]; decide)
      · next cls => exact stops true (by rw [cls]; decide)
      · next cls =>
        unfold cpxSilence
        split
        · next running => exact .silences (.inl running) (by rw [enterPaused_cpx]) (.inl (by rw [tripClass_pause cls]))
        · next starved => exact .silences (.inr starved) (by rw [enterPaused_cpx]) (.inl (by rw [tripClass_pause cls]))
        all_goals exact .stays rfl
  · exact .stays rfl

/-- Every command that is no reset moves the cycle by its own events. -/
theorem exec_moves {c : Instr} (notReset : isReset c = false) (h : exec c s = .next t) : movesCycle c s t := by
  have only {u : State} (moves : movesCycle c s u) (same : Host.Outcome.next (φ := Fault) (ρ := Refusal) u = .next t) : movesCycle c s t := by
    injection same with same
    exact same ▸ moves
  have kept {u : State} (cpx : u.cpx = s.cpx) (same : Host.Outcome.next (φ := Fault) (ρ := Refusal) u = .next t) : movesCycle c s t :=
    only (movesCycle_of_cpx cpx) same
  cases c with
  | powerOn | brownOut | pinReset | linkResetFollows => cases notReset
  | rxByte b => exact kept (by simp) h
  | gapTimerExpiry => exact kept (by split <;> simp) h
  | txFrameBoundary => exact kept (by simp) h
  | silenceTimerExpiry => exact kept (by split <;> simp) h
  | unknownKindRequest kind tag payload => exact kept (by unfold serveUnknown; (repeat' split) <;> rfl) h
  | profileSet tag payload =>
    refine only (serve_moves_kept rfl fun u => ?_) h
    unfold ownProfileSet
    (repeat' split) <;> simp
  | profileStore tag payload => exact only (serve_moves_kept rfl fun u => (ownProfileStore_apart u).1) h
  | allowanceSet tag payload => exact only (serve_moves_kept rfl fun u => (ownAllowanceSet_apart payload u).1) h
  | reportLevelSet tag payload => exact only (serve_moves_kept rfl fun u => (ownReportLevelSet_apart payload u).1) h
  | linkReset tag payload => exact only (serve_moves_kept rfl fun u => (ownLinkReset_apart u).1) h
  | patternSet tag payload => exact only (serve_moves_kept rfl fun u => (ownPatternSet_apart payload u).1) h
  | planAppend tag payload => exact only (planAppend_moves tag payload s) h
  | planClear tag payload => exact only (planClear_moves tag payload s) h
  | start tag payload => exact only (start_moves tag payload s) h
  | pause tag payload => exact only (pause_moves tag payload s) h
  | resume tag payload => exact only (resume_moves tag payload s) h
  | abort tag payload => exact only (abort_moves tag payload s) h
  | advance tag payload => exact only (advance_moves tag payload s) h
  | cycleClose tag payload => exact only (cycleClose_moves tag payload s) h
  | contextLoad tag payload => exact only (contextLoad_moves tag payload s) h
  | tripClear tag payload =>
    refine only (serve_moves_kept rfl fun u => ?_) h
    unfold ownTripClear
    dsimp only
    (repeat' split) <;> rfl
  | probe | profileGet | nop | trendGet | tripGet | statusGet => exact only (serve_moves_kept rfl fun _ => rfl) h
  | patternGet tag payload => exact only (serve_moves_kept rfl fun u => congrArg State.cpx (ownPatternGet_state payload u)) h
  | planGet tag payload => exact only (serve_moves_kept rfl fun u => congrArg State.cpx (ownPlanGet_state payload u)) h
  | historyGet tag payload => exact only (serve_moves_kept rfl fun u => congrArg State.cpx (ownHistoryGet_state payload u)) h
  | contextGet tag payload => exact only (serve_moves_kept rfl fun u => congrArg State.cpx (ownContextGet_state u)) h
  | tachPulse current rawCount => exact kept (by simp) h
  | indexMarker elapsed => exact kept (by simp) h
  | stopDetectExpiry => exact kept (by simp) h
  | accelTimerExpiry => exact kept (by simp) h
  | dwellExpiry => exact kept (by split <;> simp) h
  | stallTimerExpiry => exact kept (by simp) h
  | surgeGrant n => exact kept (by unfold takeSurgeGrant; (repeat' split) <;> simp) h
  | conversionComplete ch raw =>
    cases ch with
    | exhaust => exact only (exhaustConverted_moves raw s) h
    | inlet => exact kept (by simp) h
    | pressure => exact kept (by simp) h
    | lineCurrent => exact kept (by simp) h
  | inputLevelChange pin level => exact kept (by simp) h
  | debounceExpiry pin =>
    cases pin with
    | door => exact only (doorDebounced_moves s) h
    | highLimit => exact kept (by simp) h
  | graceTimerExpiry => exact kept (by split <;> simp) h
  | lowFlowExpiry => exact kept (by split <;> simp) h
  | runOnTimerExpiry => exact kept (by split <;> simp) h
  | minOnExpiry e => exact kept (by simp) h
  | minOffExpiry e => exact kept (by simp) h
  | elementGrant e => exact kept (by unfold takeSaaMsg; (repeat' split) <;> simp) h
  | shed e => exact kept (by unfold takeSaaMsg; (repeat' split) <;> simp) h
  | elementRequest e current => exact kept (by unfold takeHstgMsg; (repeat' split) <;> simp) h
  | elementWithdrawal e => exact kept (by unfold takeHstgMsg; (repeat' split) <;> simp) h
  | elementRelease e => exact kept (by unfold takeHstgMsg; (repeat' split) <;> simp) h
  | onFreeNotice e => exact kept (by unfold takeHstgMsg; (repeat' split) <;> simp) h
  | surgeRequest n => exact kept (by unfold takeDrumMsg; (repeat' split) <;> simp) h
  | surgeRelease n => exact kept (by unfold takeDrumMsg; (repeat' split) <;> simp) h
  | surgeWithdrawal n => exact kept (by unfold takeDrumMsg; (repeat' split) <;> simp) h
  | grantTimerExpiry => exact kept (by simp) h
  | oneSecondCount => exact only (countSecond_moves s) h
  | starveTimerExpiry => exact only (starveExpires_moves s) h
  | dryReachedSignal ordinal => exact only (dryReachedSignal_moves ordinal s) h
  | tripCondition c => exact only (tripCondition_moves c s) h
  | tripConditionEnd c => exact kept (by unfold takeTripMsg; split <;> simp) h
  | storeVerify readBack => exact kept (by simp) h

/-- Settles O58: each command's own move of the cycle, read off for each state. -/
theorem cycleLeavesEachStateByItsEvents : Obligations.CycleLeavesEachStateByItsEvents :=
  ⟨fun _ _ _ notReset h => (exec_moves notReset h).events, fun _ _ _ notReset sound h => (exec_moves notReset h).leaves sound⟩

end Sys2Proof.Machine
end

section
/-! SUPPORT. The cycle's entries to PAUSED, DONE and IDLE as what each does to every block: O55. -/

namespace Sys2Proof.Machine

variable {s t : State}

/-! ### Heat taken away -/

/-- HSTG with heat-enable clear, no demand, and no element on or waiting. -/
structure HeatOff (s : State) : Prop where
  enable : s.hstg.heatEnable = false
  demand : s.hstg.demand = 0
  counted : ∀ e, (s.elem e).state.counted = false

theorem HeatOff.active (h : HeatOff s) : activeCount s.hstg = 0 := activeCount_zero h.counted

theorem HeatOff.of_hstg (same : t.hstg = s.hstg) (h : HeatOff s) : HeatOff t := by
  refine ⟨by rw [same]; exact h.enable, by rw [same]; exact h.demand, fun e => ?_⟩
  rw [State.elem, same]
  exact h.counted e

theorem hstgStop_heatOff (s : State) : HeatOff (hstgStop true s) := by
  obtain ⟨enable, demand⟩ := hstgStop_settings true s
  exact ⟨enable, demand, hstgStop_not_counted true s⟩

theorem HeatOff.stop (h : HeatOff s) : HeatOff (hstgStop false s) := by
  obtain ⟨enable, demand⟩ := hstgStop_settings false s
  exact ⟨enable.trans h.enable, demand, hstgStop_not_counted false s⟩

/-- A blower request leaves HSTG or stops its heat (R104). -/
theorem blowerRequest_hstg (q : BlowerRequest) (s : State) :
    (blowerRequest q s).hstg = s.hstg ∨ ∃ u : State, u.hstg = s.hstg ∧ (blowerRequest q s).hstg = (hstgStop false u).hstg := by
  have off : (enterOff s).hstg = s.hstg ∨ ∃ u : State, u.hstg = s.hstg ∧ (enterOff s).hstg = (hstgStop false u).hstg := by
    rw [enterOff_cases]
    split
    · exact .inr ⟨blowerOff s, rfl, rfl⟩
    · exact .inl rfl
  have runOn : (enterRunOn s).hstg = s.hstg ∨ ∃ u : State, u.hstg = s.hstg ∧ (enterRunOn s).hstg = (hstgStop false u).hstg :=
    .inr ⟨s.updAtu _, rfl, rfl⟩
  unfold blowerRequest
  (repeat' split) <;> first
    | exact .inl rfl
    | exact off
    | exact runOn

theorem HeatOff.blower (h : HeatOff s) (q : BlowerRequest) : HeatOff (blowerRequest q s) := by
  obtain same | ⟨u, same, stopped⟩ := blowerRequest_hstg q s
  · exact .of_hstg same h
  · exact .of_hstg stopped (HeatOff.of_hstg same h).stop

/-! ### The blower reads ATU and the profile -/

theorem enterRunOn_atu (s : State) :
    (enterRunOn s).atu =
      { s.atu with blower := .runOn, airflowProven := false, grace := none, lowFlow := none, runOn := some (s.profile.runOnLimit * 60000) } := by
  simp [enterRunOn]

theorem blowerRequest_atu_congr (q : BlowerRequest) (atu : t.atu = s.atu) (profile : t.profile = s.profile) :
    (blowerRequest q t).atu = (blowerRequest q s).atu := by
  have off : (enterOff t).atu = (enterOff s).atu := by rw [enterOff_atu, enterOff_atu, atu]
  have on : (enterOn t).atu = (enterOn s).atu := by
    unfold enterOn
    rw [State.updAtu_atu, State.updAtu_atu, atu, profile]
  have runOn : (enterRunOn t).atu = (enterRunOn s).atu := by rw [enterRunOn_atu, enterRunOn_atu, atu, profile]
  unfold blowerRequest
  rw [atu]
  split
  · split
    · exact on
    · exact atu
  · exact atu
  · split
    · exact on
    · exact off
  · exact atu
  · split
    · exact runOn
    · exact off
  · split
    · exact atu
    · exact off
  · exact atu
  · exact off
  · exact off

/-! ### The entry to PAUSED (R151) -/

/-- The code of a report of a state change (R127). -/
theorem reportChange_eq (old : CycleState) (s : State) :
    reportChange old s = report .cpx .info 0x50 (u8 old.code ++ u8 s.cpx.cycle.code ++ u8 (changeDetail s.cpx.cycle s.cpx)) s := rfl

theorem enterPaused_heatOff (cause : PauseCause) (s : State) : HeatOff (enterPaused cause s) := by
  have stopped (u : State) : HeatOff (drumStop (hstgStop true u)) := (hstgStop_heatOff u).of_hstg (by simp)
  have reported {u : State} (old : CycleState) (h : HeatOff u) : HeatOff (reportChange old u) := h.of_hstg (by simp)
  unfold enterPaused
  dsimp only
  refine reported _ ?_
  split
  · exact stopped _
  · exact (stopped _).blower .runOn

theorem enterPaused_atu_door (s : State) : (enterPaused .door s).atu = s.atu := by
  unfold enterPaused
  simp

theorem enterPaused_atu {cause : PauseCause} (h : cause ≠ .door) (s : State) :
    (enterPaused cause s).atu = (blowerRequest .runOn s).atu := by
  have reported (old : CycleState) (u : State) : (reportChange old u).atu = u.atu := by simp
  unfold enterPaused
  dsimp only
  rw [if_neg h, reported]
  exact blowerRequest_atu_congr _ (by simp) (by simp [State.profile_eq])

theorem enterPaused_link (cause : PauseCause) (s : State) :
    (enterPaused cause s).link =
      (report .cpx .info 0x50 (u8 s.cpx.cycle.code ++ u8 5 ++ u8 cause.code) (lockLostLeaving s.drum s)).link := by
  have stopped (u : State) (link : u.link = s.link) (drum : u.drum = s.drum) (elapsed : u.cpx.cycleElapsed = s.cpx.cycleElapsed) :
      (drumStop u).link = (lockLostLeaving s.drum s).link := by
    rw [drumStop_link, drum]
    exact lockLostLeaving_link_congr link elapsed
  have given (v : State) (link : v.link = (lockLostLeaving s.drum s).link)
      (cpx : v.cpx = { s.cpx with starve := none, cycle := .paused, pauseCause := some cause }) :
      (reportChange s.cpx.cycle v).link =
        (report .cpx .info 0x50 (u8 s.cpx.cycle.code ++ u8 5 ++ u8 cause.code) (lockLostLeaving s.drum s)).link := by
    rw [reportChange_eq, cpx]
    refine report_link_congr link ?_
    rw [cpx, lockLostLeaving_eq]
  have blown (u : State) : (blowerRequest .runOn u).link = u.link := by simp
  unfold enterPaused
  dsimp only
  refine given _ ?_ ?_
  · split
    · exact stopped _ (by simp) (by simp) (by simp)
    · rw [blown]
      exact stopped _ (by simp) (by simp) (by simp)
  · split <;> simp

/-! ### The entry to DONE (R145) -/

theorem enterDone_heatOff (reason : EndReason) (s : State) : HeatOff (enterDone reason s) := by
  have stopped (u : State) : HeatOff (drumStop (hstgStop true u)) := (hstgStop_heatOff u).of_hstg (by simp)
  have withdrawn {u : State} (h : HeatOff u) : HeatOff (mestWithdraw u) := h.of_hstg (by simp)
  exact withdrawn ((stopped _).blower .runOn)

theorem enterDone_atu (reason : EndReason) (s : State) : (enterDone reason s).atu = (blowerRequest .runOn s).atu := by
  have withdrawn (u : State) : (mestWithdraw u).atu = u.atu := by simp
  unfold enterDone
  dsimp only
  rw [withdrawn]
  exact blowerRequest_atu_congr _ (by simp) (by simp [State.profile_eq])

theorem mestWithdraw_mest (s : State) : (mestWithdraw s).mest = { s.mest with stage := none, estimate := none } := rfl

theorem enterDone_mest (reason : EndReason) (s : State) :
    (enterDone reason s).mest = { s.mest with stage := none, estimate := none } := by
  unfold enterDone
  rw [mestWithdraw_mest]
  simp

theorem enterDone_link (reason : EndReason) (s : State) :
    (enterDone reason s).link =
      (lockLostLeaving s.drum (report .cpx .info 0x50 (u8 s.cpx.cycle.code ++ u8 7 ++ u8 reason.code) s)).link := by
  have entered : (enterCycle .done (s.updCpx fun c => { c with endReason := reason, pauseCause := none })).link =
      (report .cpx .info 0x50 (u8 s.cpx.cycle.code ++ u8 7 ++ u8 reason.code) s).link := report_link_congr rfl rfl
  have closed (u : State) : (mestWithdraw (blowerRequest .runOn (drumStop u))).link = (lockLostLeaving u.drum u).link := by
    rw [← drumStop_link]
    simp
  unfold enterDone
  dsimp only
  rw [closed]
  generalize reported : report .cpx .info 0x50 (u8 s.cpx.cycle.code ++ u8 7 ++ u8 reason.code) s = v at entered
  have drum : (hstgStop true ((enterCycle .done (s.updCpx fun c => { c with endReason := reason, pauseCause := none })).updCpx fun c =>
      { c with stageActive := false, starve := none })).drum = s.drum := by simp
  rw [drum]
  refine lockLostLeaving_link_congr ?_ ?_
  · simpa using entered
  · rw [← reported]
    simp [enterCycle_cpx]

/-! ### CYCLE_CLOSE (R148) -/

theorem closeCycle_link (s : State) :
    (closeCycle s).link =
      (report .cpx .info 0x50 (u8 s.cpx.cycle.code ++ u8 1 ++ u8 0) (s.updCpx fun c => { c with cycleElapsed := 0 })).link := by
  unfold closeCycle enterCycle
  rw [reportChange_eq]
  simp only [State.updCpx_cpx, hstgClose_frame, setPlan]
  exact report_link_congr (by simp) (by simp)

theorem closeCycle_mest (s : State) : (closeCycle s).mest = { s.mest with stage := none, estimate := none } := by
  unfold closeCycle
  simp [mestWithdraw_mest, setPlan]

theorem closeCycle_hstg (s : State) :
    (closeCycle s).hstg.settings = none ∧ (closeCycle s).hstg.heatEnable = false ∧ (closeCycle s).hstg.elements = s.hstg.elements := by
  have closed (u : State) : (hstgClose u).hstg.settings = none ∧ (hstgClose u).hstg.heatEnable = false ∧
      (hstgClose u).hstg.elements = u.hstg.elements := by
    unfold hstgClose
    exact ⟨rfl, setHeatEnable_heatEnable false u, setHeatEnable_elements false u⟩
  have entered (u : State) : (enterCycle .idle u).hstg = u.hstg := by simp
  unfold closeCycle
  dsimp only
  rw [entered]
  obtain ⟨settings, enable, elements⟩ := closed (mestWithdraw (setPlan [] (s.updCpx fun c =>
    { c with ordinal := 0, stageElapsed := 0, cycleElapsed := 0, endReason := .none, stageActive := false, dryLatched := false })))
  exact ⟨settings, enable, elements⟩

/-! ### PAUSE, ABORT and CYCLE_CLOSE at their owner (R146, R148, R152) -/

theorem exec_pause {tag : Byte} {f : InFrame} {s : State} (due : requestDue 0x31 tag [] f s) :
    exec (.pause tag []) s = .next (answered 0x31 tag (ownPause (atOwner f s)).2.payload (ownPause (atOwner f s)).1) :=
  congrArg _ (serve_due due rfl)

theorem exec_abort {tag : Byte} {f : InFrame} {s : State} (due : requestDue 0x33 tag [] f s) :
    exec (.abort tag []) s = .next (answered 0x33 tag (ownAbort (atOwner f s)).2.payload (ownAbort (atOwner f s)).1) :=
  congrArg _ (serve_due due rfl)

theorem ownPause_refused (running : s.cpx.cycle ≠ .running) (starved : s.cpx.cycle ≠ .starved) : ownPause s = (s, .badState) := by
  cases cycle : s.cpx.cycle <;> simp_all [ownPause]

theorem ownPause_accepted (h : s.cpx.cycle = .running ∨ s.cpx.cycle = .starved) : ownPause s = (enterPaused .host s, .ok []) := by
  obtain running | starved := h
  · simp [ownPause, running]
  · simp [ownPause, starved]

theorem ownAbort_refused (rest : s.cpx.cycle.working = false) : ownAbort s = (s, .badState) := by
  cases cycle : s.cpx.cycle <;> simp_all [ownAbort, CycleState.working]

theorem ownAbort_accepted (working : s.cpx.cycle.working = true) : ownAbort s = (enterDone .aborted s, .ok []) := by
  cases cycle : s.cpx.cycle <;> simp_all [ownAbort, CycleState.working]

theorem ownCycleClose_refused (faulted : s.cpx.cycle ≠ .faulted) (done : s.cpx.cycle ≠ .done) : ownCycleClose s = (s, .badState) := by
  cases cycle : s.cpx.cycle <;> simp_all [ownCycleClose]

/-- Settles O55: each owner by the cycle state, with the entries to PAUSED, DONE and IDLE block by block. -/
theorem pauseAbortAndCloseByCycleState : Obligations.PauseAbortAndCloseByCycleState := by
  refine ⟨?pause, ?abort, ?close⟩
  case pause =>
    rintro tag f s u rfl due
    rw [exec_pause due]
    refine ⟨fun running starved => by rw [ownPause_refused running starved]; rfl, fun work => ?_⟩
    rw [ownPause_accepted work]
    generalize atOwner f s = u
    have off := enterPaused_heatOff .host u
    exact ⟨enterPaused .host u, rfl, enterPaused_cpx .host u, off.enable, off.demand, off.active,
      (enterPaused_drum .host u).trans (drumStop_drum u).symm, enterPaused_atu (by decide) u, by simp, by simp, by simp, by simp, by simp,
      enterPaused_link .host u⟩
  case abort =>
    rintro tag f s u rfl due
    rw [exec_abort due]
    refine ⟨fun rest => by rw [ownAbort_refused rest]; rfl, fun work => ?_⟩
    rw [ownAbort_accepted work]
    generalize atOwner f s = u
    have off := enterDone_heatOff .aborted u
    exact ⟨enterDone .aborted u, rfl, enterDone_cpx .aborted u, off.enable, off.demand, off.active,
      (enterDone_drum .aborted u).trans (drumStop_drum u).symm, enterDone_atu .aborted u, enterDone_mest .aborted u, by simp, by simp, by simp,
      by simp, enterDone_link .aborted u⟩
  case close =>
    rintro tag f s u rfl due
    rw [exec_cycleClose due]
    refine ⟨fun faulted done => by rw [ownCycleClose_refused faulted done]; rfl,
      fun faulted bars => by rw [ownCycleClose_tripped faulted bars]; rfl, fun ended => ?_⟩
    rw [ownCycleClose_accepted ended.symm]
    generalize atOwner f s = u
    obtain ⟨settings, enable, elements⟩ := closeCycle_hstg u
    exact ⟨closeCycle u, rfl, closeCycle_cpx u, closeCycle_mest u, settings, enable, elements, by simp, by simp, by simp, by simp, by simp,
      by simp, closeCycle_link u⟩


end Sys2Proof.Machine
end

section
/-! SUPPORT. The debounced inputs and what an opening does to every block: O51. -/

namespace Sys2Proof.Machine

variable {s t : State}

/-! ### A raw level (R86) -/

theorem exec_levelChange_door (level : Level) (s : State) :
    exec (.inputLevelChange .door level) s = .next (s.updAtu fun a =>
      { a with door := if a.door.raw = level then a.door else { a.door with raw := level, timer := some 50 } }) := rfl

theorem exec_levelChange_highLimit (level : Level) (s : State) :
    exec (.inputLevelChange .highLimit level) s = .next (s.updAtu fun a =>
      { a with highLimit := if a.highLimit.raw = level then a.highLimit else { a.highLimit with raw := level, timer := some 50 } }) := rfl

/-! ### The door settles (R86, R87) -/

theorem doorDebounced_quiet (timer : s.atu.door.timer ≠ none)
    (h : s.atu.door.settled ≠ some .closed ∧ s.atu.door.raw = .opened ∨ s.atu.door.raw = .closed ∧ s.atu.door.settled ≠ some .opened) :
    doorDebounced s = s.updAtu doorSettled := by
  unfold doorDebounced
  dsimp only
  rw [isNone_false timer]
  obtain ⟨was, now⟩ | ⟨now, was⟩ := h <;> rw [now] <;>
    cases settled : s.atu.door.settled with
    | none => rfl
    | some level => cases level <;> first | exact absurd settled was | rfl

theorem doorDebounced_closes (timer : s.atu.door.timer ≠ none) (was : s.atu.door.settled = some .opened) (now : s.atu.door.raw = .closed) :
    doorDebounced s = rerequest (s.updAtu doorSettled) := by
  unfold doorDebounced
  dsimp only
  rw [isNone_false timer, was, now]
  rfl

/-- The blower goes OFF by the request of R82, then CPX and HSTG take the opening. -/
theorem doorOpened_eq (s : State) : doorOpened s = hstgStop false (cpxDoorOpened (blowerRequest .off s)) := by
  unfold doorOpened
  dsimp only
  split
  · next off => rw [blowerRequest_off_off off .off (.inl (by decide))]
  · next notOff => rw [blowerRequest_off notOff]

theorem doorDebounced_opens (timer : s.atu.door.timer ≠ none) (was : s.atu.door.settled = some .closed) (now : s.atu.door.raw = .opened) :
    doorDebounced s = hstgStop false (cpxDoorOpened (blowerRequest .off (s.updAtu doorSettled))) := by
  rw [← doorOpened_eq]
  unfold doorDebounced
  dsimp only
  rw [isNone_false timer, was, now]
  rfl

/-! ### What an opened door does to the cycle (R153) -/

theorem cpxDoorOpened_rest (running : s.cpx.cycle ≠ .running) (starved : s.cpx.cycle ≠ .starved) : cpxDoorOpened s = s := by
  cases cycle : s.cpx.cycle <;> simp_all [cpxDoorOpened]

theorem cpxDoorOpened_starved (starved : s.cpx.cycle = .starved) : cpxDoorOpened s = enterPaused .door s := by
  simp [cpxDoorOpened, starved]

theorem currentStage_of_head {c : Cpx} {r : StageRec} {rest : List StageRec} (active : c.stageActive = true) (held : c.plan = r :: rest) :
    currentStage c = some r := by
  simp [currentStage, active, held]

theorem cpxDoorOpened_stage {r : StageRec} {rest : List StageRec} (running : s.cpx.cycle = .running) (active : s.cpx.stageActive = true)
    (held : s.cpx.plan = r :: rest) :
    cpxDoorOpened s = if r.kind = .guard then retire .door (drumStop s) else enterPaused .door s := by
  simp [cpxDoorOpened, running, currentStage_of_head active held]

theorem cpxDoorOpened_unstaged (running : s.cpx.cycle = .running) (none : currentStage s.cpx = none) :
    cpxDoorOpened s = enterPaused .door s := by
  simp [cpxDoorOpened, running, none]

theorem cpxDoorOpened_follows (s : State) : AirFollows s (cpxDoorOpened s) := by
  unfold cpxDoorOpened
  split
  · split
    · split
      · exact (drumStop_follows s).trans (retire_follows _ _)
      · exact (AirFollows.refl s).enterPaused
    · exact (AirFollows.refl s).enterPaused
  · exact (AirFollows.refl s).enterPaused
  all_goals exact .refl s

/-- Behind the open door the cycle does not stay in work. -/
theorem cpxDoorOpened_cycle (opened : s.atu.door.isClosed = false) :
    (cpxDoorOpened s).cpx.cycle ≠ .running ∧ (cpxDoorOpened s).cpx.cycle ≠ .starved := by
  have paused : (enterPaused .door s).cpx.cycle ≠ .running ∧ (enterPaused .door s).cpx.cycle ≠ .starved := by
    rw [enterPaused_cpx]
    exact ⟨by simp, by simp⟩
  by_cases running : s.cpx.cycle = .running
  · cases current : currentStage s.cpx with
    | none => rwa [cpxDoorOpened_unstaged running current]
    | some r =>
      obtain ⟨active, rest, held⟩ := currentStage_head current
      rw [cpxDoorOpened_stage running active held]
      split
      · have retired : Retired (drumStop s) (retire .door (drumStop s)) := retire_retired _ (by simp [held]) (by simpa using running)
        have notClosed : (drumStop s).atu.door.isClosed = false := by simpa using opened
        obtain done | ⟨closed, _⟩ | ⟨_, paused⟩ := retired.cycle
        · exact ⟨by simp [done], by simp [done]⟩
        · rw [notClosed] at closed
          cases closed
        · exact ⟨by simp [paused], by simp [paused]⟩
      · exact paused
  · by_cases starved : s.cpx.cycle = .starved
    · rwa [cpxDoorOpened_starved starved]
    · rw [cpxDoorOpened_rest running starved]
      exact ⟨running, starved⟩

theorem hstgStop_drumToSaa (fromCycle : Bool) (s : State) : (hstgStop fromCycle s).paths.drumToSaa = s.paths.drumToSaa := by
  rw [hstgStop_eq]
  cases fromCycle <;> simp [heatMoved]

/-- A pause by the door hands TRIP and SAA what the drum's stop hands them. -/
theorem enterPaused_door_paths (s : State) :
    (enterPaused .door s).paths.drumToSaa = s.paths.drumToSaa ++ stopSends s.drum ∧
    (enterPaused .door s).paths.trip = s.paths.trip ++ stopEnds s.drum := by
  unfold enterPaused
  simp [drumStop_eq, hstgStop_drumToSaa]

theorem exec_debounce_door (s : State) : exec (.debounceExpiry .door) s = .next (doorDebounced s) := rfl

theorem exec_debounce_highLimit (s : State) : exec (.debounceExpiry .highLimit) s = .next (highLimitDebounced s) := rfl

theorem blowerRequest_off_atu (s : State) :
    (blowerRequest .off s).atu = if s.atu.blower = .off then s.atu else blowerAtRest s.atu := by
  split
  · next off => rw [blowerRequest_off_off off .off (.inl (by decide))]
  · next notOff => rw [blowerRequest_off notOff, enterOff_atu]

theorem blowerRequest_off_proven (ran : s.atu.blower ≠ .off) : (blowerRequest .off s).atu.airflowProven = false := by
  rw [blowerRequest_off_atu, if_neg ran]
  rfl

theorem blowerRequest_off_keeps (s : State) :
    (blowerRequest .off s).paths.drumToSaa = s.paths.drumToSaa ∧ (blowerRequest .off s).hstg.heatEnable = s.hstg.heatEnable := by
  by_cases off : s.atu.blower = .off
  · rw [blowerRequest_off_off off .off (.inl (by decide))]
    exact ⟨rfl, rfl⟩
  · rw [blowerRequest_off off, enterOff_heatLost, State.updPaths_paths, State.updPaths_hstg, State.updAtu_paths, State.updAtu_hstg]
    unfold heatLost
    split
    · exact ⟨hstgStop_drumToSaa false s, (hstgStop_settings false s).1⟩
    · exact ⟨rfl, rfl⟩

/-! ### The door's opening, block by block -/

/-- ATU with a part of it written anew, and the blower asked OFF. -/
theorem blowerRequest_off_updAtu_frame (f : Atu → Atu) (s : State) :
    (blowerRequest .off (s.updAtu f)).cpx = s.cpx ∧ (blowerRequest .off (s.updAtu f)).drum = s.drum ∧
    (blowerRequest .off (s.updAtu f)).mest = s.mest ∧ (blowerRequest .off (s.updAtu f)).link = s.link ∧
    (blowerRequest .off (s.updAtu f)).prof = s.prof ∧ (blowerRequest .off (s.updAtu f)).trip = s.trip ∧
    (blowerRequest .off (s.updAtu f)).saa = s.saa ∧ (blowerRequest .off (s.updAtu f)).efe = s.efe := by
  exact ⟨by simp, by simp, by simp, by simp, by simp, by simp, by simp, by simp⟩

section
variable {u : State} {f : Atu → Atu} (blown : u = blowerRequest .off (s.updAtu f))
include blown

/-- The opening leaves the cycle as it was outside RUNNING and STARVED. -/
theorem opened_rest (running : s.cpx.cycle ≠ .running) (starved : s.cpx.cycle ≠ .starved) :
    (hstgStop false (cpxDoorOpened u)).cpx = s.cpx ∧ (hstgStop false (cpxDoorOpened u)).drum = s.drum ∧
    (hstgStop false (cpxDoorOpened u)).mest = s.mest ∧ (hstgStop false (cpxDoorOpened u)).link = s.link ∧
    (hstgStop false (cpxDoorOpened u)).paths.trip = u.paths.trip ∧
    (hstgStop false (cpxDoorOpened u)).hstg.heatEnable = s.hstg.heatEnable := by
  obtain ⟨cpx, drum, mest, link, -⟩ := blowerRequest_off_updAtu_frame f s
  obtain ⟨-, enable⟩ := blowerRequest_off_keeps (s.updAtu f)
  rw [← blown] at cpx drum mest link enable
  rw [cpxDoorOpened_rest (by rwa [cpx]) (by rwa [cpx])]
  exact ⟨by simp [cpx], by simp [drum], by simp [mest], by simp [link], by simp, (hstgStop_settings false u).1.trans enable⟩

/-- The opening pauses a STARVED cycle, and a RUNNING one whose stage is not GUARD. -/
theorem opened_paused (h : cpxDoorOpened u = enterPaused .door u) :
    (hstgStop false (cpxDoorOpened u)).cpx = { s.cpx with cycle := .paused, pauseCause := some .door, starve := none } ∧
    (hstgStop false (cpxDoorOpened u)).drum = (drumStop s).drum ∧
    (hstgStop false (cpxDoorOpened u)).paths.drumToSaa = (drumStop s).paths.drumToSaa ∧
    (hstgStop false (cpxDoorOpened u)).paths.trip = (drumStop u).paths.trip ∧
    (hstgStop false (cpxDoorOpened u)).hstg.heatEnable = false ∧ (hstgStop false (cpxDoorOpened u)).mest = s.mest ∧
    (hstgStop false (cpxDoorOpened u)).link =
      (report .cpx .info 0x50 [BitVec.ofNat 8 s.cpx.cycle.code, 5, 2] (lockLostLeaving s.drum s)).link := by
  obtain ⟨cpx, drum, mest, link, prof, -⟩ := blowerRequest_off_updAtu_frame f s
  obtain ⟨sent, -⟩ := blowerRequest_off_keeps (s.updAtu f)
  rw [← blown] at cpx drum mest link prof sent
  obtain ⟨sends, ends⟩ := enterPaused_door_paths u
  have profile : u.profile = s.profile := by rw [State.profile_eq, prof]; rfl
  have report : (hstgStop false (enterPaused .door u)).link = (enterPaused .door u).link := by simp
  rw [h]
  refine ⟨?_, ?_, ?_, ?_, (enterPaused_heatOff .door u).stop.enable, by simp [mest], ?_⟩
  · simp [enterPaused_cpx, cpx]
  · simp [enterPaused_drum, drumStop_drum, drum, profile]
  · rw [hstgStop_drumToSaa, sends, sent, drum, drumStop_eq]
    rfl
  · rw [hstgStop_trip, ends, drumStop_eq]
  · rw [report, enterPaused_link, cpx, drum]
    have lost := lockLostLeaving_link_congr (d := s.drum) (s := s) (t := u) link (by rw [cpx])
    have kept (v : State) : (lockLostLeaving s.drum v).cpx = v.cpx := by rw [lockLostLeaving_eq]
    exact report_link_congr lost (by rw [kept, kept, cpx])

end

/-! ### The thermostat settles (R86, R88) -/

section
variable (timer : s.atu.highLimit.timer ≠ none)
include timer

theorem highLimitDebounced_quiet
    (h : s.atu.highLimit.settled = some s.atu.highLimit.raw ∨ s.atu.highLimit.settled = none ∧ s.atu.highLimit.raw = .closed) :
    highLimitDebounced s = s.updAtu highLimitSettled := by
  unfold highLimitDebounced
  dsimp only
  rw [isNone_false timer]
  obtain same | ⟨was, now⟩ := h
  · rw [same]
    cases s.atu.highLimit.raw <;> rfl
  · rw [was, now]
    rfl

theorem highLimitDebounced_first (was : s.atu.highLimit.settled = none) (now : s.atu.highLimit.raw = .opened) :
    highLimitDebounced s = handCondition .highLimit (s.updAtu highLimitSettled) := by
  unfold highLimitDebounced
  dsimp only
  rw [isNone_false timer, was, now]
  rfl

theorem highLimitDebounced_opens (was : s.atu.highLimit.settled = some .closed) (now : s.atu.highLimit.raw = .opened) :
    highLimitDebounced s = hstgStop false (handCondition .highLimit (s.updAtu highLimitSettled)) := by
  unfold highLimitDebounced
  dsimp only
  rw [isNone_false timer, was, now]
  rfl

theorem highLimitDebounced_closes (was : s.atu.highLimit.settled = some .opened) (now : s.atu.highLimit.raw = .closed) :
    highLimitDebounced s = heldBackRequested (handConditionEnd .highLimit (s.updAtu highLimitSettled)) := by
  rw [← rerequest_eq]
  unfold highLimitDebounced
  dsimp only
  rw [isNone_false timer, was, now]
  rfl

end

theorem heldBackRequested_trip (s : State) : (heldBackRequested s).paths.trip = s.paths.trip := by simp

/-- Settles O51: the raw level, the settling without an event, the closing and the opening, then the same for the thermostat. -/
theorem inputsAreDebouncedThenActedOn : Obligations.InputsAreDebouncedThenActedOn := by
  intro level s
  refine ⟨exec_levelChange_door level s, exec_levelChange_highLimit level s, fun timer => ⟨fun quiet => ?same, fun was now => ?closes,
    fun was now => ?opens⟩, fun timer v settled => ?thermostat⟩
  case same => exact congrArg _ (doorDebounced_quiet timer quiet)
  case closes =>
    rw [exec_debounce_door, doorDebounced_closes timer was now, rerequest_eq]
    have atu : (s.updAtu doorSettled).atu = { s.atu with door := { s.atu.door with timer := none, settled := some .closed } } := by
      rw [State.updAtu_atu, doorSettled, now]
    refine ⟨_, rfl, ?_⟩
    generalize settled : s.updAtu doorSettled = v at atu
    rw [← atu]
    subst settled
    refine ⟨by simp, by simp, by simp, by simp, by simp, by simp, by simp, ?_⟩
    simp [State.updAtu]
  case opens =>
    have settled : s.updAtu doorSettled =
        s.updAtu fun a => { a with door := { a.door with timer := none, settled := some .opened } } := by
      rw [State.updAtu, State.updAtu, doorSettled, now]
    rw [exec_debounce_door, doorDebounced_opens timer was now, settled]
    generalize blown : blowerRequest .off (s.updAtu fun a => { a with door := { a.door with timer := none, settled := some .opened } }) = u
    have door : u.atu.door = { s.atu.door with timer := none, settled := some .opened } := by
      rw [← blown, blowerRequest_door]
      rfl
    have off : u.atu.blower = .off := by
      rw [← blown, blowerRequest_off_atu]
      split
      · assumption
      · rfl
    have proven (ran : s.atu.blower ≠ .off) : u.atu.airflowProven = false := by
      rw [← blown]
      exact blowerRequest_off_proven ran
    have atu : (hstgStop false (cpxDoorOpened u)).atu = u.atu := by
      obtain ⟨_, _, atu, _⟩ := hstgStop_frame false (cpxDoorOpened u)
      exact atu.trans ((cpxDoorOpened_follows u).rest (by simp [door]) off)
    have cycle := cpxDoorOpened_cycle (s := u) (by rw [door]; rfl)
    have cpx : (hstgStop false (cpxDoorOpened u)).cpx = (cpxDoorOpened u).cpx := by simp
    obtain ⟨_, demand⟩ := hstgStop_settings false (cpxDoorOpened u)
    refine ⟨_, rfl, by rw [atu, off], fun ran => by rw [atu]; exact proven ran, by rw [atu, door], hstgStop_not_counted false _, demand,
      by rw [cpx]; exact cycle.1, by rw [cpx]; exact cycle.2, ?_⟩
    rintro w rfl
    obtain ⟨cpx, -, -, -, prof, trip, saa, efe⟩ :=
      blowerRequest_off_updAtu_frame (fun a => { a with door := { a.door with timer := none, settled := some .opened } }) s
    rw [blown] at cpx prof trip saa efe
    refine ⟨atu, by simp [trip], by simp [saa], by simp [efe], by simp [prof], fun r rest work => opened_paused blown.symm ?pauses,
      fun r rest running active held guard => ?retires, fun running starved => opened_rest blown.symm running starved⟩
    case pauses =>
      obtain starved | ⟨running, active, held, other⟩ := work
      · exact cpxDoorOpened_starved (by rwa [cpx])
      · rw [cpxDoorOpened_stage (by rwa [cpx]) (by rwa [cpx]) (by rwa [cpx]), if_neg other]
    case retires =>
      rw [cpxDoorOpened_stage (by rwa [cpx]) (by rwa [cpx]) (by rwa [cpx]), if_pos guard]
  case thermostat =>
    subst settled
    rw [exec_debounce_highLimit]
    refine ⟨fun quiet => congrArg _ (highLimitDebounced_quiet timer quiet), fun was now => congrArg _ (highLimitDebounced_first timer was now),
      fun was now => congrArg _ (highLimitDebounced_opens timer was now), fun was now => ⟨_, rfl, ?_⟩⟩
    rw [highLimitDebounced_closes timer was now]
    have trip := (heldBackRequested_trip (handConditionEnd .highLimit (s.updAtu highLimitSettled)))
    exact ⟨by simp; rfl, by simp, trip, rfl⟩

end Sys2Proof.Machine
end

section
/-! SUPPORT. A condition's occurrence and the effects of its class on every block: O59. -/

namespace Sys2Proof.Machine

variable {s t : State}

/-! ### The occurrence (R166) -/

/-- A new occurrence: the entry, the event flag and TRIP_ACTIVE. -/
def occurrence (c : TripCause) (s : State) : State :=
  { s with
    trip := s.trip.set c (occurred s.cpx.cycleElapsed s.cpx.ordinal (s.trip.get c))
    link := (raiseFlag .tripRaised (report .trip .error 0x60
      [BitVec.ofNat 8 (causeCode c), BitVec.ofNat 8 (tripClass c).code, BitVec.ofNat 8 (bump 255 (s.trip.get c).count),
        BitVec.ofNat 8 s.cpx.cycle.code] s)).link }

theorem takeCondition_active {c : TripCause} (active : (s.trip.get c).state = .active) : takeCondition c s = s := if_pos active

theorem takeCondition_occurs {c : TripCause} (h : (s.trip.get c).state ≠ .active) :
    takeCondition c s = classEffects c (occurrence c s) := by
  unfold takeCondition
  rw [if_neg h]
  dsimp only
  refine congrArg _ ?_
  generalize entered : s.updTrip (fun t => t.set c (occurred s.cpx.cycleElapsed s.cpx.ordinal (t.get c))) = w
  have trip : w.trip = s.trip.set c (occurred s.cpx.cycleElapsed s.cpx.ordinal (s.trip.get c)) := by rw [← entered]; rfl
  have cpx : w.cpx = s.cpx := by rw [← entered]; rfl
  have link : w.link = s.link := by rw [← entered]; rfl
  have count : (w.trip.get c).count = bump 255 (s.trip.get c).count := by rw [trip, TripTable.get_set_same]; rfl
  have given : (report .trip .error 0x60 (u8 (causeCode c) ++ u8 (tripClass c).code ++ u8 (w.trip.get c).count ++ u8 w.cpx.cycle.code) w).link =
      (report .trip .error 0x60 [BitVec.ofNat 8 (causeCode c), BitVec.ofNat 8 (tripClass c).code,
        BitVec.ofNat 8 (bump 255 (s.trip.get c).count), BitVec.ofNat 8 s.cpx.cycle.code] s).link := by
    rw [count, cpx]
    exact report_link_congr link (by rw [cpx])
  have reported (x : State) (data : List Byte) : raiseFlag .tripRaised (report .trip .error 0x60 data x) =
      { x with link := (raiseFlag .tripRaised (report .trip .error 0x60 data x)).link } := by
    rw [raiseFlag_eq, report_eq]
  rw [reported, raiseFlag_link_congr given, ← entered]
  rfl

/-! ### What a class effect leaves of the event flag -/

theorem lockLostLeaving_tripRaised {d : Drum} (h : s.link.flags.tripRaised = true) : (lockLostLeaving d s).link.flags.tripRaised = true := by
  unfold lockLostLeaving
  split
  · rw [← report_flags .drum .info 0x22 (u16 d.revNumber)] at h
    exact h
  · exact h

/-! ### The blower by its request (R82) -/

theorem blowerRequest_off_blower (s : State) : (blowerRequest .off s).atu.blower = .off := by
  rw [blowerRequest_off_atu]
  split
  · assumption
  · rfl

theorem blowerRequest_runOn_blower (s : State) :
    (blowerRequest .runOn s).atu.blower =
      if s.atu.blower = .off then .off else if s.atu.door.settled = some .closed then .runOn else .off := by
  by_cases off : s.atu.blower = .off
  · rw [if_pos off, blowerRequest_off_off off .runOn (.inl (by decide)), off]
  · rw [if_neg off]
    split
    · next closed =>
      by_cases on : s.atu.blower = .on
      · rw [blowerRequest_runOn_closed_on closed on, enterRunOn_atu]
      · rw [blowerRequest_runOn_closed_rest closed on]
        cases blower : s.atu.blower <;> simp_all
    · next opened =>
      cases blower : s.atu.blower with
      | off => exact absurd blower off
      | on => simp [blowerRequest, blower, isClosed_false opened, enterOff_atu, blowerAtRest]
      | runOn =>
        rw [blowerRequest_open_runOn opened blower, enterOff_atu]
        rfl

/-! ### The class effects, block by block (R168, R170) -/

section
variable (severe : Bool) (work : s.cpx.cycle.working = true)
include work

theorem stopEffects_eq :
    stopEffects severe s = blowerRequest (if severe then .off else .runOn) (drumStop (hstgStop true (cpxFault s))) := by
  unfold stopEffects
  split
  · rfl
  · rfl
  · rfl
  all_goals next h => rw [h] at work; cases work

theorem cpxFault_link : (cpxFault s).link = (report .cpx .info 0x50 [BitVec.ofNat 8 s.cpx.cycle.code, 6, 0] s).link := by
  have entered : cpxFault s = enterCycle .faulted (s.updCpx fun c => { c with starve := none, pauseCause := none }) := by
    unfold cpxFault
    split
    · rfl
    · rfl
    · rfl
    all_goals next h => rw [h] at work; cases work
  rw [entered, enterCycle_link]
  exact report_link_congr rfl rfl

theorem stopEffects_drum : (stopEffects severe s).drum = drumStopped s.profile s.drum := by
  rw [stopEffects_eq severe work]
  simp [drumStop_drum, State.profile_eq]

theorem stopEffects_heatOff : HeatOff (stopEffects severe s) := by
  rw [stopEffects_eq severe work]
  have stopped (u : State) : HeatOff (drumStop (hstgStop true u)) := (hstgStop_heatOff u).of_hstg (by simp)
  exact (stopped _).blower _

theorem stopEffects_atu : (stopEffects severe s).atu = (blowerRequest (if severe then .off else .runOn) s).atu := by
  rw [stopEffects_eq severe work]
  exact blowerRequest_atu_congr _ (by simp) (by simp [State.profile_eq])

theorem stopEffects_link :
    (stopEffects severe s).link =
      (lockLostLeaving s.drum (report .cpx .info 0x50 [BitVec.ofNat 8 s.cpx.cycle.code, 6, 0] s)).link := by
  have blown (q : BlowerRequest) (u : State) : (blowerRequest q u).link = u.link := by simp
  have drum : (hstgStop true (cpxFault s)).drum = s.drum := by simp
  have link : (hstgStop true (cpxFault s)).link = (cpxFault s).link := by simp
  have cpx : (hstgStop true (cpxFault s)).cpx = (cpxFault s).cpx := by simp
  rw [stopEffects_eq severe work, blown, drumStop_link, drum]
  refine lockLostLeaving_link_congr (link.trans (cpxFault_link work)) ?_
  rw [cpx, cpxFault_working work, report_eq]

end

theorem cpxSilence_work (h : s.cpx.cycle = .running ∨ s.cpx.cycle = .starved) : cpxSilence s = enterPaused .silent s := by
  obtain running | starved := h
  · simp [cpxSilence, running]
  · simp [cpxSilence, starved]

theorem cpxSilence_rest (running : s.cpx.cycle ≠ .running) (starved : s.cpx.cycle ≠ .starved) : cpxSilence s = s := by
  cases cycle : s.cpx.cycle <;> simp_all [cpxSilence]

theorem classEffects_stop {c : TripCause} (h : tripClass c ≠ .pause) (s : State) :
    classEffects c s = stopEffects (decide (tripClass c = .severe)) s := by
  unfold classEffects
  cases cls : tripClass c with
  | halt => rfl
  | severe => rfl
  | pause => exact absurd cls h

theorem classEffects_pause {c : TripCause} (h : tripClass c = .pause) (s : State) : classEffects c s = cpxSilence s := by
  unfold classEffects
  rw [h]


/-! ### The effects of an occurrence, on a state that agrees with the one the condition found -/

section
variable {c : TripCause} {v w : State} (cpx : w.cpx = s.cpx) (drum : w.drum = s.drum) (profile : w.profile = s.profile)
  (link : w.link = v.link) (elapsed : v.cpx = s.cpx)

section
include cpx drum link elapsed

/-- The report of the class effect, then LOCK_LOST. -/
theorem reportThenLockLost_link (code : Byte) (data : List Byte) :
    (lockLostLeaving w.drum (report .cpx .info code data w)).link = (lockLostLeaving s.drum (report .cpx .info code data v)).link := by
  rw [drum]
  refine lockLostLeaving_link_congr (report_link_congr link (by rw [cpx, elapsed])) ?_
  rw [report_eq, report_eq .cpx .info code data v]
  exact congrArg _ (cpx.trans elapsed.symm)

/-- LOCK_LOST, then the report of the pause. -/
theorem lockLostThenReport_link (code : Byte) (data : List Byte) :
    (report .cpx .info code data (lockLostLeaving w.drum w)).link = (report .cpx .info code data (lockLostLeaving s.drum v)).link := by
  rw [drum]
  refine report_link_congr (lockLostLeaving_link_congr link (by rw [cpx, elapsed])) ?_
  rw [lockLostLeaving_eq, lockLostLeaving_eq s.drum v]
  exact congrArg _ (cpx.trans elapsed.symm)

/-- The reports of the class effects follow TRIP_ACTIVE. -/
theorem classEffects_link :
    (tripClass c ≠ .pause → CycleState.working s.cpx.cycle = true →
      (classEffects c w).link = (lockLostLeaving s.drum (report .cpx .info 0x50 [BitVec.ofNat 8 s.cpx.cycle.code, 6, 0] v)).link) ∧
    (tripClass c = .pause → s.cpx.cycle = .running ∨ s.cpx.cycle = .starved →
      (classEffects c w).link = (report .cpx .info 0x50 [BitVec.ofNat 8 s.cpx.cycle.code, 5, 3] (lockLostLeaving s.drum v)).link) ∧
    (tripClass c ≠ .pause → CycleState.working s.cpx.cycle = false → (classEffects c w).link = v.link) ∧
    (tripClass c = .pause → s.cpx.cycle ≠ .running → s.cpx.cycle ≠ .starved → (classEffects c w).link = v.link) := by
  refine ⟨fun stops work => ?_, fun pauses work => ?_, fun stops rest => ?_, fun pauses running starved => ?_⟩
  · rw [classEffects_stop stops, stopEffects_link _ (by rwa [cpx]), reportThenLockLost_link cpx drum link elapsed, cpx]
  · rw [classEffects_pause pauses, cpxSilence_work (by rwa [cpx]), enterPaused_link, lockLostThenReport_link cpx drum link elapsed, cpx]
    rfl
  · have blown (q : BlowerRequest) : (blowerRequest q w).link = v.link := by simp [link]
    rw [classEffects_stop stops, stopEffects_not_working _ (by rwa [cpx])]
    split
    · exact blown .off
    · exact link
  · rw [classEffects_pause pauses, cpxSilence_rest (by rwa [cpx]) (by rwa [cpx]), link]

end

theorem classEffects_working (cpx : w.cpx = s.cpx) (drum : w.drum = s.drum) (profile : w.profile = s.profile) (atu : w.atu = s.atu)
    (stops : tripClass c ≠ .pause) (work : CycleState.working s.cpx.cycle = true) :
    (classEffects c w).cpx = { s.cpx with cycle := .faulted, starve := none, pauseCause := none } ∧ HeatOff (classEffects c w) ∧
    (classEffects c w).drum = (drumStop s).drum ∧
    (classEffects c w).atu.blower = (if tripClass c = .severe then .off
      else if s.atu.blower = .off then .off
      else if s.atu.door.settled = some .closed then .runOn else .off) := by
  rw [classEffects_stop stops]
  rw [← cpx] at work
  obtain ⟨faulted, -⟩ := stopEffects_working (decide (tripClass c = .severe)) work
  refine ⟨by rw [faulted, cpx], stopEffects_heatOff _ work, by rw [stopEffects_drum _ work, drumStop_drum, profile, drum], ?_⟩
  rw [stopEffects_atu _ work]
  by_cases severe : tripClass c = .severe
  · rw [if_pos severe, if_pos (decide_eq_true severe), blowerRequest_off_blower]
  · rw [if_neg severe, if_neg (by simpa using severe), blowerRequest_runOn_blower, atu]

theorem classEffects_resting (cpx : w.cpx = s.cpx) (drum : w.drum = s.drum) (atu : w.atu = s.atu)
    (stops : tripClass c ≠ .pause) (rest : CycleState.working s.cpx.cycle = false) :
    (classEffects c w).cpx = s.cpx ∧ (classEffects c w).drum = s.drum ∧
    (classEffects c w).atu.blower = if tripClass c = .severe then .off else s.atu.blower := by
  rw [classEffects_stop stops, stopEffects_not_working _ (by rwa [cpx])]
  by_cases severe : tripClass c = .severe
  · rw [if_pos severe, if_pos (decide_eq_true severe), blowerRequest_off_blower]
    exact ⟨by simp [cpx], by simp [drum], rfl⟩
  · rw [if_neg severe, if_neg (by simpa using severe)]
    exact ⟨cpx, drum, by rw [atu]⟩

end

/-- Whatever the class does, the event flag raised stands. -/
theorem classEffects_tripRaised {c : TripCause} (h : s.link.flags.tripRaised = true) : (classEffects c s).link.flags.tripRaised = true := by
  obtain ⟨stopsWork, pausesWork, stopsRest, pausesRest⟩ := classEffects_link (c := c) (s := s) (v := s) (w := s) rfl rfl rfl rfl
  have reported (data : List Byte) : (report .cpx .info 0x50 data s).link.flags.tripRaised = true := by rw [report_flags, h]
  by_cases pauses : tripClass c = .pause
  · by_cases work : s.cpx.cycle = .running ∨ s.cpx.cycle = .starved
    · rw [pausesWork pauses work, report_flags]
      exact lockLostLeaving_tripRaised h
    · rw [not_or] at work
      rw [pausesRest pauses work.1 work.2, h]
  · cases work : CycleState.working s.cpx.cycle with
    | true =>
      rw [stopsWork pauses work]
      exact lockLostLeaving_tripRaised (reported _)
    | false => rw [stopsRest pauses work, h]

theorem occurred_eq (time ordinal : Nat) (e : TripEntry) :
    occurred time ordinal e =
      { state := .active, count := bump 255 e.count, firstTime := some (e.firstTime.getD time)
        firstOrdinal := if e.firstTime = none then ordinal else e.firstOrdinal } := by
  unfold occurred
  cases e.firstTime <;> rfl

/-- Settles O59: the occurrence, then the class effects by the cycle state, block by block; and the end. -/
theorem tripConditionsActByTheirClass : Obligations.TripConditionsActByTheirClass := by
  refine ⟨fun c s u first taken => ⟨fun active => ?_, fun notActive => ?_⟩, fun c s u first taken => ⟨fun notActive => ?_, fun active => ?_⟩⟩
  · have runs : exec (.tripCondition c) s = .next (takeCondition c u) := by rw [taken]; exact congrArg _ (takeTripMsg_due first)
    rw [runs, takeCondition_active (by rw [taken]; exact active)]
  · have runs : exec (.tripCondition c) s = .next (takeCondition c u) := by rw [taken]; exact congrArg _ (takeTripMsg_due first)
    rw [runs, takeCondition_occurs (by rw [taken]; exact notActive)]
    have cpx : (occurrence c u).cpx = s.cpx := by rw [taken]; rfl
    have drum : (occurrence c u).drum = s.drum := by rw [taken]; rfl
    have atu : (occurrence c u).atu = s.atu := by rw [taken]; rfl
    have hstg : (occurrence c u).hstg = s.hstg := by rw [taken]; rfl
    have profile : (occurrence c u).profile = s.profile := by rw [taken]; rfl
    have trip : (occurrence c u).trip = s.trip.set c (occurred s.cpx.cycleElapsed s.cpx.ordinal (s.trip.get c)) := by rw [taken]; rfl
    have blocks : (occurrence c u).saa = s.saa ∧ (occurrence c u).efe = s.efe ∧ (occurrence c u).prof = s.prof ∧
        (occurrence c u).mest = s.mest := by rw [taken]; exact ⟨rfl, rfl, rfl, rfl⟩
    have raised : (occurrence c u).link.flags.tripRaised = true := rfl
    have link : (occurrence c u).link = (raiseFlag .tripRaised (report .trip .error 0x60
        [BitVec.ofNat 8 (causeCode c), BitVec.ofNat 8 (tripClass c).code, BitVec.ofNat 8 (bump 255 (s.trip.get c).count),
          BitVec.ofNat 8 s.cpx.cycle.code] s)).link := by
      rw [taken]
      exact raiseFlag_link_congr (report_link_congr rfl rfl)
    generalize occurrence c u = w at *
    obtain ⟨saa, efe, prof, mest⟩ := blocks
    have keeps : (classEffects c w).trip = w.trip := by simp
    refine ⟨_, rfl, by rw [keeps, trip, occurred_eq], classEffects_tripRaised raised, by simp [saa], by simp [efe], by simp [prof],
      by simp [mest], fun v same => ?reports, fun stops work => ?works, classEffects_resting cpx drum atu, fun pauses => ⟨fun work => ?_, fun running starved => ?_⟩⟩
    case reports => exact classEffects_link cpx drum (by rw [link, same]) (by rw [same, raiseFlag_eq, report_eq])
    case works =>
      obtain ⟨faulted, off, stopped, blower⟩ := classEffects_working cpx drum profile atu stops work
      exact ⟨faulted, off.enable, off.demand, off.active, stopped, blower⟩
    · rw [classEffects_pause pauses, cpxSilence_work (by rwa [cpx])]
      have off := enterPaused_heatOff .silent w
      refine ⟨by rw [enterPaused_cpx, cpx], off.enable, off.active, by rw [enterPaused_drum, drumStop_drum, profile, drum]⟩
    · rw [classEffects_pause pauses, cpxSilence_rest (by rwa [cpx]) (by rwa [cpx])]
      exact ⟨cpx, hstg, drum, atu⟩
  · have runs : exec (.tripConditionEnd c) s = .next (takeConditionEnd c u) := by rw [taken]; exact congrArg _ (takeTripMsg_due first)
    rw [runs, takeConditionEnd, if_neg (by rw [taken]; exact notActive)]
  · have runs : exec (.tripConditionEnd c) s = .next (takeConditionEnd c u) := by rw [taken]; exact congrArg _ (takeTripMsg_due first)
    have same : u.trip = s.trip := by rw [taken]; rfl
    rw [runs, takeConditionEnd, if_pos (by rw [same]; exact active)]
    have held : (u.updTrip fun t => t.set c { t.get c with state := .held }) =
        u.updTrip fun t => t.set c { s.trip.get c with state := .held } := by
      rw [State.updTrip, State.updTrip, same]
    have count : ((u.updTrip fun t => t.set c { s.trip.get c with state := .held }).trip.get c).count = (s.trip.get c).count := by
      rw [State.updTrip_trip, TripTable.get_set_same]
    rw [held]
    dsimp only
    rw [count]
    rfl


end Sys2Proof.Machine
end

section
/-! SUPPORT. The 1 s count, the starve timer and the dry-reached signal: O56. -/

namespace Sys2Proof.Machine

variable {s t : State}

/-! ### The 1 s count (R128, R137, R141) -/

theorem exec_count (s : State) : exec .oneSecondCount s = .next (countSecond s) := rfl

theorem countSecond_rest (h : s.cpx.cycle ∉ [CycleState.running, .starved]) : countSecond s = s := by
  unfold countSecond
  split
  · next running => exact absurd (by simp [running]) h
  · next starved => exact absurd (by simp [starved]) h
  all_goals rfl

theorem countSecond_starved (starved : s.cpx.cycle = .starved) :
    countSecond s = s.updCpx fun c =>
      { c with cycleElapsed := bump 4294967295 c.cycleElapsed, starve := c.starve.map fun t => ⟨t.limit, bump t.limit t.count⟩ } := by
  unfold countSecond
  rw [starved]

theorem countSecond_running (running : s.cpx.cycle = .running) :
    countSecond s = judgeCount (s.updCpx fun c =>
      { c with cycleElapsed := bump 4294967295 c.cycleElapsed, stageElapsed := bump 65535 s.cpx.stageElapsed }) := by
  unfold countSecond
  rw [running]
  rfl

/-- Whether the current stage may retire as dried: a DRY stage with the dry latch set (R137). -/
def dried (r : StageRec) (c : Cpx) : Bool := decide (r.kind = .dry) && c.dryLatched

theorem dried_iff {r : StageRec} {c : Cpx} : dried r c = true ↔ r.kind = .dry ∧ c.dryLatched = true := by simp [dried]

section
variable {r : StageRec} {rest : List StageRec} (held : s.cpx.plan = r :: rest) (active : s.cpx.stageActive = true)
include held active

theorem judgeCount_stage :
    judgeCount s =
      if r.maxDuration ≤ s.cpx.stageElapsed then retire (if dried r s.cpx then .dry else .time) s
      else if dried r s.cpx ∧ r.minDuration ≤ s.cpx.stageElapsed then retire .dry s
      else if r.kind = .guard ∧ 0 < s.cpx.stageElapsed ∧ s.cpx.stageElapsed % r.guardInterval = 0 then burstRequest s
      else s := by
  unfold judgeCount
  rw [currentStage_of_head active held]
  rfl

theorem judgeCount_max (max : r.maxDuration ≤ s.cpx.stageElapsed) :
    judgeCount s = retire (if r.kind = .dry ∧ s.cpx.dryLatched = true then .dry else .time) s := by
  rw [judgeCount_stage held active, if_pos max]
  simp only [dried_iff]

section
variable (early : s.cpx.stageElapsed < r.maxDuration)
include early

theorem judgeCount_dried (dry : r.kind = .dry) (latched : s.cpx.dryLatched = true) (min : r.minDuration ≤ s.cpx.stageElapsed) :
    judgeCount s = retire .dry s := by
  rw [judgeCount_stage held active, if_neg (Nat.not_le.mpr early), if_pos ⟨dried_iff.mpr ⟨dry, latched⟩, min⟩]

theorem judgeCount_burst (guard : r.kind = .guard) (some : 0 < s.cpx.stageElapsed) (interval : s.cpx.stageElapsed % r.guardInterval = 0) :
    judgeCount s = burstRequest s := by
  have notDry : r.kind ≠ .dry := by rw [guard]; decide
  rw [judgeCount_stage held active, if_neg (Nat.not_le.mpr early), if_neg fun h => notDry (dried_iff.mp h.1).1, if_pos ⟨guard, some, interval⟩]

theorem judgeCount_stays (dry : r.kind = .dry → s.cpx.dryLatched = false ∨ s.cpx.stageElapsed < r.minDuration)
    (guard : r.kind = .guard → s.cpx.stageElapsed = 0 ∨ s.cpx.stageElapsed % r.guardInterval ≠ 0) : judgeCount s = s := by
  have notDried : ¬(dried r s.cpx = true ∧ r.minDuration ≤ s.cpx.stageElapsed) := by
    rw [dried_iff]
    rintro ⟨⟨kind, latched⟩, min⟩
    obtain unlatched | below := dry kind
    · rw [latched] at unlatched
      cases unlatched
    · exact absurd min (Nat.not_le.mpr below)
  have noBurst : ¬(r.kind = .guard ∧ 0 < s.cpx.stageElapsed ∧ s.cpx.stageElapsed % r.guardInterval = 0) := by
    rintro ⟨kind, some, interval⟩
    obtain zero | off := guard kind
    · exact absurd zero (Nat.ne_of_gt some)
    · exact off interval
  rw [judgeCount_stage held active, if_neg (Nat.not_le.mpr early), if_neg notDried, if_neg noBurst]

end

end

/-! ### The starve timer and the burst (R33, R144) -/

theorem starveExpires_due {tm : StarveTimer} (starved : s.cpx.cycle = .starved) (runs : s.cpx.starve = some tm) (due : tm.limit ≤ tm.count) :
    starveExpires s = enterDone .starved s := by
  unfold starveExpires
  rw [starved, runs]
  exact if_pos due

theorem burstRequest_runs (stopped : s.drum.state = .stopped) (none : s.drum.burst = false) (guard : s.drum.guardStage = true) :
    burstRequest s = runRequest (s.updDrum fun d => { d with burst := true, direction := .fwd, reversalRun := 0 }) := by
  simp [burstRequest, stopped, none, guard]

theorem burstRequest_skipped (h : s.drum.state ≠ .stopped ∨ s.drum.burst = true) : burstRequest s = s := by
  unfold burstRequest
  rw [if_neg]
  rintro ⟨stopped, none, -⟩
  obtain moves | bursts := h
  · exact moves stopped
  · exact none bursts

/-! ### The dry-reached signal (R138) -/

theorem dryReached_none {n : Nat} (h : currentStage s.cpx = none ∨ n ≠ s.cpx.ordinal) : dryReached n s = s := by
  unfold dryReached
  split
  · rfl
  · next current =>
    rw [if_neg]
    rintro ⟨-, same⟩
    obtain none | other := h
    · rw [none] at current
      cases current
    · exact other same

theorem dryReached_notDry {r : StageRec} {rest : List StageRec} (n : Nat) (held : s.cpx.plan = r :: rest) (notDry : r.kind ≠ .dry) :
    dryReached n s = s := by
  unfold dryReached
  split
  · rfl
  · next r' current =>
    obtain ⟨-, rest', held'⟩ := currentStage_head current
    obtain ⟨same, -⟩ := List.cons.inj (held.symm.trans held')
    rw [if_neg fun h => notDry (same ▸ h.1)]

section
variable {r : StageRec} {rest : List StageRec} (held : s.cpx.plan = r :: rest) (active : s.cpx.stageActive = true) (dry : r.kind = .dry)
include held active dry

theorem dryReached_retires (running : s.cpx.cycle = .running) (min : r.minDuration ≤ s.cpx.stageElapsed) :
    dryReached s.cpx.ordinal s = retire .dry s := by
  simp [dryReached, currentStage_of_head active held, dry, running, min]

theorem dryReached_latches
    (h : s.cpx.cycle = .running ∧ s.cpx.stageElapsed < r.minDuration ∨ s.cpx.cycle = .paused ∨ s.cpx.cycle = .faulted) :
    dryReached s.cpx.ordinal s = s.updCpx fun c => { c with dryLatched := true } := by
  obtain ⟨running, early⟩ | paused | faulted := h
  · simp [dryReached, currentStage_of_head active held, dry, running, Nat.not_le.mpr early]
  · simp [dryReached, currentStage_of_head active held, dry, paused]
  · simp [dryReached, currentStage_of_head active held, dry, faulted]

theorem dryReached_elsewhere (h : s.cpx.cycle ∉ [CycleState.running, .paused, .faulted]) : dryReached s.cpx.ordinal s = s := by
  cases cycle : s.cpx.cycle <;> simp_all [dryReached, currentStage_of_head active held]

end

/-- Settles O56: the count, the starve timer, the burst request and the signal, each by its case equations. -/
theorem countsAndSignalsJudgeTheStage : Obligations.CountsAndSignalsJudgeTheStage := by
  refine ⟨fun s => ⟨fun rest => ?_, fun starved => ?_, fun r rest v n running held active bumped counted => ?count, fun tm starved runs due => ?_⟩,
    fun s => ⟨burstRequest_runs, burstRequest_skipped⟩, fun n rest s u first taken => ?signal⟩
  · rw [exec_count, countSecond_rest rest]
  · rw [exec_count, countSecond_starved starved]
  case count =>
    rw [exec_count, countSecond_running running, ← bumped, ← counted]
    have vHeld : v.cpx.plan = r :: rest := by rw [counted]; exact held
    have vActive : v.cpx.stageActive = true := by rw [counted]; exact active
    have elapsed : v.cpx.stageElapsed = n := by rw [counted]; rfl
    have latch : v.cpx.dryLatched = s.cpx.dryLatched := by rw [counted]; rfl
    rw [← latch, ← elapsed]
    exact ⟨fun max => congrArg _ (judgeCount_max vHeld vActive max),
      fun early dry latched min => congrArg _ (judgeCount_dried vHeld vActive early dry latched min),
      fun early guard some interval => congrArg _ (judgeCount_burst vHeld vActive early guard some interval),
      fun early dry guard => congrArg _ (judgeCount_stays vHeld vActive early dry guard)⟩
  · have expires : exec .starveTimerExpiry s = .next (starveExpires s) := rfl
    rw [expires, starveExpires_due starved runs due]
    refine ⟨_, rfl, ?_⟩
    have off := enterDone_heatOff .starved s
    exact ⟨by rw [enterDone_cpx], by rw [enterDone_cpx], by rw [enterDone_cpx], off.demand, off.active⟩
  case signal =>
    have runs : exec (.dryReachedSignal n) s = .next (dryReached n u) := by rw [taken]; exact congrArg _ (takeDry_due first)
    have cpx : u.cpx = s.cpx := by rw [taken]; rfl
    rw [runs, ← cpx]
    refine ⟨fun r stages held active dry same => ?_, fun h => ?_, fun r stages held notDry => by rw [dryReached_notDry n held notDry]⟩
    · rw [same]
      exact ⟨fun running min => by rw [dryReached_retires held active dry running min], fun h => by rw [dryReached_latches held active dry h],
        fun h => by rw [dryReached_elsewhere held active dry h]⟩
    · rw [dryReached_none (h.imp_left fun inactive => by simp [currentStage, inactive])]

end Sys2Proof.Machine
end

section
/-! SUPPORT. HSTG's settings, heat-enable and demand, and what a report reads of the state: used for stage starts and retirements. -/

namespace Sys2Proof.Machine

variable {s t u : State}

/-! ### HSTG's settings, heat-enable and demand -/

/-- What CPX sets at HSTG: the stage's settings, heat-enable, and D. -/
structure HeatSet (s : State) (settings : Option HeatSettings) (enable : Bool) (demand : Nat) : Prop where
  settings : s.hstg.settings = settings
  enable : s.hstg.heatEnable = enable
  demand : s.hstg.demand = demand

section
variable {st : Option HeatSettings} {enable : Bool} {d : Nat}

theorem HeatSet.of_hstg (same : t.hstg = s.hstg) (h : HeatSet s st enable d) : HeatSet t st enable d := by
  obtain ⟨settings, on, demand⟩ := h
  exact ⟨by rw [same, settings], by rw [same, on], by rw [same, demand]⟩

theorem heatSet_foldl {α : Type} {f : State → α → State} (kept : ∀ a u, HeatSet u st enable d → HeatSet (f u a) st enable d) (l : List α)
    (h : HeatSet s st enable d) : HeatSet (l.foldl f s) st enable d := by
  induction l generalizing s with
  | nil => exact h
  | cons a l ih => exact ih (kept a s h)

theorem HeatSet.switchOff (cause : OffCause) (e : Element) (h : HeatSet s st enable d) : HeatSet (switchOff cause e s) st enable d :=
  ⟨h.settings, h.enable, h.demand⟩

theorem HeatSet.dropWaiting (e : Element) (h : HeatSet s st enable d) : HeatSet (dropWaiting e s) st enable d := by
  unfold Machine.dropWaiting
  split <;> exact ⟨h.settings, h.enable, h.demand⟩

theorem HeatSet.choose (e : Element) (h : HeatSet s st enable d) : HeatSet (choose e s) st enable d := by
  unfold Machine.choose
  dsimp only
  split <;> exact ⟨h.settings, h.enable, h.demand⟩

theorem HeatSet.applyDemand (h : HeatSet s st enable d) : HeatSet (applyDemand s) st enable d := by
  unfold Machine.applyDemand
  dsimp only
  split
  · exact heatSet_foldl (fun e _ => .switchOff .normal e) _ (heatSet_foldl (fun e _ => .dropWaiting e) _ h)
  · split
    · exact heatSet_foldl (fun e _ => .choose e) _ h
    · exact h

theorem HeatSet.stopElement (e : Element) (h : HeatSet s st enable d) : HeatSet (stopElement e s) st enable d := by
  unfold Machine.stopElement
  split
  · exact h.switchOff _ e
  · exact h.switchOff _ e
  · exact h.dropWaiting e
  all_goals exact h

theorem HeatSet.setHeatEnable (b : Bool) (h : HeatSet s st enable d) : HeatSet (setHeatEnable b s) st b d := by
  refine ⟨?_, setHeatEnable_heatEnable b s, (setHeatEnable_demand b s).trans h.demand⟩
  rw [setHeatEnable_hstg]
  split <;> exact h.settings

theorem HeatSet.hstgStop (h : HeatSet s st enable d) : HeatSet (hstgStop false s) st enable 0 :=
  heatSet_foldl (fun e _ => .stopElement e) _ (s := s.updHstg _) ⟨h.settings, h.enable, rfl⟩

theorem HeatSet.hstgStop_cycle (h : HeatSet s st enable d) : HeatSet (Machine.hstgStop true s) st false 0 := by
  have cleared := h.setHeatEnable false
  exact heatSet_foldl (fun e _ => .stopElement e) _ (s := (Machine.setHeatEnable false s).updHstg _) ⟨cleared.settings, cleared.enable, rfl⟩

/-- Heat-enable clear with D 0, applied. -/
theorem HeatSet.hstgStarved (h : HeatSet s st enable d) : HeatSet (hstgStarved s) st false 0 := by
  have cleared := h.setHeatEnable false
  exact HeatSet.applyDemand (s := (Machine.setHeatEnable false s).updHstg _) ⟨cleared.settings, cleared.enable, rfl⟩

/-- A blower request keeps the settings and heat-enable; one that stops heat puts D at 0. -/
theorem HeatSet.blowerRequest (q : BlowerRequest) (h : HeatSet s st enable d) :
    HeatSet (blowerRequest q s) st enable d ∨ HeatSet (Machine.blowerRequest q s) st enable 0 := by
  obtain same | ⟨u, same, stopped⟩ := blowerRequest_hstg q s
  · exact .inl (h.of_hstg same)
  · exact .inr ((h.of_hstg same).hstgStop.of_hstg stopped)

theorem HeatSet.blowerRequest_zero (q : BlowerRequest) (h : HeatSet s st enable 0) : HeatSet (Machine.blowerRequest q s) st enable 0 := by
  obtain kept | zero := h.blowerRequest q
  · exact kept
  · exact zero

end

/-! ### What a report reads: LINK and the cycle elapsed -/

/-- Two states alike to a report: LINK and the cycle elapsed. -/
structure SameLine (s t : State) : Prop where
  link : t.link = s.link
  elapsed : t.cpx.cycleElapsed = s.cpx.cycleElapsed

namespace SameLine

theorem symm (h : SameLine s t) : SameLine t s := ⟨h.link.symm, h.elapsed.symm⟩

theorem trans (h : SameLine s t) (h' : SameLine t u) : SameLine s u := ⟨h'.link.trans h.link, h'.elapsed.trans h.elapsed⟩

theorem report (src : Source) (sev : Severity) (code : Byte) (data : List Byte) (h : SameLine s t) :
    SameLine (report src sev code data s) (report src sev code data t) := by
  refine ⟨report_link_congr h.link h.elapsed, ?_⟩
  rw [report_eq, report_eq src sev code data s]
  exact h.elapsed

theorem raiseFlag (g : EventFlag) (h : SameLine s t) : SameLine (raiseFlag g s) (raiseFlag g t) := ⟨raiseFlag_link_congr h.link, h.elapsed⟩

theorem lockLostLeaving (d : Drum) (h : SameLine s t) : SameLine (lockLostLeaving d s) (lockLostLeaving d t) := by
  refine ⟨lockLostLeaving_link_congr h.link h.elapsed, ?_⟩
  rw [lockLostLeaving_eq, lockLostLeaving_eq d s]
  exact h.elapsed

/-- A stop request tells LINK what the drum's leaving RUN tells it. -/
theorem drumStop (h : SameLine s t) : SameLine (Machine.lockLostLeaving t.drum s) (drumStop t) := by
  refine ⟨(drumStop_link t).trans (lockLostLeaving_link_congr h.link h.elapsed), ?_⟩
  rw [lockLostLeaving_eq, drumStop_eq]
  exact h.elapsed

end SameLine

end Sys2Proof.Machine
end

section
/-! SUPPORT. A retirement and the entry to STARVED, block by block: O53. -/

namespace Sys2Proof.Machine

variable {s t u : State}

/-! ### The entry to STARVED (R144) -/

/-- What the entry to STARVED tells the host: its STATE_CHANGE, the warning and the event flag. -/
def starvedGiven (s : State) : State :=
  raiseFlag .starved (report .cpx .warning 0x53 (u16 s.cpx.ordinal ++ u8 s.cpx.lastExit.code ++ u8 s.profile.starveLimit)
    (report .cpx .info 0x50 [BitVec.ofNat 8 s.cpx.cycle.code, 4, 0] s))

theorem starvedGiven_eq (s : State) : starvedGiven s = { s with link := (starvedGiven s).link } := by
  rw [starvedGiven, raiseFlag_eq, report_eq .cpx .warning, report_eq .cpx .info]

theorem starvedGiven_flag (s : State) : (starvedGiven s).link.flags.starved = true := rfl

/-- STARVED as every block has it, before the door is tested. -/
def starvedEntered (s : State) : State :=
  let given := (enterCycle .starved s)
  let given := raiseFlag .starved (report .cpx .warning 0x53
    (u16 given.cpx.ordinal ++ u8 given.cpx.lastExit.code ++ u8 given.profile.starveLimit) given)
  let given := mestWithdraw (hstgStarved given)
  given.updCpx fun c => { c with starve := some ⟨given.profile.starveLimit, 0⟩ }

theorem enterStarved_eq (s : State) :
    enterStarved s = if s.atu.door.isClosed then starvedEntered s else enterPaused .door (starvedEntered s) := by
  have door : (starvedEntered s).atu = s.atu := by simp [starvedEntered]
  rw [← door]
  rfl

theorem starvedEntered_cpx (s : State) :
    (starvedEntered s).cpx = { s.cpx with cycle := .starved, starve := some ⟨s.profile.starveLimit, 0⟩ } := by
  simp [starvedEntered, enterCycle_cpx, State.profile_eq]

theorem starvedEntered_heatSet {st : Option HeatSettings} {enable : Bool} {d : Nat} (h : HeatSet s st enable d) :
    HeatSet (starvedEntered s) st false 0 := by
  have withdrawn (v : State) (f : Cpx → Cpx) (same : v.hstg = s.hstg) : HeatSet ((mestWithdraw (hstgStarved v)).updCpx f) st false 0 :=
    (h.of_hstg same).hstgStarved.of_hstg (by simp)
  unfold starvedEntered
  exact withdrawn _ _ (by simp)

theorem starvedEntered_mest (s : State) : (starvedEntered s).mest = { s.mest with stage := none, estimate := none } := by
  unfold starvedEntered
  rw [State.updCpx_mest, mestWithdraw_mest]
  simp

theorem starvedEntered_line (s : State) : SameLine (starvedGiven s) (starvedEntered s) := by
  have changed : SameLine (report .cpx .info 0x50 [BitVec.ofNat 8 s.cpx.cycle.code, 4, 0] s) (enterCycle .starved s) :=
    ⟨enterCycle_link .starved s, by rw [report_eq, enterCycle_cpx]⟩
  have warned := (changed.report .cpx .warning 0x53 (u16 s.cpx.ordinal ++ u8 s.cpx.lastExit.code ++ u8 s.profile.starveLimit)).raiseFlag .starved
  have profile : (enterCycle .starved s).profile = s.profile := by simp [State.profile_eq]
  refine warned.trans ?_
  unfold starvedEntered
  dsimp only
  rw [profile, enterCycle_cpx]
  exact ⟨by simp, by simp⟩

theorem starvedEntered_frame (s : State) :
    (starvedEntered s).drum = s.drum ∧ (starvedEntered s).atu = s.atu ∧ (starvedEntered s).profile = s.profile := by
  unfold starvedEntered
  exact ⟨by simp, by simp, by simp [State.profile_eq]⟩

/-! ### A retirement (R143) -/

/-- The DRY_TIMEOUT report of a DRY stage that retires by TIME. -/
def timeoutGiven (reason : ExitReason) (r : StageRec) (s : State) : State :=
  if r.kind = .dry ∧ reason = .time then
    report .cpx .info 0x52 (u16 s.cpx.ordinal ++ optField 2 u16 s.mest.f ++ u8 s.mest.b) s
  else s

theorem timeoutGiven_eq (reason : ExitReason) (r : StageRec) (s : State) :
    timeoutGiven reason r s = { s with link := (timeoutGiven reason r s).link } := by
  unfold timeoutGiven
  split
  · exact report_eq ..
  · rfl

/-- The state a retirement leaves to the entry that follows it: the report given and the head dropped. -/
def headRetired (reason : ExitReason) (r : StageRec) (rest : List StageRec) (s : State) : State :=
  dropHead reason rest (timeoutGiven reason r s)

theorem headRetired_eq (reason : ExitReason) (r : StageRec) (rest : List StageRec) (s : State) :
    headRetired reason r rest s =
      { s with
        link := (timeoutGiven reason r s).link
        cpx := { s.cpx with stageActive := false, lastExit := reason, plan := rest, digest := planDigest rest } } := by
  rw [headRetired, timeoutGiven_eq]
  rfl

section
variable {reason : ExitReason} {r : StageRec} {rest : List StageRec} (held : s.cpx.plan = r :: rest)
include held

theorem retire_eq :
    retire reason s =
      if r.final then enterDone .complete (headRetired reason r rest s)
      else if rest = [] then enterStarved (headRetired reason r rest s)
      else startHead (headRetired reason r rest s) := by
  unfold retire
  rw [held]
  dsimp only
  refine if_congr Iff.rfl rfl ?_
  cases rest <;> rfl

theorem retire_final (final : r.final = true) : retire reason s = enterDone .complete (headRetired reason r rest s) := by
  rw [retire_eq held, if_pos final]

theorem retire_last (more : r.final = false) (empty : rest = []) : retire reason s = enterStarved (headRetired reason r rest s) := by
  rw [retire_eq held, if_neg (by simp [more]), if_pos empty]

theorem retire_next (more : r.final = false) (some : rest ≠ []) : retire reason s = startHead (headRetired reason r rest s) := by
  rw [retire_eq held, if_neg (by simp [more]), if_neg some]

end

/-- Behind a CLOSED door the head starts and runs. -/
theorem startHead_closed {r : StageRec} {rest : List StageRec} (held : s.cpx.plan = r :: rest) (closed : s.atu.door.isClosed = true) :
    startHead s = stageStarted r s := by
  have door : (stageStarted r s).atu.door.isClosed = true := by rw [stageStarted_door, closed]
  unfold startHead
  rw [held]
  exact if_pos door

/-! ### The drum at rest or on its way to it -/

theorem drumStopped_state (p : Profile) (d : Drum) : (drumStopped p d).state = .stopped ∨ (drumStopped p d).state = .decelStop := by
  unfold drumStopped
  obtain ⟨state⟩ := d
  cases state
  case decelStop => exact .inr rfl
  case stopped => exact .inl rfl
  case surgeWait => exact .inl rfl
  case dwell => exact .inl rfl
  case accel => exact .inr rfl
  case run => exact .inr rfl
  case decelReverse => exact .inr rfl

theorem drumStopped_not_moving (p : Profile) (d : Drum) :
    (drumStopped p d).state ∉ [DrumState.surgeWait, .accel, .run, .decelReverse, .dwell] := by
  obtain stopped | slows := drumStopped_state p d
  · rw [stopped]
    decide
  · rw [slows]
    decide

/-! ### COOLED and ADVANCE (R140, R142) -/

theorem exec_advance {tag : Byte} {f : InFrame} {s : State} (due : requestDue 0x34 tag [] f s) :
    exec (.advance tag []) s = .next (answered 0x34 tag (ownAdvance (atOwner f s)).2.payload (ownAdvance (atOwner f s)).1) :=
  congrArg _ (serve_due due rfl)

theorem ownAdvance_running (running : s.cpx.cycle = .running) : ownAdvance s = (retire .advance s, .ok []) := by simp [ownAdvance, running]

theorem ownAdvance_refused (h : s.cpx.cycle ≠ .running) : ownAdvance s = (s, .badState) := by
  cases cycle : s.cpx.cycle <;> simp_all [ownAdvance]

section
variable {r : StageRec} {rest : List StageRec} (held : s.cpx.plan = r :: rest) (active : s.cpx.stageActive = true)
  (running : s.cpx.cycle = .running) {value : Int} {valid : Bool}
include held active running

theorem judgeCooled_stage :
    judgeCooled value valid s =
      if r.kind = .cool ∧ valid ∧ value ≤ r.coolTo ∧ r.minDuration ≤ s.cpx.stageElapsed then retire .cooled s else s := by
  unfold judgeCooled
  rw [running, currentStage_of_head active held]

theorem judgeCooled_retires (cool : r.kind = .cool) (ok : valid = true) (below : value ≤ r.coolTo) (min : r.minDuration ≤ s.cpx.stageElapsed) :
    judgeCooled value valid s = retire .cooled s := by
  rw [judgeCooled_stage held active running, if_pos ⟨cool, ok, below, min⟩]

theorem judgeCooled_stays (h : r.kind ≠ .cool ∨ valid = false ∨ r.coolTo < value ∨ s.cpx.stageElapsed < r.minDuration) :
    judgeCooled value valid s = s := by
  rw [judgeCooled_stage held active running, if_neg]
  rintro ⟨cool, ok, below, min⟩
  obtain other | invalid | above | early := h
  · exact other cool
  · rw [invalid] at ok
    cases ok
  · exact absurd below (not_le.mpr above)
  · exact absurd min (Nat.not_le.mpr early)

end

theorem judgeCooled_noStage (value : Int) (valid : Bool) (h : s.cpx.cycle ≠ .running ∨ s.cpx.stageActive = false) :
    judgeCooled value valid s = s := by
  obtain rest | inactive := h
  · exact judgeCooled_notRunning value valid rest
  · unfold judgeCooled
    split
    · next current =>
      obtain ⟨active, -⟩ := currentStage_head current
      rw [inactive] at active
      cases active
    · rfl

/-! ### What a retirement leaves (R143 to R145) -/

section
variable {reason : ExitReason} {r : StageRec} {rest : List StageRec} (held : s.cpx.plan = r :: rest)

theorem headRetired_cpx (reason : ExitReason) (r : StageRec) (rest : List StageRec) (s : State) :
    (headRetired reason r rest s).cpx =
      { s.cpx with stageActive := false, lastExit := reason, plan := rest, digest := planDigest rest } := by
  rw [headRetired_eq]

theorem headRetired_atu (reason : ExitReason) (r : StageRec) (rest : List StageRec) (s : State) :
    (headRetired reason r rest s).atu = s.atu := by
  rw [headRetired_eq]

theorem headRetired_drum (reason : ExitReason) (r : StageRec) (rest : List StageRec) (s : State) :
    (headRetired reason r rest s).drum = s.drum := by
  rw [headRetired_eq]

theorem headRetired_profile (reason : ExitReason) (r : StageRec) (rest : List StageRec) (s : State) :
    (headRetired reason r rest s).profile = s.profile := by
  rw [headRetired_eq]
  rfl

include held

/-- After a FINAL stage, behind a CLOSED door. -/
theorem retire_final_blocks (final : r.final = true) (closed : s.atu.door.settled = some .closed) :
    (retire reason s).cpx =
      { s.cpx with
        lastExit := reason, plan := rest, digest := planDigest rest, endReason := .complete, pauseCause := none, cycle := .done
        stageActive := false, starve := none } ∧
    HeatOff (retire reason s) ∧ (retire reason s).mest.stage = none ∧ (retire reason s).mest.estimate = none ∧
    (retire reason s).atu.blower ≠ .on ∧
    (retire reason s).drum.state ∉ [DrumState.surgeWait, .accel, .run, .decelReverse, .dwell] := by
  rw [retire_final held final]
  refine ⟨by rw [enterDone_cpx, headRetired_cpx], enterDone_heatOff _ _, by rw [enterDone_mest], by rw [enterDone_mest], ?_, ?_⟩
  · rw [enterDone_atu, blowerRequest_runOn_blower, headRetired_atu, if_pos closed]
    split <;> decide
  · rw [enterDone_drum]
    exact drumStopped_not_moving _ _

/-- With an empty buffer, behind a CLOSED door. -/
theorem retire_starved_blocks (more : r.final = false) (empty : rest = []) (closed : s.atu.door.isClosed = true) :
    (retire reason s).cpx =
      { s.cpx with
        stageActive := false, lastExit := reason, plan := rest, digest := planDigest rest, cycle := .starved
        starve := some ⟨s.profile.starveLimit, 0⟩ } ∧
    HeatSet (retire reason s) s.hstg.settings false 0 ∧ (retire reason s).mest.stage = none ∧ (retire reason s).mest.estimate = none ∧
    (retire reason s).drum = s.drum ∧ (retire reason s).atu = s.atu ∧
    (retire reason s).link = (starvedGiven (headRetired reason r rest s)).link := by
  have hstg : HeatSet (headRetired reason r rest s) s.hstg.settings s.hstg.heatEnable s.hstg.demand := by
    rw [headRetired_eq]
    exact ⟨rfl, rfl, rfl⟩
  obtain ⟨drum, atu, -⟩ := starvedEntered_frame (headRetired reason r rest s)
  have entered : retire reason s = starvedEntered (headRetired reason r rest s) := by
    rw [retire_last held more empty, enterStarved_eq, headRetired_atu, if_pos closed]
  rw [entered]
  refine ⟨by rw [starvedEntered_cpx, headRetired_cpx, headRetired_profile], starvedEntered_heatSet hstg, by rw [starvedEntered_mest],
    by rw [starvedEntered_mest], by rw [drum, headRetired_drum], by rw [atu, headRetired_atu], (starvedEntered_line _).link⟩

/-- With an empty buffer, behind a door that is not CLOSED. -/
theorem retire_doorPaused_blocks (more : r.final = false) (empty : rest = []) (opened : s.atu.door.isClosed = false) :
    (retire reason s).cpx =
      { s.cpx with
        stageActive := false, lastExit := reason, plan := rest, digest := planDigest rest, cycle := .paused, starve := none
        pauseCause := some .door } ∧
    (retire reason s).link =
      (report .cpx .info 0x50 [4, 5, 2] (lockLostLeaving s.drum (starvedGiven (headRetired reason r rest s)))).link ∧
    (retire reason s).drum = (drumStop s).drum ∧ (retire reason s).atu = s.atu ∧ HeatOff (retire reason s) ∧
    (retire reason s).mest.stage = none := by
  obtain ⟨drum, atu, profile⟩ := starvedEntered_frame (headRetired reason r rest s)
  have entered : retire reason s = enterPaused .door (starvedEntered (headRetired reason r rest s)) := by
    rw [retire_last held more empty, enterStarved_eq, headRetired_atu, if_neg (by simp [opened])]
  have mest : (enterPaused .door (starvedEntered (headRetired reason r rest s))).mest = (starvedEntered (headRetired reason r rest s)).mest := by
    simp
  rw [entered]
  refine ⟨by rw [enterPaused_cpx, starvedEntered_cpx, headRetired_cpx], ?_, ?_, by rw [enterPaused_atu_door, atu, headRetired_atu],
    enterPaused_heatOff _ _, by rw [mest, starvedEntered_mest]⟩
  · rw [enterPaused_link, starvedEntered_cpx, drum, headRetired_drum]
    exact (((starvedEntered_line _).lockLostLeaving s.drum).report .cpx .info 0x50 [4, 5, 2]).link
  · rw [enterPaused_drum, drum, headRetired_drum, profile, headRetired_profile, drumStop_drum]

/-- With more stages held, behind a CLOSED door. -/
theorem retire_next_cpx (more : r.final = false) (some : rest ≠ []) (closed : s.atu.door.isClosed = true) :
    (retire reason s).cpx =
      { s.cpx with
        stageActive := true, lastExit := reason, plan := rest, digest := planDigest rest, ordinal := bump 65535 s.cpx.ordinal
        stageElapsed := 0, dryLatched := false } := by
  obtain ⟨next, others, split⟩ := List.exists_cons_of_ne_nil some
  have nextHeld : (headRetired reason r rest s).cpx.plan = next :: others := by rw [headRetired_cpx, split]
  rw [retire_next held more some, startHead_closed nextHeld (by rw [headRetired_atu, closed]), stageStarted_cpx, headRetired_cpx]

end

/-! ### A COOL stage at an exhaust conversion (R140, R74) -/

theorem exhaustConverted_cooled (raw : Int) (off : s.hstg.heatEnable = false) :
    exec (.conversionComplete .exhaust raw) s =
      .next (judgeCooled (exhaustTaken raw s).atu.exhaust.value (tempInSpan raw) (exhaustTaken raw s)) := by
  have converted : exec (.conversionComplete .exhaust raw) s = .next (exhaustConverted raw s) := rfl
  have alike : (exhaustTaken raw s).hstg.heatEnable = false := off
  rw [converted, exhaustConverted_eq, hstgExhaust_off alike]

/-- Settles O53: ADVANCE, COOLED, and a retirement by what follows it. -/
theorem retirementLeadsToDoneStarvedOrNext : Obligations.RetirementLeadsToDoneStarvedOrNext := by
  refine ⟨fun tag f s due => ?advance, fun value valid r rest s held active running => ?judged, fun value valid s => judgeCooled_noStage value valid,
    fun raw r rest s held active running cool off => ?converted, fun reason r rest s t held closed retired => ?blocks,
    fun reason r rest s held v reported w dropped => ?reports⟩
  case advance =>
    rw [exec_advance due]
    exact ⟨fun running => by rw [ownAdvance_running running]; rfl, fun other => by rw [ownAdvance_refused other]; rfl⟩
  case judged => exact ⟨judgeCooled_retires held active running, judgeCooled_stays held active running⟩
  case converted =>
    rw [exhaustConverted_cooled raw off]
    have heldTaken : (exhaustTaken raw s).cpx.plan = r :: rest := held
    refine ⟨fun low high below min => ?_, fun h => ?_⟩
    · have value : (exhaustTaken raw s).atu.exhaust.value = raw := by rw [exhaustTaken_value, if_pos ⟨low, high⟩]
      have valid : tempInSpan raw = true := by rw [tempInSpan_eq, decide_eq_true ⟨low, high⟩]
      rw [judgeCooled_retires heldTaken active running cool valid (value.trans_le below) min]
    · refine congrArg _ (judgeCooled_stays heldTaken active running (.inr ?_))
      by_cases inside : -400 ≤ raw ∧ raw ≤ 3000
      · have value : (exhaustTaken raw s).atu.exhaust.value = raw := by rw [exhaustTaken_value, if_pos inside]
        rw [value]
        exact .inr (h.resolve_left (not_not_intro inside))
      · exact .inl (by rw [tempInSpan_eq, decide_eq_false inside])
  case blocks =>
    subst retired
    have door : s.atu.door.isClosed = true := isClosed_true closed
    cases final : r.final with
    | true =>
      obtain ⟨cpx, off, stage, estimate, blower, drum⟩ := retire_final_blocks (reason := reason) held final closed
      rw [cpx]
      exact ⟨rfl, rfl, rfl, rfl, fun _ => ⟨rfl, rfl, rfl, rfl, rfl, off.demand, off.enable, off.active, stage, estimate, blower, drum⟩,
        fun more => absurd more (by decide), fun more => absurd more (by decide)⟩
    | false =>
      by_cases empty : rest = []
      · obtain ⟨cpx, heat, stage, estimate, drum, atu, link⟩ := retire_starved_blocks (reason := reason) held final empty door
        rw [cpx, link]
        exact ⟨rfl, rfl, rfl, rfl, fun done => absurd done (by decide), fun _ _ => ⟨rfl, rfl, rfl, rfl, heat.demand, heat.enable, stage, estimate, drum, atu,
          starvedGiven_flag _⟩, fun _ some => absurd empty some⟩
      · have cpx := retire_next_cpx (reason := reason) held final empty door
        rw [cpx]
        exact ⟨rfl, rfl, rfl, rfl, fun done => absurd done (by decide), fun _ none => absurd none empty, fun _ _ => ⟨rfl, rfl, rfl, rfl, rfl⟩⟩
  case reports =>
    have timeout : v = timeoutGiven reason r s := by
      rw [reported]
      unfold timeoutGiven
      cases s.mest.f <;> rfl
    have retired : w = headRetired reason r rest s := by
      rw [dropped, timeout]
      rfl
    subst retired
    refine ⟨retire_final held, retire_next held, fun more empty x given => ?_⟩
    have starved : x = starvedGiven (headRetired reason r rest s) := by
      rw [given, starvedGiven, headRetired_cpx, headRetired_profile]
    subst starved
    refine ⟨fun closed => ?_, fun opened => ?_⟩
    · obtain ⟨-, -, -, -, -, -, link⟩ := retire_starved_blocks (reason := reason) held more empty (isClosed_true closed)
      exact link
    · obtain ⟨cpx, link, drum, atu, off, stage⟩ := retire_doorPaused_blocks (reason := reason) held more empty (isClosed_false opened)
      exact ⟨by rw [cpx, headRetired_cpx], link, drum, atu, off.active, stage⟩

end Sys2Proof.Machine
end

section
/-! SUPPORT. A stage start, block by block (R134, R135): O52. -/

namespace Sys2Proof.Machine

variable {s t u : State}

/-! ### The drum takes the stage (R23) -/

theorem drumStopped_installed (p : Profile) (r : StageRec) (d : Drum) :
    (drumStopped p (stageInstalled r d)).active = tableEntry d r.pattern ∧
    (drumStopped p (stageInstalled r d)).activeIdx = r.pattern ∧
    (drumStopped p (stageInstalled r d)).offset = (if r.pattern = d.activeIdx then d.offset else 0) ∧
    (drumStopped p (stageInstalled r d)).reversalRun = 0 ∧ (drumStopped p (stageInstalled r d)).tangleRun = 0 ∧
    (drumStopped p (stageInstalled r d)).iBase = none ∧ (drumStopped p (stageInstalled r d)).baseSum = 0 ∧
    (drumStopped p (stageInstalled r d)).baseCount = 0 ∧ (drumStopped p (stageInstalled r d)).stageTangles = 0 ∧
    (drumStopped p (stageInstalled r d)).guardStage = decide (r.kind = .guard) ∧
    (drumStopped p (stageInstalled r d)).burstRevs = r.burstRevs := by
  obtain ⟨state⟩ := d
  cases state <;> exact ⟨rfl, rfl, rfl, rfl, rfl, rfl, rfl, rfl, rfl, rfl, rfl⟩

theorem drumRan_installed (r : StageRec) (d : Drum) :
    (drumRan (stageInstalled r d)).active = tableEntry d r.pattern ∧
    (drumRan (stageInstalled r d)).activeIdx = r.pattern ∧
    (drumRan (stageInstalled r d)).offset = (if r.pattern = d.activeIdx then d.offset else 0) ∧
    (drumRan (stageInstalled r d)).reversalRun = 0 ∧ (drumRan (stageInstalled r d)).tangleRun = 0 ∧
    (drumRan (stageInstalled r d)).iBase = none ∧ (drumRan (stageInstalled r d)).baseSum = 0 ∧
    (drumRan (stageInstalled r d)).baseCount = 0 ∧ (drumRan (stageInstalled r d)).stageTangles = 0 ∧
    (drumRan (stageInstalled r d)).guardStage = decide (r.kind = .guard) ∧
    (drumRan (stageInstalled r d)).burstRevs = r.burstRevs ∧
    (drumRan (stageInstalled r d)).burst = (d.burst && decide (r.kind = .guard)) := by
  obtain ⟨state, _, _, _, _, _, confirmed⟩ := d
  cases state <;> cases confirmed <;> exact ⟨rfl, rfl, rfl, rfl, rfl, rfl, rfl, rfl, rfl, rfl, rfl, rfl⟩

theorem drumRan_surge {d : Drum} (stopped : d.state = .stopped) (confirmed : d.stopConfirmed = true) : (drumRan d).state = .surgeWait := by
  simp [drumRan, stopped, confirmed]

/-- A drum that a stage has set running leaves RUN as the drum before it would. -/
theorem lockLostLeaving_ran (r : StageRec) (d : Drum) (s : State) : lockLostLeaving (drumRan (stageInstalled r d)) s = lockLostLeaving d s := by
  obtain ⟨state, _, _, _, _, _, confirmed⟩ := d
  cases state <;> cases confirmed <;> rfl

theorem lockLostLeaving_installed (r : StageRec) (d : Drum) (s : State) : lockLostLeaving (stageInstalled r d) s = lockLostLeaving d s := rfl

/-! ### The other blocks take the stage (R60, R82, R94) -/

/-- The settings MEST takes, as O52 writes them. -/
theorem mestStage_eq (r : StageRec) (ordinal : Nat) :
    mestStage r ordinal = ⟨r.kind, ordinal, if r.kind = .dry then some ⟨r.dryTarget, r.confirm, r.dryMinExhaust⟩ else none⟩ := rfl

theorem stageStarted_mest (r : StageRec) (s : State) :
    (stageStarted r s).mest =
      { s.mest with
        stage := some (mestStage r (bump 65535 s.cpx.ordinal)), b := 0, drySignalled := false
        estimate := estimateFor { s.mest with stage := some (mestStage r (bump 65535 s.cpx.ordinal)), b := 0, drySignalled := false }
          (targetPeriod (tableEntry s.drum r.pattern)) } := by
  have started (st : MestStage) (u : State) (mest : u.mest = s.mest) (active : u.drum.active = tableEntry s.drum r.pattern) :
      (mestStageStart st u).mest =
        { s.mest with
          stage := some st, b := 0, drySignalled := false
          estimate := estimateFor { s.mest with stage := some st, b := 0, drySignalled := false } (targetPeriod (tableEntry s.drum r.pattern)) } := by
    rw [mestStageStart, reestimate, State.updMest_mest, State.updMest_mest, mest, State.updMest_drum, active]
  have reported (q : BlowerRequest) (data : List Byte) (v : State) :
      (raiseFlag .stageChanged (report .cpx .info 0x51 data (blowerRequest q v))).mest = v.mest := by simp
  unfold stageStarted
  dsimp only
  rw [reported]
  refine started _ _ ?_ ?_
  · split <;> simp
  · have stops (v : State) (drum : v.drum = stageInstalled r s.drum) : (drumStop v).drum.active = tableEntry s.drum r.pattern := by
      obtain ⟨active, -⟩ := drumStopped_installed v.profile r s.drum
      rw [drumStop_drum, drum, active]
    have runs (v : State) (drum : v.drum = stageInstalled r s.drum) : (runRequest v).drum.active = tableEntry s.drum r.pattern := by
      obtain ⟨active, -⟩ := drumRan_installed r s.drum
      rw [runRequest_drum, drum, active]
    split
    · exact stops _ (by simp [drumStageStart, stageInstalled])
    · exact runs _ (by simp [drumStageStart, stageInstalled])

theorem stageStarted_atu (r : StageRec) (s : State) :
    (stageStarted r s).atu = (blowerRequest (if r.kind = .guard then .off else .on) s).atu := by
  have reported (data : List Byte) (v : State) : (raiseFlag .stageChanged (report .cpx .info 0x51 data v)).atu = v.atu := by simp
  unfold stageStarted
  dsimp only
  rw [reported]
  refine blowerRequest_atu_congr _ ?_ ?_
  · split <;> simp
  · split <;> simp [State.profile_eq]

theorem stageStarted_link (r : StageRec) (s : State) :
    (stageStarted r s).link =
      (raiseFlag .stageChanged (report .cpx .info 0x51
        (u16 (bump 65535 s.cpx.ordinal) ++ u8 r.kind.code ++ u8 r.pattern ++ u8 s.cpx.plan.length ++ u8 s.cpx.lastExit.code)
        (if r.kind = .guard then lockLostLeaving s.drum s else s))).link := by
  have reported (v : State) (line : SameLine (if r.kind = .guard then lockLostLeaving s.drum s else s) v)
      (plan : v.cpx.plan = s.cpx.plan) (exit : v.cpx.lastExit = s.cpx.lastExit) :
      (raiseFlag .stageChanged (report .cpx .info 0x51
          (u16 (bump 65535 s.cpx.ordinal) ++ u8 r.kind.code ++ u8 r.pattern ++ u8 v.cpx.plan.length ++ u8 v.cpx.lastExit.code) v)).link =
        (raiseFlag .stageChanged (report .cpx .info 0x51
          (u16 (bump 65535 s.cpx.ordinal) ++ u8 r.kind.code ++ u8 r.pattern ++ u8 s.cpx.plan.length ++ u8 s.cpx.lastExit.code)
          (if r.kind = .guard then lockLostLeaving s.drum s else s))).link := by
    rw [plan, exit]
    exact ((line.report ..).raiseFlag .stageChanged).link
  have blown (q : BlowerRequest) (st : MestStage) (v : State) : SameLine v (blowerRequest q (mestStageStart st v)) := ⟨by simp, by simp⟩
  have stops (v : State) (line : SameLine s v) (drum : v.drum = stageInstalled r s.drum) : SameLine (lockLostLeaving s.drum s) (drumStop v) := by
    have stopped := line.drumStop
    rwa [drum, lockLostLeaving_installed] at stopped
  have runs (v : State) (line : SameLine s v) : SameLine s (runRequest v) := line.trans ⟨by simp, by simp⟩
  unfold stageStarted
  dsimp only
  refine reported _ (.trans ?_ (blown ..)) ?_ ?_
  · split
    · exact stops _ ⟨by simp, by simp⟩ (by simp [drumStageStart, stageInstalled])
    · exact runs _ ⟨by simp, by simp⟩
  · split <;> simp
  · split <;> simp

/-! ### HSTG takes the stage (R94) -/

/-- The settings HSTG takes of the head as its stage starts. -/
def installedSettings (r : StageRec) (s : State) : HeatSettings := heatSettings r (bump 65535 s.cpx.ordinal) (clampTarget s.profile r)

theorem hstgStageStart_heats {st : HeatSettings} (heats : st.kind.heats = true) (s : State) :
    HeatSet (hstgStageStart st s) (some st) true s.hstg.demand := by
  have set : HeatSet (s.updHstg fun h => { h with settings := some st }) (some st) s.hstg.heatEnable s.hstg.demand := ⟨rfl, rfl, rfl⟩
  unfold hstgStageStart
  dsimp only
  cases kind : st.kind
  case dry => exact set.setHeatEnable true
  case timed => exact set.setHeatEnable true
  all_goals
    rw [kind] at heats
    cases heats

theorem hstgStageStart_rests {st : HeatSettings} (rests : st.kind.heats = false) (s : State) :
    HeatSet (hstgStageStart st s) (some st) false 0 := by
  have set : HeatSet (s.updHstg fun h => { h with settings := some st }) (some st) s.hstg.heatEnable s.hstg.demand := ⟨rfl, rfl, rfl⟩
  unfold hstgStageStart
  dsimp only
  cases kind : st.kind
  case cool => exact set.hstgStarved
  case guard => exact set.hstgStarved
  all_goals
    rw [kind] at rests
    cases rests

theorem hstgStageStart_heatSet (st : HeatSettings) (s : State) :
    HeatSet (hstgStageStart st s) (some st) st.kind.heats (if st.kind.heats then s.hstg.demand else 0) := by
  cases heats : st.kind.heats with
  | true => exact hstgStageStart_heats heats s
  | false => exact hstgStageStart_rests heats s

/-- HSTG at a stage start: the stage's settings, then the blower's request. -/
theorem stageStarted_hstg (r : StageRec) (s : State) :
    ∃ u : State, HeatSet u (some (installedSettings r s)) r.kind.heats (if r.kind.heats then s.hstg.demand else 0) ∧ u.atu = s.atu ∧
      (stageStarted r s).hstg = (blowerRequest (if r.kind = .guard then .off else .on) u).hstg := by
  have reported (data : List Byte) (v : State) : (raiseFlag .stageChanged (report .cpx .info 0x51 data v)).hstg = v.hstg := by simp
  have set (v w : State) (hstg : w.hstg = s.hstg) (same : v.hstg = (hstgStageStart (installedSettings r s) w).hstg) :
      HeatSet v (some (installedSettings r s)) r.kind.heats (if r.kind.heats then s.hstg.demand else 0) := by
    rw [← hstg]
    exact (hstgStageStart_heatSet (installedSettings r s) w).of_hstg same
  unfold stageStarted
  dsimp only
  rw [reported]
  refine ⟨_, set _ (s.updCpx fun c => { c with stageActive := true, ordinal := bump 65535 c.ordinal, stageElapsed := 0, dryLatched := false })
    rfl ?_, ?_, rfl⟩
  · split <;> simp [installedSettings, State.profile_eq]
  · split <;> simp

/-- Behind a CLOSED door the stage's settings, heat-enable and demand stand. -/
theorem stageStarted_heatSet (r : StageRec) (closed : s.atu.door.settled = some .closed) :
    HeatSet (stageStarted r s) (some (installedSettings r s)) r.kind.heats (if r.kind.heats then s.hstg.demand else 0) := by
  obtain ⟨u, set, atu, hstg⟩ := stageStarted_hstg r s
  refine HeatSet.of_hstg hstg ?_
  by_cases guard : r.kind = .guard
  · rw [if_pos guard]
    rw [guard] at set ⊢
    exact set.blowerRequest_zero .off
  · rw [if_neg guard]
    refine set.of_hstg ?_
    rw [← atu] at closed
    by_cases on : u.atu.blower = .on
    · simp [blowerRequest, on]
    · rw [blowerRequest_on_closed closed on]
      rfl

/-- Whatever the door, the stage's settings are HSTG's. -/
theorem stageStarted_settings (r : StageRec) (s : State) : (stageStarted r s).hstg.settings = some (installedSettings r s) := by
  obtain ⟨u, set, -, hstg⟩ := stageStarted_hstg r s
  rw [hstg]
  obtain kept | zero := set.blowerRequest (if r.kind = .guard then .off else .on)
  · exact kept.settings
  · exact zero.settings

/-! ### A head that starts behind an open door (R135) -/

/-- The GUARD stage that exits DOOR, its stop and its drop. -/
def guardExited (r : StageRec) (rest : List StageRec) (s : State) : State := dropHead .door rest (drumStop (stageStarted r s))

theorem guardExited_cpx (r : StageRec) (rest : List StageRec) (s : State) :
    (guardExited r rest s).cpx =
      { s.cpx with
        stageActive := false, ordinal := bump 65535 s.cpx.ordinal, stageElapsed := 0, dryLatched := false, plan := rest
        digest := planDigest rest, lastExit := .door } := by
  have stopped : (drumStop (stageStarted r s)).cpx = (stageStarted r s).cpx := by simp
  rw [guardExited, dropHead_cpx, stopped, stageStarted_cpx]

theorem guardExited_door (r : StageRec) (rest : List StageRec) (s : State) : (guardExited r rest s).atu.door = s.atu.door := by
  have stopped : (guardExited r rest s).atu = (stageStarted r s).atu := by simp [guardExited]
  rw [stopped, stageStarted_door]

section
variable {r : StageRec} {rest : List StageRec} (held : s.cpx.plan = r :: rest) (opened : s.atu.door.isClosed = false)
include held opened

theorem startHead_paused (other : r.kind ≠ .guard) : startHead s = enterPaused .door (stageStarted r s) := by
  unfold startHead
  rw [held, startStages]
  dsimp only
  rw [if_neg (by simp [opened]), if_neg other]

variable (guard : r.kind = .guard)
include guard

theorem startHead_guard :
    startHead s =
      if r.final then enterDone .complete (guardExited r rest s)
      else if rest = [] then enterStarved (guardExited r rest s)
      else startHead (guardExited r rest s) := by
  have plan : (guardExited r rest s).cpx.plan = rest := by rw [guardExited_cpx]
  have head : startHead (guardExited r rest s) = startStages rest (guardExited r rest s) := by rw [startHead, plan]
  rw [head, startHead, held, startStages]
  dsimp only
  rw [if_neg (by simp [opened]), if_pos guard]
  refine if_congr Iff.rfl rfl ?_
  cases rest <;> rfl

end

/-! ### A stage start, as O52 states it -/

section
variable {r : StageRec} {rest : List StageRec}

/-- The STAGE_START report with its event flag. -/
def stageGiven (r : StageRec) (s v : State) : State :=
  raiseFlag .stageChanged (report .cpx .info 0x51
    (u16 (bump 65535 s.cpx.ordinal) ++ u8 r.kind.code ++ u8 r.pattern ++ u8 s.cpx.plan.length ++ u8 s.cpx.lastExit.code) v)

theorem stageGiven_of_held (held : s.cpx.plan = r :: rest) (v : State) :
    stageGiven r s v = raiseFlag .stageChanged (report .cpx .info 0x51
      (u16 (bump 65535 s.cpx.ordinal) ++ u8 r.kind.code ++ u8 r.pattern ++ u8 (rest.length + 1) ++ u8 s.cpx.lastExit.code) v) := by
  rw [stageGiven, held, List.length_cons]

theorem installedSettings_eq (r : StageRec) (s : State) :
    installedSettings r s = ⟨r.kind, bump 65535 s.cpx.ordinal,
      if r.kind = .dry ∨ r.kind = .timed then
        some ⟨min r.exhaustTarget ((s.profile.fireThreshold : Int) - 100), r.inletLimit⟩ else none⟩ := heatSettings_eq r _ _

theorem heats_iff (k : StageKind) : k.heats = true ↔ k = .dry ∨ k = .timed := by cases k <;> decide

theorem rests_iff (k : StageKind) : k.heats = false ↔ k = .cool ∨ k = .guard := by cases k <;> decide

theorem stageStarted_line (other : r.kind ≠ .guard) : SameLine (stageGiven r s s) (stageStarted r s) := by
  refine ⟨?_, ?_⟩
  · rw [stageStarted_link, if_neg other]
    rfl
  · rw [stageStarted_cpx, stageGiven, raiseFlag_eq, report_eq]

/-- A stage that is not GUARD, behind a door that is not CLOSED, pauses. -/
theorem startHead_paused_link (held : s.cpx.plan = r :: rest) (opened : s.atu.door.isClosed = false) (other : r.kind ≠ .guard) :
    (startHead s).link =
      (report .cpx .info 0x50 [BitVec.ofNat 8 s.cpx.cycle.code, 5, 2] (lockLostLeaving s.drum (stageGiven r s s))).link := by
  rw [startHead_paused held opened other, enterPaused_link, stageStarted_drum, if_neg other, lockLostLeaving_ran, stageStarted_cpx]
  exact (((stageStarted_line other).lockLostLeaving s.drum).report ..).link

theorem blowerRequest_on_open (opened : s.atu.door.settled ≠ some .closed) (notOn : s.atu.blower ≠ .on) :
    (blowerRequest .on s).atu.blower = .off := by
  by_cases off : s.atu.blower = .off
  · rw [blowerRequest_off_off off .on (.inr opened), off]
  · have runOn : s.atu.blower = .runOn := by cases blower : s.atu.blower <;> simp_all
    rw [blowerRequest_open_runOn opened runOn, enterOff_atu]
    rfl

theorem blowerRequest_on_blower (closed : s.atu.door.settled = some .closed) : (blowerRequest .on s).atu.blower = .on := by
  by_cases on : s.atu.blower = .on
  · simp [blowerRequest, on]
  · rw [blowerRequest_on_closed closed on]
    rfl

end

/-! ### The append that ends a STARVED cycle's wait (R131, R132) -/

theorem ownPlanAppend_starved {payload : List Byte} {n : Nat} {rs : List StageRec} (count : payload.length / 20 = n) (few : n ≤ 16)
    (starved : s.cpx.cycle = .starved) (empty : s.cpx.plan = []) (h : checkStages 1 (chunks 20 n payload) = .ok rs) :
    ownPlanAppend payload s =
      let stored := rs.map fun r => if r.kind.heats then { r with exhaustTarget := clampTarget s.profile r } else r
      (startHead (enterCycle .running ((setPlan stored s).updCpx fun c => { c with starve := none })),
        if stored = rs then .ok [] else .clamped []) := by
  simp [ownPlanAppend, starved, empty, count, Config.planCapacity, Nat.not_lt.mpr few, h]

theorem enterRunning_appended (stored : List StageRec) (starved : s.cpx.cycle = .starved) :
    enterCycle .running ((setPlan stored s).updCpx fun c => { c with starve := none }) =
      report .cpx .info 0x50 [4, 3, 0]
        (s.updCpx fun c =>
          { c with plan := stored, digest := crc16 (stored.flatMap stageBytes), starve := none, cycle := .running }) := by
  have code : u8 ((setPlan stored s).updCpx fun c => { c with starve := none }).cpx.cycle.code = [4] := by
    rw [State.updCpx_cpx, show (setPlan stored s).cpx.cycle = s.cpx.cycle from rfl, starved]
    rfl
  rw [enterCycle, reportChange, code]
  rfl


/-! ### A stage that starts behind a CLOSED door (R134) -/

section
variable {r : StageRec} {rest : List StageRec}

/-- DRUM at a stage start: the stage installed, and the drum stopped for GUARD or asked to run. -/
theorem stageStarted_drum_guard (guard : r.kind = .guard) (s : State) :
    (stageStarted r s).drum = drumStopped s.profile (stageInstalled r s.drum) := by
  rw [stageStarted_drum, if_pos guard]

theorem stageStarted_drum_other (other : r.kind ≠ .guard) (s : State) : (stageStarted r s).drum = drumRan (stageInstalled r s.drum) := by
  rw [stageStarted_drum, if_neg other]

theorem stageStarted_installed (r : StageRec) (s : State) :
    (stageStarted r s).drum.active = tableEntry s.drum r.pattern ∧ (stageStarted r s).drum.activeIdx = r.pattern ∧
    (stageStarted r s).drum.offset = (if r.pattern = s.drum.activeIdx then s.drum.offset else 0) ∧
    (stageStarted r s).drum.reversalRun = 0 ∧ (stageStarted r s).drum.tangleRun = 0 ∧ (stageStarted r s).drum.iBase = none ∧
    (stageStarted r s).drum.baseSum = 0 ∧ (stageStarted r s).drum.baseCount = 0 ∧ (stageStarted r s).drum.stageTangles = 0 ∧
    (stageStarted r s).drum.guardStage = decide (r.kind = .guard) ∧ (stageStarted r s).drum.burstRevs = r.burstRevs ∧
    (r.kind ≠ .guard → (stageStarted r s).drum.burst = false) := by
  by_cases guard : r.kind = .guard
  · obtain ⟨active, idx, offset, run, tangle, base, sum, count, tangles, stage, revs⟩ := drumStopped_installed s.profile r s.drum
    rw [stageStarted_drum_guard guard]
    exact ⟨active, idx, offset, run, tangle, base, sum, count, tangles, stage, revs, fun other => absurd guard other⟩
  · obtain ⟨active, idx, offset, run, tangle, base, sum, count, tangles, stage, revs, burst⟩ := drumRan_installed r s.drum
    rw [stageStarted_drum_other guard]
    exact ⟨active, idx, offset, run, tangle, base, sum, count, tangles, stage, revs, fun other => by simp [burst, other]⟩

/-- The estimate is the one of the settings taken (R69). -/
theorem stageStarted_estimate (r : StageRec) (s : State) :
    (stageStarted r s).mest.estimate = estimateFor (stageStarted r s).mest (60000 / (stageStarted r s).drum.active.rpm) := by
  obtain ⟨active, -⟩ := stageStarted_installed r s
  rw [active, stageStarted_mest]
  rfl

theorem stageStarted_given (held : s.cpx.plan = r :: rest) {v : State} (left : v = if r.kind = .guard then lockLostLeaving s.drum s else s) :
    (stageStarted r s).link = (raiseFlag .stageChanged (report .cpx .info 0x51
      (u16 (bump 65535 s.cpx.ordinal) ++ u8 r.kind.code ++ u8 r.pattern ++ u8 (rest.length + 1) ++ u8 s.cpx.lastExit.code) v)).link := by
  rw [stageStarted_link, held, left, List.length_cons]

end

theorem HeatSet.enterPaused {st : Option HeatSettings} {enable : Bool} {d : Nat} (cause : PauseCause) (h : HeatSet s st enable d) :
    HeatSet (enterPaused cause s) st false 0 := by
  have stopped (v : State) (same : v.hstg = s.hstg) : HeatSet (drumStop (Machine.hstgStop true v)) st false 0 :=
    (h.of_hstg same).hstgStop_cycle.of_hstg (by simp)
  have reported {v : State} (old : CycleState) (h : HeatSet v st false 0) : HeatSet (reportChange old v) st false 0 := h.of_hstg (by simp)
  unfold Machine.enterPaused
  dsimp only
  refine reported _ ?_
  split
  · exact stopped (s.updCpx _) rfl
  · exact (stopped (s.updCpx _) rfl).blowerRequest_zero .runOn

theorem drumStopped_activeIdx (p : Profile) (d : Drum) : (drumStopped p d).activeIdx = d.activeIdx := by
  obtain ⟨state⟩ := d
  cases state <;> rfl

/-- Settles O52: a stage start block by block, behind a CLOSED door, behind another, and as an append brings it. -/
theorem stageStartInstallsTheStage : Obligations.StageStartInstallsTheStage := by
  refine ⟨fun r rest s t held closed started => ?closed, fun r rest s t held opened started => ⟨fun other => ?paused, fun guard => ?exits⟩,
    fun tag records f s u owner some few fits pass due starved empty stored clamped => ?appended⟩
  case closed =>
    rw [startHead_closed held (isClosed_true closed)] at started
    subst started
    have heat := stageStarted_heatSet r closed
    obtain ⟨active, idx, offset, run, tangle, base, sum, count, tangles, stage, revs, burst⟩ := stageStarted_installed r s
    refine ⟨stageStarted_cpx r s, by rw [heat.settings, installedSettings_eq], fun heats => ?_, fun rests => ?_, active, idx, offset, run, tangle,
      base, sum, count, tangles, stage, revs, burst, by rw [stageStarted_mest]; rfl, stageStarted_estimate r s, fun guard => ?_, fun other => ?_,
      by rw [stageStarted_link]; rfl, by simp, by simp, by simp, by simp, fun v left => stageStarted_given held left⟩
    · rw [← heats_iff] at heats
      exact ⟨by rw [heat.enable, heats], by rw [heat.demand, if_pos heats]⟩
    · rw [← rests_iff] at rests
      exact ⟨by rw [heat.enable, rests], by rw [heat.demand, if_neg (by simp [rests])]⟩
    · rw [stageStarted_atu, if_pos guard, blowerRequest_off_blower, stageStarted_drum_guard guard]
      exact ⟨rfl, drumStopped_not_moving _ _⟩
    · rw [stageStarted_atu, if_neg other, blowerRequest_on_blower closed, stageStarted_drum_other other]
      exact ⟨rfl, fun stopped confirmed => drumRan_surge stopped confirmed⟩
  case paused =>
    rw [startHead_paused held (isClosed_false opened) other] at started
    have off := enterPaused_heatOff .door (stageStarted r s)
    have link := startHead_paused_link held (isClosed_false opened) other
    rw [startHead_paused held (isClosed_false opened) other, stageGiven_of_held held] at link
    subst started
    have mest : (enterPaused .door (stageStarted r s)).mest = (stageStarted r s).mest := by simp
    refine ⟨by rw [enterPaused_cpx, stageStarted_cpx], ?_, off.enable, off.demand, off.active, fun notOn => ?_, ?_, ?_, ?_,
      by rw [mest, stageStarted_mest]; rfl, by rw [mest, stageStarted_mest], by simp, by simp, by simp, by simp, link⟩
    · have paused := HeatSet.enterPaused .door ⟨stageStarted_settings r s, rfl, rfl⟩
      rw [paused.settings, installedSettings_eq]
    · rw [enterPaused_atu_door, stageStarted_atu, if_neg other, blowerRequest_on_open opened notOn]
    · rw [enterPaused_atu_door, stageStarted_door]
    · rw [enterPaused_drum]
      exact drumStopped_state _ _
    · obtain ⟨-, idx, -⟩ := stageStarted_installed r s
      rw [enterPaused_drum, drumStopped_activeIdx, idx]
  case exits =>
    have first := startHead_guard held (isClosed_false opened) guard
    have door := guardExited_door r rest s
    have cpx := guardExited_cpx r rest s
    have notClosed : (guardExited r rest s).atu.door.isClosed = false := by rw [door]; exact isClosed_false opened
    refine ⟨fun final => ?_, fun more empty => ?_, fun more some => ⟨guardExited r rest s, ?_, door, cpx⟩⟩
    · rw [started, first, if_pos final, enterDone_cpx, cpx]
      exact ⟨rfl, rfl, rfl, rfl, rfl⟩
    · rw [started, first, if_neg (by simp [more]), if_pos empty, enterStarved_cpx_open notClosed, cpx]
      exact ⟨rfl, rfl, rfl, empty, rfl, rfl, rfl⟩
    · rw [started, first, if_neg (by simp [more]), if_neg some]
  case appended =>
    have count : (records.flatMap stageBytes).length / 20 = records.length := by
      rw [flatMap_length stageBytes_length]
      omega
    have admitted : lengthAllowed 0x20 (records.flatMap stageBytes).length = true := by
      rw [flatMap_length stageBytes_length]
      generalize records.length = n at some few
      interval_cases n <;> rfl
    have cut : chunks 20 records.length (records.flatMap stageBytes) = records.map stageBytes := chunks_encoded stageBytes_length records
    have run : exec (.planAppend tag (records.flatMap stageBytes)) s =
        .next (answered 0x20 tag (ownPlanAppend (records.flatMap stageBytes) (atOwner f s)).2.payload
          (ownPlanAppend (records.flatMap stageBytes) (atOwner f s)).1) := congrArg _ (serve_due due admitted)
    have nonempty : records ≠ [] := List.ne_nil_of_length_pos some
    rw [run, ← owner, ownPlanAppend_starved count (by omega) starved empty (by rw [cut]; exact checkStages_encoded fits nonempty pass)]
    dsimp only
    rw [clampedTargets_eq, ← clamped, clampedReply, enterRunning_appended stored starved]


end Sys2Proof.Machine
end

section
/-! SUPPORT. START and RESUME at their owner, block by block: O54. -/

namespace Sys2Proof.Machine

variable {s t u : State}

/-! ### What DRUM hands SAA, as HSTG and the blower leave it -/

theorem applyDemand_drumToSaa (s : State) : (applyDemand s).paths.drumToSaa = s.paths.drumToSaa := by
  have drop (v : State) (e : Element) : (dropWaiting e v).paths.drumToSaa = v.paths.drumToSaa := by
    unfold dropWaiting
    split <;> rfl
  have chosen (v : State) (e : Element) : (choose e v).paths.drumToSaa = v.paths.drumToSaa := by
    unfold choose
    dsimp only
    split <;> rfl
  unfold applyDemand
  dsimp only
  split
  · exact (foldl_keeps (fun v : State => v.paths.drumToSaa) (fun v e => switchOff .normal e v) (fun _ _ => rfl) _ _).trans
      (foldl_keeps (fun v : State => v.paths.drumToSaa) (fun v e => dropWaiting e v) drop _ _)
  · split
    · exact foldl_keeps (fun v : State => v.paths.drumToSaa) _ chosen _ _
    · rfl

theorem hstgResume_drumToSaa (heat : Bool) (s : State) : (hstgResume heat s).paths.drumToSaa = s.paths.drumToSaa := by
  unfold hstgResume
  split
  · rfl
  · exact applyDemand_drumToSaa _

theorem hstgResume_heatSet {st : Option HeatSettings} {enable : Bool} {d : Nat} (heat : Bool) (h : HeatSet s st enable d) :
    HeatSet (hstgResume heat s) st heat (if heat then d else 0) := by
  cases heat with
  | true => exact h.setHeatEnable true
  | false => exact h.hstgStarved

theorem blowerRequest_drumToSaa (q : BlowerRequest) (s : State) : (blowerRequest q s).paths.drumToSaa = s.paths.drumToSaa := by
  have off (v : State) : (enterOff v).paths.drumToSaa = v.paths.drumToSaa := by
    rw [enterOff_cases]
    split
    · exact hstgStop_drumToSaa false (blowerOff v)
    · rfl
  have runOn (v : State) : (enterRunOn v).paths.drumToSaa = v.paths.drumToSaa := hstgStop_drumToSaa false (v.updAtu _)
  unfold blowerRequest
  (repeat' split) <;> first
    | rfl
    | exact off s
    | exact runOn s

/-- What a run request hands SAA: the surge request of a drum that starts from rest. -/
def runSends (d : Drum) : List DrumMsg := if d.state = .stopped ∧ d.stopConfirmed = true then [.request (d.txn + 1)] else []

theorem runRequest_drumToSaa (s : State) : (runRequest s).paths.drumToSaa = s.paths.drumToSaa ++ runSends s.drum := by
  unfold runRequest runSends
  cases state : s.drum.state
  case stopped => cases confirmed : s.drum.stopConfirmed <;> simp [startFromRest_eq]
  all_goals simp

/-! ### START (R136) -/

theorem ownStart_notReady (h : s.cpx.cycle ≠ .ready) : ownStart s = (s, .badState) := if_pos h

theorem ownStart_doorOpen (ready : s.cpx.cycle = .ready) (opened : s.atu.door.settled ≠ some .closed) : ownStart s = (s, .doorOpen) := by
  simp [ownStart, ready, isClosed_false opened]

/-- The state a START hands the head's start. -/
def cycleBegun (s : State) : State :=
  enterCycle .running (blowerRequest .on (mestStart ((s.updCpx fun c =>
    { c with cycleElapsed := 0, ordinal := 0, endReason := .none, pauseCause := none, lastExit := .none }).updDrum
      fun d => { d with history := [] })))

theorem ownStart_accepted (ready : s.cpx.cycle = .ready) (closed : s.atu.door.settled = some .closed) (free : tripBars s.trip = false) :
    ownStart s = (startHead (cycleBegun s), .ok []) := by
  simp [ownStart, ready, isClosed_true closed, free, cycleBegun]

theorem cycleBegun_cpx (s : State) :
    (cycleBegun s).cpx =
      { s.cpx with cycleElapsed := 0, ordinal := 0, endReason := .none, pauseCause := none, lastExit := .none, cycle := .running } := by
  simp [cycleBegun, enterCycle_cpx, mestStart]

theorem cycleBegun_drum (s : State) : (cycleBegun s).drum = { s.drum with history := [] } := by simp [cycleBegun, mestStart]

theorem cycleBegun_door (s : State) : (cycleBegun s).atu.door = s.atu.door := by simp [cycleBegun, mestStart]

theorem cycleBegun_mest (s : State) :
    (cycleBegun s).mest =
      { s.mest with f := none, foldCounter := 0, sparse := 0, sparseWarned := false, trend := [], estimate := none, stage := none } := by
  simp [cycleBegun, mestStart]

theorem cycleBegun_line (ready : s.cpx.cycle = .ready) :
    SameLine (report .cpx .info 0x50 [2, 3, 0] (s.updCpx fun c => { c with cycleElapsed := 0 })) (cycleBegun s) := by
  have blown (v : State) (line : SameLine (s.updCpx fun c => { c with cycleElapsed := 0 }) v) (cycle : v.cpx.cycle = .ready) :
      SameLine (report .cpx .info 0x50 [2, 3, 0] (s.updCpx fun c => { c with cycleElapsed := 0 })) (enterCycle .running v) := by
    refine (line.report ..).trans ⟨?_, ?_⟩
    · rw [enterCycle_link, cycle]
      rfl
    · rw [enterCycle_cpx, report_eq]
  exact blown _ ⟨by simp [mestStart], by simp [mestStart]⟩ (by simp [mestStart, ready])

/-- A stage start keeps the history ring and the revolution number. -/
theorem stageStarted_history (r : StageRec) (s : State) :
    (stageStarted r s).drum.history = s.drum.history ∧ (stageStarted r s).drum.revNumber = s.drum.revNumber := by
  have stops (p : Profile) (d : Drum) : (drumStopped p d).history = d.history ∧ (drumStopped p d).revNumber = d.revNumber := by
    obtain ⟨state⟩ := d
    cases state <;> exact ⟨rfl, rfl⟩
  have runs (d : Drum) : (drumRan d).history = d.history ∧ (drumRan d).revNumber = d.revNumber := by
    obtain ⟨state, _, _, _, _, _, confirmed⟩ := d
    cases state <;> cases confirmed <;> exact ⟨rfl, rfl⟩
  rw [stageStarted_drum]
  split
  · exact stops s.profile (stageInstalled r s.drum)
  · exact runs (stageInstalled r s.drum)

/-- With an empty trend ring there is no estimate (R70). -/
theorem estimateFor_noTrend {m : Mest} (empty : m.trend = []) (pt : Nat) : estimateFor m pt = none := by
  unfold estimateFor
  rw [empty]
  split <;> rfl

section
variable {r : StageRec} {rest : List StageRec}

/-- The head a START sets to work. -/
theorem cycleBegun_started (held : s.cpx.plan = r :: rest) (closed : s.atu.door.settled = some .closed) :
    startHead (cycleBegun s) = stageStarted r (cycleBegun s) :=
  startHead_closed (by rw [cycleBegun_cpx]; exact held) (by rw [cycleBegun_door]; exact isClosed_true closed)

theorem stageBegun_mest (r : StageRec) (s : State) :
    (stageStarted r (cycleBegun s)).mest = ⟨none, 0, 0, false, some ⟨r.kind, 1,
      if r.kind = .dry then some ⟨r.dryTarget, r.confirm, r.dryMinExhaust⟩ else none⟩, [], none, 0, false⟩ := by
  have none (st : Option MestStage) (pt : Nat) : estimateFor { (cycleBegun s).mest with stage := st, b := 0, drySignalled := false } pt = none :=
    estimateFor_noTrend (by rw [cycleBegun_mest]) pt
  rw [stageStarted_mest, none, cycleBegun_mest, cycleBegun_cpx]
  rfl

theorem stageBegun_link (held : s.cpx.plan = r :: rest) (ready : s.cpx.cycle = .ready) {v : State}
    (given : v = report .cpx .info 0x50 [2, 3, 0] (s.updCpx fun c => { c with cycleElapsed := 0 })) :
    (stageStarted r (cycleBegun s)).link = (raiseFlag .stageChanged (report .cpx .info 0x51
      (u16 1 ++ u8 r.kind.code ++ u8 r.pattern ++ u8 (rest.length + 1) ++ [0x00])
      (if r.kind = .guard then lockLostLeaving s.drum v else v))).link := by
  have line := cycleBegun_line ready
  rw [← given] at line
  have lost (w : State) : lockLostLeaving (cycleBegun s).drum w = lockLostLeaving s.drum w := by
    rw [cycleBegun_drum]
    rfl
  rw [stageStarted_link, cycleBegun_cpx, held, lost, List.length_cons]
  split
  · exact (((line.lockLostLeaving s.drum).report ..).raiseFlag _).link
  · exact ((line.report ..).raiseFlag _).link

end

/-! ### RESUME (R156, R157) -/

theorem exec_resume {tag : Byte} {f : InFrame} {s : State} (due : requestDue 0x32 tag [] f s) :
    exec (.resume tag []) s = .next (answered 0x32 tag (ownResume (atOwner f s)).2.payload (ownResume (atOwner f s)).1) :=
  congrArg _ (serve_due due rfl)

/-- HOST_SILENT is the one PAUSE-class cause. -/
theorem pauseTripActive_eq (t : TripTable) : pauseTripActive t = decide (t.hostSilent.state = .active) := by
  unfold pauseTripActive
  cases state : t.hostSilent.state <;> simp [allCauses, tripClass, TripTable.get, state]

theorem ownResume_notPaused (h : s.cpx.cycle ≠ .paused) : ownResume s = (s, .badState) := if_pos h

section
variable (paused : s.cpx.cycle = .paused)
include paused

theorem ownResume_doorOpen (opened : s.atu.door.settled ≠ some .closed) : ownResume s = (s, .doorOpen) := by
  simp [ownResume, paused, isClosed_false opened]

variable (closed : s.atu.door.settled = some .closed)
include closed

theorem ownResume_moving (moves : s.drum.state ≠ .stopped) : ownResume s = (s, .busy) := by
  simp [ownResume, paused, isClosed_true closed, moves]

theorem ownResume_silent (stopped : s.drum.state = .stopped) (silent : s.trip.hostSilent.state = .active) : ownResume s = (s, .tripped) := by
  simp [ownResume, paused, isClosed_true closed, stopped, pauseTripActive_eq, silent]

/-- The state an accepted RESUME carries on from. -/
def resumable (s : State) : State := (s.updTrip silenceCleared).updCpx fun c => { c with pauseCause := none }

theorem ownResume_accepted (stopped : s.drum.state = .stopped) (heard : s.trip.hostSilent.state ≠ .active) :
    ownResume s = (resumed (resumable s), .ok []) := by
  have quiet : pauseTripActive s.trip = false := by rw [pauseTripActive_eq, decide_eq_false heard]
  unfold ownResume
  rw [if_neg (not_not_intro paused), if_neg (by simp [isClosed_true closed]), if_neg (not_not_intro stopped), if_neg (by simp [quiet])]
  rfl

end

/-- An entry of HOST_SILENT that is not ACTIVE is CLEAR after RESUME. -/
theorem silenceCleared_eq {t : TripTable} (heard : t.hostSilent.state ≠ .active) :
    silenceCleared t = { t with hostSilent := { t.hostSilent with state := .clear } } := by
  unfold silenceCleared
  split
  · rfl
  · next notHeld =>
    have clear : t.hostSilent.state = .clear := by cases state : t.hostSilent.state <;> simp_all
    rw [← clear]

/-! ### A stage that continues -/

/-- The drum's baseline emptied, and a run request unless the stage is GUARD. -/
def drumResumed (guard : Bool) (s : State) : State :=
  if guard then s.updDrum emptyBaseline else runRequest (s.updDrum emptyBaseline)

theorem drumResumed_frame (guard : Bool) (s : State) :
    (drumResumed guard s).hstg = s.hstg ∧ (drumResumed guard s).atu = s.atu ∧ (drumResumed guard s).mest = s.mest ∧
    (drumResumed guard s).link = s.link ∧ (drumResumed guard s).cpx = s.cpx ∧ (drumResumed guard s).prof = s.prof := by
  unfold drumResumed
  split <;> simp

theorem drumResumed_drum (guard : Bool) (s : State) :
    (drumResumed guard s).drum = if guard then emptyBaseline s.drum else drumRan (emptyBaseline s.drum) := by
  unfold drumResumed
  cases guard with
  | true => rfl
  | false => exact runRequest_drum _

theorem drumResumed_drumToSaa (guard : Bool) (s : State) :
    (drumResumed guard s).paths.drumToSaa = s.paths.drumToSaa ++ if guard then [] else runSends (emptyBaseline s.drum) := by
  unfold drumResumed
  cases guard with
  | true => exact (List.append_nil _).symm
  | false => exact runRequest_drumToSaa _

/-- The steps both continuations of RESUME share, up to their report: the cycle state, MEST, DRUM, HSTG and the blower. -/
def continuing (q : BlowerRequest) (guard heat : Bool) (cycle : CycleState) (s : State) : State :=
  blowerRequest q (hstgResume heat (drumResumed guard (mestResume (s.updCpx fun c => { c with cycle := cycle }))))

section
variable (q : BlowerRequest) (guard heat : Bool) (cycle : CycleState) (s : State)

theorem continuing_drum :
    (continuing q guard heat cycle s).drum = if guard then emptyBaseline s.drum else drumRan (emptyBaseline s.drum) := by
  have kept (v : State) : (blowerRequest q (hstgResume heat v)).drum = v.drum := by simp
  rw [continuing, kept, drumResumed_drum]
  rfl

theorem continuing_drumToSaa :
    (continuing q guard heat cycle s).paths.drumToSaa = s.paths.drumToSaa ++ if guard then [] else runSends (emptyBaseline s.drum) := by
  rw [continuing, blowerRequest_drumToSaa, hstgResume_drumToSaa, drumResumed_drumToSaa]
  rfl

theorem continuing_mest : (continuing q guard heat cycle s).mest = { s.mest with b := 0 } := by
  have kept (v : State) : (blowerRequest q (hstgResume heat v)).mest = v.mest := by simp
  obtain ⟨-, -, mest, -⟩ := drumResumed_frame guard (mestResume (s.updCpx fun c => { c with cycle := cycle }))
  rw [continuing, kept, mest]
  rfl

theorem continuing_atu : (continuing q guard heat cycle s).atu = (blowerRequest q s).atu := by
  obtain ⟨-, atu, -, -, -, prof⟩ := drumResumed_frame guard (mestResume (s.updCpx fun c => { c with cycle := cycle }))
  refine blowerRequest_atu_congr q ?_ ?_
  · simp [atu]
  · simp [State.profile_eq, prof]

theorem continuing_cpx : (continuing q guard heat cycle s).cpx = { s.cpx with cycle := cycle } := by
  have kept (v : State) : (blowerRequest q (hstgResume heat v)).cpx = v.cpx := by simp
  obtain ⟨-, -, -, -, cpx, -⟩ := drumResumed_frame guard (mestResume (s.updCpx fun c => { c with cycle := cycle }))
  rw [continuing, kept, cpx]
  rfl

theorem continuing_line : SameLine s (continuing q guard heat cycle s) := by
  have kept (v : State) : (blowerRequest q (hstgResume heat v)).link = v.link := by simp
  obtain ⟨-, -, -, link, -⟩ := drumResumed_frame guard (mestResume (s.updCpx fun c => { c with cycle := cycle }))
  refine ⟨?_, by rw [continuing_cpx]⟩
  rw [continuing, kept, link]
  rfl

theorem continuing_heatSet :
    HeatSet (continuing q guard heat cycle s) s.hstg.settings heat (if heat then s.hstg.demand else 0) ∨
      HeatSet (continuing q guard heat cycle s) s.hstg.settings heat 0 := by
  obtain ⟨hstg, -⟩ := drumResumed_frame guard (mestResume (s.updCpx fun c => { c with cycle := cycle }))
  have before : HeatSet (drumResumed guard (mestResume (s.updCpx fun c => { c with cycle := cycle }))) s.hstg.settings s.hstg.heatEnable
      s.hstg.demand := by
    refine HeatSet.of_hstg hstg ⟨rfl, rfl, rfl⟩
  exact (hstgResume_heatSet heat before).blowerRequest q

end

section
variable (r : StageRec) (s : State)

theorem resumeStage_eq :
    resumeStage r s =
      reportChange .paused (continuing (if r.kind = .guard then .off else .on) (decide (r.kind = .guard)) r.kind.heats .running s) := by
  unfold resumeStage continuing drumResumed
  dsimp only
  by_cases guard : r.kind = .guard
  · rw [if_pos guard, if_pos guard, if_pos (decide_eq_true guard)]
    rfl
  · rw [if_neg guard, if_neg guard, if_neg (by simp [guard])]
    rfl

theorem resumeStarved_eq :
    resumeStarved s =
      reportChange .paused ((continuing .on s.drum.guardStage false .starved s).updCpx fun c =>
        { c with starve := some ⟨s.profile.starveLimit, 0⟩ }) := by
  have limit (v : State) (prof : v.prof = s.prof) :
      reportChange .paused (v.updCpx fun c => { c with starve := some ⟨v.profile.starveLimit, 0⟩ }) =
        reportChange .paused (v.updCpx fun c => { c with starve := some ⟨s.profile.starveLimit, 0⟩ }) := by
    rw [State.profile_eq, prof]
    rfl
  obtain ⟨-, -, -, -, -, prof⟩ := drumResumed_frame s.drum.guardStage (mestResume (s.updCpx fun c => { c with cycle := .starved }))
  exact limit (continuing .on s.drum.guardStage false .starved s) (by simp [continuing, prof])

theorem resumeStage_link : (resumeStage r s).link = (report .cpx .info 0x50 [5, 3, 0] s).link := by
  rw [resumeStage_eq, reportChange_eq, continuing_cpx]
  exact ((continuing_line ..).report .cpx .info 0x50 [5, 3, 0]).link

theorem resumeStarved_link : (resumeStarved s).link = (report .cpx .info 0x50 [5, 4, 0] s).link := by
  have line (q : BlowerRequest) (guard heat : Bool) (cycle : CycleState) (tm : Option StarveTimer) :
      SameLine s ((continuing q guard heat cycle s).updCpx fun c => { c with starve := tm }) :=
    (continuing_line q guard heat cycle s).trans ⟨rfl, rfl⟩
  rw [resumeStarved_eq, reportChange_eq, State.updCpx_cpx, continuing_cpx]
  exact ((line ..).report .cpx .info 0x50 [5, 4, 0]).link

end

end Sys2Proof.Machine
end

section
/-! SUPPORT. The three cases of RESUME (R157), and O54. -/

namespace Sys2Proof.Machine

variable {s t u : State}

/-! ### RESUME by the stage and the plan -/

theorem resumed_stage {r : StageRec} {rest : List StageRec} (held : s.cpx.plan = r :: rest) (active : s.cpx.stageActive = true) :
    resumed s = resumeStage r s := by
  unfold resumed
  rw [currentStage_of_head active held]

theorem resumed_starved (empty : s.cpx.plan = []) : resumed s = resumeStarved s := by
  have none : currentStage s.cpx = none := by simp [currentStage, empty]
  unfold resumed
  rw [none, empty]
  rfl

theorem resumed_head (some : s.cpx.plan ≠ []) (inactive : s.cpx.stageActive = false) : resumed s = resumeHead s := by
  have none : currentStage s.cpx = none := by simp [currentStage, inactive]
  have filled : s.cpx.plan.isEmpty = false := by simpa using some
  unfold resumed
  rw [none, filled]
  rfl

theorem resumed_frame (s : State) :
    (resumed s).trip = s.trip ∧ (resumed s).saa = s.saa ∧ (resumed s).efe = s.efe ∧ (resumed s).prof = s.prof := by
  unfold resumed
  split
  · simp
  · split <;> simp

/-- The drum with its baseline emptied, set to run. -/
theorem drumRan_confirmed {d : Drum} (stopped : d.state = .stopped) (confirmed : d.stopConfirmed = true) :
    (drumRan (emptyBaseline d)).state = .surgeWait := drumRan_surge (d := emptyBaseline d) stopped confirmed

theorem drumRan_unconfirmed {d : Drum} (stopped : d.state = .stopped) (unconfirmed : d.stopConfirmed = false) :
    (drumRan (emptyBaseline d)).state = .stopped ∧ (drumRan (emptyBaseline d)).runPending = true := by
  simp [drumRan, emptyBaseline, stopped, unconfirmed]

/-- A run request over an emptied baseline, as O54 writes it. -/
theorem runRequest_resumed {v : State} (emptied : v = s.updDrum fun d => { d with baseSum := 0, baseCount := 0, iBase := none, tangleRun := 0 }) :
    v.drum = emptyBaseline s.drum ∧ (runRequest v).drum = drumRan (emptyBaseline s.drum) ∧
    (runRequest v).paths.drumToSaa = s.paths.drumToSaa ++ runSends (emptyBaseline s.drum) := by
  rw [emptied]
  exact ⟨rfl, runRequest_drum _, runRequest_drumToSaa _⟩

/-- What a report of a state change leaves as it was. -/
theorem reportChange_blocks (old : CycleState) (s : State) :
    (reportChange old s).drum = s.drum ∧ (reportChange old s).paths = s.paths ∧ (reportChange old s).mest = s.mest ∧
    (reportChange old s).atu = s.atu ∧ (reportChange old s).hstg = s.hstg ∧ (reportChange old s).cpx = s.cpx := by simp

theorem resumeStage_blocks (r : StageRec) (s : State) :
    (resumeStage r s).drum = (if decide (r.kind = .guard) then emptyBaseline s.drum else drumRan (emptyBaseline s.drum)) ∧
    (resumeStage r s).paths.drumToSaa =
      s.paths.drumToSaa ++ (if decide (r.kind = .guard) then [] else runSends (emptyBaseline s.drum)) ∧
    (resumeStage r s).mest = { s.mest with b := 0 } ∧
    (resumeStage r s).atu = (blowerRequest (if r.kind = .guard then .off else .on) s).atu ∧
    (resumeStage r s).hstg.heatEnable = r.kind.heats := by
  rw [resumeStage_eq]
  generalize (if r.kind = .guard then BlowerRequest.off else .on) = q
  obtain ⟨drum, paths, mest, atu, hstg, -⟩ := reportChange_blocks .paused
    (continuing q (decide (r.kind = .guard)) r.kind.heats .running s)
  rw [drum, paths, mest, atu, hstg]
  refine ⟨continuing_drum .., continuing_drumToSaa .., continuing_mest .., continuing_atu .., ?_⟩
  obtain heat | heat := continuing_heatSet q (decide (r.kind = .guard)) r.kind.heats .running s
  · exact heat.enable
  · exact heat.enable

theorem resumeStarved_blocks (s : State) :
    (resumeStarved s).drum = (if s.drum.guardStage then emptyBaseline s.drum else drumRan (emptyBaseline s.drum)) ∧
    (resumeStarved s).paths.drumToSaa = s.paths.drumToSaa ++ (if s.drum.guardStage then [] else runSends (emptyBaseline s.drum)) ∧
    (resumeStarved s).mest = { s.mest with b := 0 } ∧ (resumeStarved s).atu = (blowerRequest .on s).atu ∧
    (resumeStarved s).hstg.heatEnable = false ∧ (resumeStarved s).hstg.demand = 0 := by
  rw [resumeStarved_eq]
  generalize entered : (continuing .on s.drum.guardStage false .starved s).updCpx _ = v
  obtain ⟨drum, paths, mest, atu, hstg, -⟩ := reportChange_blocks .paused v
  rw [drum, paths, mest, atu, hstg, ← entered]
  refine ⟨continuing_drum .., continuing_drumToSaa .., continuing_mest .., continuing_atu .., ?_⟩
  obtain heat | heat := continuing_heatSet .on s.drum.guardStage false .starved s
  · exact ⟨heat.enable, heat.demand⟩
  · exact ⟨heat.enable, heat.demand⟩

/-- The head that starts on RESUME, the cycle in RUNNING with its report. -/
theorem resumeHead_eq (paused : s.cpx.cycle = .paused) :
    resumeHead s = startHead (blowerRequest .on (report .cpx .info 0x50 [5, 3, 0] (s.updCpx fun c => { c with cycle := .running }))) := by
  rw [resumeHead, enterCycle, reportChange_eq, paused]
  rfl

theorem resumeHead_cpx (some : s.cpx.plan ≠ []) (closed : s.atu.door.isClosed = true) :
    (resumeHead s).cpx =
      { s.cpx with
        cycle := .running, stageActive := true, ordinal := bump 65535 s.cpx.ordinal, stageElapsed := 0, dryLatched := false } := by
  obtain ⟨r, rest, held⟩ := List.exists_cons_of_ne_nil some
  have begun : (blowerRequest .on (enterCycle .running s)).cpx = { s.cpx with cycle := .running } := by simp [enterCycle_cpx]
  rw [resumeHead, startHead_closed (r := r) (rest := rest) (by rw [begun]; exact held) (by simpa using closed), stageStarted_cpx, begun]

/-- Behind a CLOSED door RESUME keeps the plan and the pause cause as they stand. -/
theorem resumed_cpx_keeps (closed : s.atu.door.isClosed = true) :
    (resumed s).cpx.pauseCause = s.cpx.pauseCause ∧ (resumed s).cpx.plan = s.cpx.plan := by
  unfold resumed
  split
  · rw [resumeStage_cpx]
    exact ⟨rfl, rfl⟩
  · split
    · rw [resumeStarved_cpx]
      exact ⟨rfl, rfl⟩
    · next some =>
      rw [resumeHead_cpx (by simpa using some) closed]
      exact ⟨rfl, rfl⟩

/-- A stage that continues, as O54 states it. -/
theorem resumed_stage_blocks {r : StageRec} {rest : List StageRec} (held : s.cpx.plan = r :: rest) (active : s.cpx.stageActive = true)
    (closed : s.atu.door.settled = some .closed) (stopped : s.drum.state = .stopped)
    (drums : s.drum = u.drum) (paths : s.paths = u.paths) (line : SameLine u s) :
    (resumed s).cpx = { s.cpx with cycle := .running } ∧ (resumed s).mest = { s.mest with b := 0 } ∧
    (resumed s).link = (report .cpx .info 0x50 [5, 3, 0] u).link ∧
    (∀ v : State, v = u.updDrum (fun d => { d with baseSum := 0, baseCount := 0, iBase := none, tangleRun := 0 }) →
      (r.kind ≠ .guard → (resumed s).drum = (runRequest v).drum ∧ (resumed s).paths.drumToSaa = (runRequest v).paths.drumToSaa) ∧
      (r.kind = .guard → (resumed s).drum = v.drum)) ∧
    (r.kind = .dry ∨ r.kind = .timed → (resumed s).hstg.heatEnable = true) ∧
    (r.kind ≠ .guard → (resumed s).atu.blower = .on ∧ (s.drum.stopConfirmed = true → (resumed s).drum.state = .surgeWait) ∧
      (s.drum.stopConfirmed = false → (resumed s).drum.state = .stopped ∧ (resumed s).drum.runPending = true)) ∧
    (r.kind = .guard → (resumed s).atu.blower = .off ∧ (resumed s).drum.state = .stopped) := by
  obtain ⟨drum, sent, mest, atu, heat⟩ := resumeStage_blocks r s
  rw [resumed_stage held active]
  refine ⟨resumeStage_cpx r s, mest, (resumeStage_link r s).trans (line.report ..).link, fun v emptied => ?_, fun heats => by rw [heat, heats_iff]; exact heats,
    fun other => ⟨?_, ?_⟩, fun guard => ⟨?_, ?_⟩⟩
  · obtain ⟨same, ran, sends⟩ := runRequest_resumed emptied
    rw [drum, sent, same, ran, sends, drums, paths]
    exact ⟨fun other => by rw [decide_eq_false other]; exact ⟨rfl, rfl⟩, fun guard => by rw [decide_eq_true guard]; rfl⟩
  · rw [atu, if_neg other, blowerRequest_on_blower closed]
  · rw [drum, decide_eq_false other]
    exact ⟨drumRan_confirmed stopped, drumRan_unconfirmed stopped⟩
  · rw [atu, if_pos guard, blowerRequest_off_blower]
  · rw [drum, decide_eq_true guard]
    exact stopped

/-- A cycle that returns to STARVED, as O54 states it. -/
theorem resumed_starved_blocks (empty : s.cpx.plan = []) (closed : s.atu.door.settled = some .closed)
    (drums : s.drum = u.drum) (paths : s.paths = u.paths) (line : SameLine u s) :
    (resumed s).cpx = { s.cpx with cycle := .starved, starve := some ⟨s.profile.starveLimit, 0⟩ } ∧
    (resumed s).mest = { s.mest with b := 0 } ∧ (resumed s).hstg.heatEnable = false ∧ (resumed s).hstg.demand = 0 ∧
    (resumed s).atu.blower = .on ∧ (resumed s).link = (report .cpx .info 0x50 [5, 4, 0] u).link ∧
    ∀ v : State, v = u.updDrum (fun d => { d with baseSum := 0, baseCount := 0, iBase := none, tangleRun := 0 }) →
      (s.drum.guardStage = false →
        (resumed s).drum = (runRequest v).drum ∧ (resumed s).paths.drumToSaa = (runRequest v).paths.drumToSaa) ∧
      (s.drum.guardStage = true → (resumed s).drum = v.drum) := by
  obtain ⟨drum, sent, mest, atu, enable, demand⟩ := resumeStarved_blocks s
  rw [resumed_starved empty]
  refine ⟨resumeStarved_cpx s, mest, enable, demand, by rw [atu, blowerRequest_on_blower closed], (resumeStarved_link s).trans (line.report ..).link, fun v emptied => ?_⟩
  obtain ⟨same, ran, sends⟩ := runRequest_resumed emptied
  rw [drum, sent, same, ran, sends, drums, paths]
  exact ⟨fun other => by rw [other]; exact ⟨rfl, rfl⟩, fun guard => by rw [guard]; rfl⟩

/-- Settles O54: START and RESUME by their checks, then each block after the head's start or the continuation. -/
theorem startAndResumeSetTheCycleToWork : Obligations.StartAndResumeSetTheCycleToWork := by
  refine ⟨fun tag f s u owner due => ?start, fun tag f s u owner due => ?resume⟩
  case start =>
    rw [exec_start due, ← owner]
    refine ⟨fun other => by rw [ownStart_notReady other]; rfl, fun ready opened => by rw [ownStart_doorOpen ready opened]; rfl,
      fun ready closed bars => by rw [ownStart_tripped ready (isClosed_true closed) bars]; rfl, fun ready closed free r rest held => ?_⟩
    rw [ownStart_accepted ready closed free, cycleBegun_started held closed]
    have door : (cycleBegun u).atu.door.settled = some .closed := by rw [cycleBegun_door, closed]
    have heat := stageStarted_heatSet r door
    obtain ⟨history, revolution⟩ := stageStarted_history r (cycleBegun u)
    obtain ⟨-, idx, -⟩ := stageStarted_installed r (cycleBegun u)
    have frame : (cycleBegun u).trip = u.trip ∧ (cycleBegun u).saa = u.saa ∧ (cycleBegun u).efe = u.efe ∧ (cycleBegun u).prof = u.prof := by
      simp [cycleBegun, mestStart]
    obtain ⟨trip, saa, efe, prof⟩ := frame
    refine ⟨_, rfl, ?_, stageBegun_mest r u, by rw [history, cycleBegun_drum], by rw [revolution, cycleBegun_drum], idx, ?_, fun other => ?_,
      fun guard => ?_, by simp [trip], by simp [saa], by simp [efe], by simp [prof], fun v given => stageBegun_link held ready given⟩
    · rw [stageStarted_cpx, cycleBegun_cpx]
      rfl
    · rw [heat.enable, Bool.eq_iff_iff, heats_iff, decide_eq_true_iff]
    · rw [stageStarted_atu, if_neg other, blowerRequest_on_blower door]
    · rw [stageStarted_atu, if_pos guard, blowerRequest_off_blower]
  case resume =>
    rw [exec_resume due, ← owner]
    refine ⟨fun other => by rw [ownResume_notPaused other]; rfl, fun paused opened => by rw [ownResume_doorOpen paused opened]; rfl,
      fun paused closed => ⟨fun moves => by rw [ownResume_moving paused closed moves]; rfl,
        fun stopped silent => by rw [ownResume_silent paused closed stopped silent]; rfl, fun stopped heard => ?_⟩⟩
    rw [ownResume_accepted paused closed stopped heard]
    obtain ⟨trip, saa, efe, prof⟩ := resumed_frame (resumable u)
    have cleared : (resumable u).trip = { u.trip with hostSilent := { u.trip.hostSilent with state := .clear } } := silenceCleared_eq heard
    have closedNow : (resumable u).atu.door.settled = some .closed := closed
    obtain ⟨pause, plan⟩ := resumed_cpx_keeps (s := resumable u) (isClosed_true closed)
    refine ⟨resumed (resumable u), rfl, trip.trans cleared, saa, efe, prof, pause, plan, fun r rest held active => ?stage, fun empty => ?starved,
      fun some inactive => ?head⟩
    case stage => exact resumed_stage_blocks (s := resumable u) held active closedNow stopped rfl rfl ⟨rfl, rfl⟩
    case starved => exact resumed_starved_blocks (s := resumable u) empty closedNow rfl rfl ⟨rfl, rfl⟩
    case head =>
      rw [trip, resumed_head (s := resumable u) some inactive]
      refine ⟨resumeHead_cpx (s := resumable u) some (isClosed_true closed), ?_⟩
      rw [resumeHead_eq (s := resumable u) paused]
      rfl

end Sys2Proof.Machine
end
